-- ==== Sys2Proof/Word.lean ====
section
/-! DEFINITION. The word types of the SK-480 (R9: registers are 32 bits, little-endian) and their plainest arithmetic. -/

namespace Sys2Proof

abbrev Byte := BitVec 8
/-- One 32-bit register or descriptor word (R9). -/
abbrev Word := BitVec 32
/-- A 64-bit quantity (R9). -/
abbrev DWord := BitVec 64

/-- Bits [hi:lo] of a number. -/
def bitsN (n hi lo : Nat) : Nat := (n / 2 ^ lo) % 2 ^ (hi - lo + 1)

/-- Bit `i` of a number. -/
def bitN (n i : Nat) : Bool := (n / 2 ^ i) % 2 == 1

/-- Bits [hi:lo] of a word, as a number. -/
def bits (w : Word) (hi lo : Nat) : Nat := bitsN w.toNat hi lo

/-- Bit `i` of a word. -/
def bit (w : Word) (i : Nat) : Bool := bitN w.toNat i

/-- A flag as a number, for building register words. -/
def b2n (b : Bool) : Nat := if b then 1 else 0

/-- The word of a number. -/
def w32 (n : Nat) : Word := BitVec.ofNat 32 n

/-- A 32-bit count that saturates at 0xFFFF_FFFF (R395). -/
def sat32 (n : Nat) : Nat := min n 0xFFFFFFFF

/-- Adds one to a 32-bit saturating count. -/
def inc32 (n : Nat) : Nat := sat32 (n + 1)

/-- The 64-bit number whose low and high words are `lo` and `hi` (R9). -/
def pair64 (lo hi : Word) : Nat := lo.toNat + hi.toNat * 2 ^ 32

/-- The bytes of a number, little-endian (R9). -/
def leBytes (n : Nat) : Nat → List Byte
  | 0 => []
  | k + 1 => BitVec.ofNat 8 n :: leBytes (n / 256) k

/-- The number that little-endian bytes hold. -/
def leNat : List Byte → Nat
  | [] => 0
  | b :: bs => b.toNat + 256 * leNat bs

/-- Ceiling of a quotient. -/
def ceilDiv (a b : Nat) : Nat := (a + b - 1) / b

end Sys2Proof
end

