-- ==== Sys2Proof/Syntax.lean ====
section
/-! DEFINITION. The commands of the SK-480: one constructor per row of spec/opcode_table.json, in the table's order. The table gives no operand fields; the operands here are what the rule of the row needs from outside (log 1). -/

namespace Sys2Proof

/-- How a completion answers a device read (R220, R297). -/
inductive DmaAnswer where
  | data (bytes : List Byte)
  | ur
  | ca
  /-- So many bytes that carry poison. -/
  | poison (len : Nat)
  deriving DecidableEq, Repr

/-- How a descriptor read failed (R253, cause 0x04). -/
inductive ReadFail where
  | ur | ca | poison | timeout
  deriving DecidableEq, Repr

/-- The requests of R286 that no BAR takes. -/
inductive BadRequest where
  | memory | io | atomic
  deriving DecidableEq, Repr

/-- Why a TLP is dropped (R304). -/
inductive BadTlp where
  | malformed | flowControl | receiverOverflow
  deriving DecidableEq, Repr

/-- An endpoint that answers SPDM: a port's DOE or the management endpoint (R345). -/
inductive Endpoint where
  | doe (port : Nat)
  | mgmt
  deriving DecidableEq, Repr

/-- Where an accessor of a register stands (R408). -/
inductive Accessor where
  | port (p : Nat)
  | mgmt
  deriving DecidableEq, Repr

/-- A clock domain of R350 that has a PLL. -/
inductive Domain where
  | hub (h : Nat) | fabric (b : Nat) | steep (s : Nat) | port (p : Nat) | kiln (h : Nat) | steward (h : Nat)
  deriving DecidableEq, Repr

/-- A block that the reset controller resets by itself (R374). -/
inductive Block where
  | port (p : Nat) | steep (s : Nat) | base (b : Nat) | kiln (k : Nat) | tier (h : Nat) | staging (h : Nat) | lace (l : Nat)
  deriving DecidableEq, Repr

/-- A unit of R386: kind and number. -/
structure UnitId where
  kind : Nat
  inst : Nat
  deriving DecidableEq, Repr

/-- How the record read of a steeping ends: R171 steps 1 to 5, R127, R173. -/
inductive SteepResult where
  | ok | media | corrupt | tableMissing | tileCrc
  deriving DecidableEq, Repr

/-- How the record write of a kilning ends: R125, R174. -/
inductive KilnResult where
  | ok | media | tileCrc
  deriving DecidableEq, Repr

/-- Facts of an unlock token that R346 judges. -/
structure Token where
  length : Nat
  signed : Bool
  serial : DWord
  nonce : DWord
  deriving DecidableEq, Repr

/-- A rail's measured level against its range (R421 to R423). -/
inductive RailLevel where
  | inRange | out | collapsed
  deriving DecidableEq, Repr

/-- One extent of an Add Dynamic Capacity Response (R291). -/
structure DcExtent where
  dpa : Nat
  length : Nat
  deriving DecidableEq, Repr

/-- How a request or a completion comes to a function: through which port and in which stream (R309, R310). -/
structure Via where
  port : Nat
  /-- The IDE stream that carries it, by number; none outside any (R309, R310). -/
  ide : Option Nat
  deriving DecidableEq, Repr

/-- A pulse on PPS_IN: what the steward adds to RATE_PPB for its edge, ppb, and how long it stays high, ns (R381, R417). -/
structure PpsPulse where
  adjust : Int
  highNs : Nat
  deriving DecidableEq, Repr

/-- A TLP that a port drops, and why (R304). -/
structure DroppedTlp where
  port : Nat
  what : BadTlp
  deriving DecidableEq, Repr

/-- A stream that is keyed: 0 the link stream, 1 to 8 the selective ones, 9 CXL.cachemem IDE, which runs in containment or in skid mode (R309). -/
structure IdeSel where
  stream : Nat
  skid : Bool
  deriving DecidableEq, Repr

/-- A failed check of an IDE stream: its number, and whether the TLP was misrouted (R304, R310). -/
structure IdeCheck where
  stream : Nat
  misrouted : Bool
  deriving DecidableEq, Repr

/-- A fetch past its deadline: its page, and how the checks of the record that is served end (R130). -/
structure LateFetch where
  page : Nat
  result : SteepResult
  deriving DecidableEq, Repr

/-- The commands. `op` names an operation entry by its fetch number; `ses` a management session (R336). -/
inductive Instr where
  | descriptorFetch (partner ring : Nat) (d : List Word)
  | descriptorReadFailed (partner ring : Nat) (why : ReadFail)
  | descriptorComplete (op : Nat)
  | recordWriteFailed (op : Nat)
  | fenceRelease (op : Nat)
  | nopFence (op : Nat)
  | heartbeat (op : Nat)
  | copy (op : Nat)
  | fill (op : Nat)
  | compare (op : Nat)
  | compareAndSwap (op : Nat)
  | reduce (op : Nat)
  | loadGrist (op : Nat)
  | storeGrist (op : Nat)
  | caskOpen (op : Nat)
  | caskCommit (op : Nat)
  | caskClose (op : Nat)
  | caskDrop (op : Nat)
  | pageHint (op : Nat)
  | pin (op : Nat)
  | unpin (op : Nat)
  | slotBind (op : Nat)
  | append (op : Nat)
  | attend (op : Nat)
  | slotPark (op : Nat)
  | slotResume (op : Nat)
  | slotUnbind (op : Nat)
  | picotRebuild (op : Nat)
  | tableLoad (op : Nat)
  | tableRetire (op : Nat)
  | peerRead (op : Nat)
  | peerWrite (op : Nat)
  | portSession (op : Nat)
  | journalMark (op : Nat)
  | slotCallStart (op : Nat)
  | slotTurnTimeout (op : Nat)
  | fastMarkingApply (slot : Nat)
  | bobSlotDb (via : Via) (partner : Nat) (value : Word) (nbytes : Nat)
  | mailboxCallComplete (slot : Nat)
  | ringSqDb (port partner ring : Nat) (value : Word) (nbytes : Nat) (ide : Option Nat)
  | ringCqDb (port partner : Nat) (value : Word) (nbytes : Nat) (ide : Option Nat)
  | ringEnable (port partner ring : Nat) (value : Word) (ide : Option Nat)
  | ringDisableSq (port partner ring : Nat) (value : Word) (ide : Option Nat)
  | ringDisableCq (port partner : Nat) (value : Word) (ide : Option Nat)
  | cqDisableTakesEffect (partner : Nat)
  | irqCoalesceExpiry (partner : Nat)
  | msixUnmask (via : Via) (vector : Nat)
  | busMasterEnableClear (port : Nat)
  | busMasterEnableSet (port : Nat)
  | flr (port : Nat)
  | d3hotEntry (port : Nat)
  | d0Return (port : Nat)
  | perst (port : Nat)
  | linkLoss (port : Nat)
  | linkUp (port width speed : Nat) (flit cxl : Bool)
  | l0pEntry (port : Nat)
  | l1Entry (port : Nat)
  | cxlMemRead (port addr len : Nat) (ide : Option Nat)
  | cxlMemWrite (port addr : Nat) (data : List Byte) (ide : Option Nat)
  | cxlMemReadTimeout (read : Nat)
  | cowCopyDone (page : Nat)
  | pendingTableRoom
  | dataWindowWrite (port partner offset : Nat) (data : List Byte) (enables : Bool) (ide : Option Nat)
  | dataWindowRead (port partner offset len : Nat) (enables : Bool) (ide : Option Nat)
  | dataWindowReadTimeout (partner : Nat)
  | sessionIdleTimeout (partner : Nat)
  | writeCombineDrain (port : Nat)
  | peerWindowRequest (port pbr addr : Nat) (write : Option (List Byte)) (len : Nat) (ide : Option Nat)
  | poolPwCommit (ses window : Nat) (value : Word)
  | dmaCompletion (via : Via) (tag : Nat) (answer : DmaAnswer)
  | dmaCompletionTimeout (port tag : Nat)
  | undecodedRequest (port : Nat) (what : BadRequest)
  | malformedTlp (tlp : DroppedTlp)
  | ideCheckFail (port : Nat) (check : IdeCheck)
  | extentAdd (ses tenant partner dpa granules leaseMs share : Nat)
  | viewBind (ses tenant partner dpa granules leaseMs blobRecord blobOffset : Nat)
  | extentWithdraw (ses record : Nat)
  | leaseSet (ses record leaseMs : Nat)
  | leaseRenew (ses record : Nat)
  | extentQuery (ses record : Nat)
  | caskGrant (ses owner cask grantee aliasId minVersion rights : Nat)
  | caskRevoke (ses owner cask grantee : Nat)
  | poolJoin (ses ns member : Nat)
  | memberSet (ses member kind pbr port : Nat)
  | memberRemove (ses member : Nat)
  | remoteGrant (ses member base length tenant rights : Nat)
  | remoteRevoke (ses grant : Nat)
  | addDynamicCapacityResponse (via : Via) (offered : Nat) (accepted : List DcExtent)
  | releaseDynamicCapacity (via : Via) (dpa length : Nat)
  | getDynamicCapacityExtentList (via : Via)
  | getDynamicCapacityConfiguration (via : Via)
  | identifyMemoryDevice (via : Via)
  | getSupportedLogs (via : Via)
  | getLog (via : Via) (effectsLog : Bool)
  | getEventRecords (via : Via) (log : Nat)
  | clearEventRecords (via : Via) (log : Nat) (handles : List Nat)
  | getEventInterruptPolicy (via : Via)
  | setEventInterruptPolicy (via : Via) (policy : List Nat)
  | getHealthInfo (via : Via)
  | getTimestamp (via : Via)
  | setTimestamp (via : Via) (value : DWord)
  | unsupportedMailboxCommand (via : Via) (opcode : Nat)
  | leaseExpire (record : Nat)
  | offerLapse (record : Nat)
  | drainEnd (record : Nat)
  | scrubComplete (record : Nat)
  | tenantCreate (ses tenant quota : Nat)
  | tenantRemove (ses tenant : Nat)
  | tenantRemovalDone (tenant : Nat)
  | partnerBind (ses partner tenant port maxOps : Nat)
  | partnerUnbind (ses partner : Nat)
  | fastMark (ses slot tenant : Nat)
  | fastClear (ses slot : Nat)
  | pinQuotaSet (ses tenant quota : Nat)
  | kilnPrefSet (ses tenant format table split : Nat)
  | ownerClaim (i3c : Bool) (root : BitVec 384)
  | ownerTransfer (ses : Nat) (root : BitVec 384)
  | getVersion (ep : Endpoint)
  | getCapabilities (ep : Endpoint)
  | negotiateAlgorithms (ep : Endpoint)
  | getDigests (ep : Endpoint)
  | getCertificate (ep : Endpoint)
  | challenge (ep : Endpoint) (nonce : DWord)
  | getMeasurements (ep : Endpoint) (index : Nat)
  | keyExchange (ep : Endpoint)
  | finish (ep : Endpoint) (chainRoot : Option (BitVec 384))
  | ideKm (port : Nat) (sel : IdeSel) (key : BitVec 256)
  | unlockToken (ses : Option Nat) (token : Token) (failsAt : Option Nat)
  | tokenLockoutExpiry
  | park (ses : Nat)
  | parkDrainEnd
  | parkedEntered
  | unpark (ses : Nat)
  | activeResumed
  | faultGet (ses : Nat) (seq : Word)
  | faultClear (ses : Nat)
  | journalExport (ses tenant cask first count : Nat)
  | phaseSet (ses phase : Nat)
  | regRead (ses offset : Nat)
  | regWrite (ses offset : Nat) (value : Word)
  | unsupportedManagementCommand (ses opcode : Nat)
  | qosResvWrite (ses index : Nat) (value : Word)
  | jrnCtlWrite (ses : Nat) (value : Word)
  | secLock (ses : Nat)
  | grsRomDataRead (port : Nat) (ide : Option Nat)
  | counterLoRead (who : Accessor) (offset : Nat) (ide : Option Nat)
  | registerWrite (port offset : Nat) (value : Word) (enables : BitVec 4) (ide : Option Nat)
  | steepingDone (page : Nat) (result : SteepResult)
  | kilningDone (page : Nat) (result : KilnResult)
  | pageMoveStart (page : Nat)
  | evictionStart (half : Nat) (stack : Option Nat)
  | counterHalve
  | fetchDeadline (fetch : LateFetch)
  | collection (stack : Nat)
  | kilnSpaceTimeout (op : Nat)
  | journalCommitDone (op : Nat)
  | powerFail
  | powerFailFlushDone
  | railOutOfRange (rail : Nat)
  | railCollapse (rail : Nat)
  | powerOn
  | coldPowerOn
  | devRstN (lowNs : Nat) (released : Bool)
  | bringupStart
  | bringupStep
  | ready
  | startTimeout
  | verify
  | writeA
  | writeB
  | restart
  | verifyDone
  | slotWriteDone (ok : Bool)
  | uploadWrite (toLen : Bool) (offset : Nat) (data : List Byte)
  | rebuildEnd
  | refLost
  | clockSwitch (domain : Domain)
  | clockSwitchAck (domain : Domain)
  | clockSwitchTimeout (domain : Domain)
  | blockReset (block : Block) (cause : Word)
  | blockIdleAck (block : Block)
  | blockIdleTimeout (block : Block)
  | unitFault (unit : UnitId) (code : Nat) (detail : List Nat) (tenant : Nat)
  | correctedCoalesceExpiry (unit : UnitId) (code : Nat)
  | stewardTakeover
  | arbiterTakeover
  | stewardShedStage (waitUs : Nat)
  | stewardShedExit
  | quietEntry
  | standbyEntry
  | wake
  | wakeDone
  | governorStep
  | dieLimiter (die watts : Nat)
  | telemetryFrame (slots : List Nat)
  | vrHotN (low : Bool)
  | thermalTrip (unit : UnitId)
  | refreshStart
  | creditReturn (stack request levelKib : Nat)
  | ageLimit (stack request : Nat)
  | rowIdlePrecharge (stack bank : Nat)
  | ppsIn (pulse : PpsPulse)
  | slewEnd
  | holdover
  | configSnapshot
  | hdmDecoderCommit (via : Via) (decoder base size ways : Nat)
  | flrResetComplete (port : Nat)
  | l1Exit (port : Nat)
  | journalCheckpoint
  | rebuildSegmentErase (stack segment : Nat)
  | refreshGapEnd
  | stewardTakeoverDone
  | arbiterTakeoverDone
  | unitTemperatureChange (unit : UnitId) (celsius : Nat)
  deriving DecidableEq, Repr

end Sys2Proof
end

