-- ==== Sys2Proof/Machine/Crc.lean ====
section
/-! DEFINITION. The CRC-32C of R33 and the CRC-64 of R400: reflected, initial value and final XOR all ones. -/

namespace Sys2Proof.Machine.Crc

/-- One bit of a reflected CRC. -/
def shift1 (poly c : Nat) : Nat := if c % 2 = 1 then (c / 2) ^^^ poly else c / 2

def shift8 (poly c : Nat) : Nat :=
  shift1 poly (shift1 poly (shift1 poly (shift1 poly (shift1 poly (shift1 poly (shift1 poly (shift1 poly c)))))))

def run (poly : Nat) (init : Nat) (bs : List Byte) : Nat :=
  bs.foldl (fun c b => shift8 poly (c ^^^ b.toNat)) init

/-- Castagnoli polynomial 0x1EDC_6F41, reflected (R33). -/
def crc32c (bs : List Byte) : Nat := (run 0x82F63B78 0xFFFFFFFF bs) ^^^ 0xFFFFFFFF

/-- Polynomial 0x42F0_E1EB_A9EA_3693, reflected (R400). -/
def crc64 (bs : List Byte) : Nat := (run 0xC96C5795D7870F42 0xFFFFFFFFFFFFFFFF bs) ^^^ 0xFFFFFFFFFFFFFFFF

end Sys2Proof.Machine.Crc
end

