-- ==== Sys2Proof/Config.lean ====
section
/-! DEFINITION. What the manual leaves to the implementation or leaves open: opaque constants (free values), and the fixed figures of the manual. -/

namespace Sys2Proof.Config

/-- Free byte number `n`: a byte the manual leaves unspecified (log 2). -/
opaque freeByte : Nat → Byte
/-- Free number `n`: a value the manual leaves unspecified, such as a stall time (log 2). -/
opaque freeNat : Nat → Nat
/-- Value `n` of the TRNG (R338, R341, R346). -/
opaque trng : Nat → BitVec 512
/-- SHA-384 (R337, R345), a function outside the manual (log 6). -/
opaque sha384 : List Byte → BitVec 384
/-- Derivation of the device root key from the serial's fused secret and the wrap state (R341). -/
opaque deriveRoot : DWord → BitVec 256 → BitVec 256
/-- AES-256 key wrap of RFC 5649 (R341) and its inverse. -/
opaque wrapKey : BitVec 256 → BitVec 512 → BitVec 576
opaque unwrapKey : BitVec 256 → BitVec 576 → BitVec 512
/-- AES-256-XTS of one data unit: key, tweak, bytes (R169, R170). -/
opaque aesXts : BitVec 512 → BitVec 128 → List Byte → List Byte
/-- Code length of a symbol in ROM table `slot`, plane `n` (R154: contents fixed in silicon, not in the manual; log 7). -/
opaque romLen : Nat → Nat → Nat → Nat
/-- Bytes of one kiln journal record, of map pages and of the parking checkpoint (R434 bounds them, log 8). -/
opaque journalBytesRaw : Nat → Nat
opaque mapBytesRaw : Nat → Nat
/-- Whether the replay journal's writer is behind at its n-th record (R402: a matter of timing). -/
opaque jrnBehind : Nat → Bool
/-- What the cells of the retained SRAM give back, at its n-th check, of what was written (R373: a matter of the cells). -/
opaque retainedCells : Nat → List Byte → List Byte
/-- The n-th contents of the retained SRAM's data area: the steward's start log and the location of the latest checkpoint, in a layout that R373 does not give. -/
opaque dataArea : Nat → List Byte
/-- The kiln stack chosen for the n-th record (R109: the choice is the controller's and not reported). -/
opaque kilnPick : Nat → Nat
/-- DRAM bank and row of a line of a steep stack (HBM4, not in the manual). -/
opaque bankOf : Nat → Nat → Nat
opaque rowOf : Nat → Nat → Nat
/-- HBM4 channel of a bank of a stack (not in the manual). -/
opaque channelOf : Nat → Nat
/-- Steep stack of the frame that takes a replay journal record (R396: not stated). -/
opaque ringStack : Nat → Nat
/-- Steep stack of the staging buffer from which the n-th kiln journal record is written (R135: not stated). -/
opaque stagingStack : Nat → Nat
/-- The vector of a function's DOE interrupt, by its DOE control word (R303, log 5). -/
opaque doeVector : Nat → Nat
/-- A doubleword of the AER header log for an error's status bit, and the offset of a capability in the CXL component registers (log 5). -/
opaque headerLog : Nat → Nat → Nat
opaque cxlPointer : Nat → Nat
/-- What the firmware authority's check finds in an image (R368). -/
opaque imageSigned : List Byte → Bool
opaque imageMajor : List Byte → Nat
opaque imageMinor : List Byte → Nat
/-- The device identity certificate chain, whose leaf names the serial number (R345). -/
opaque certChain : DWord → List Byte
/-- ECDSA P-384 signature of some bytes under the leaf key of a device, which is derived from its fused secret (R345). -/
opaque deviceSign : DWord → List Byte → List Byte
/-- Boot ROM and firmware digests (R345, measurement blocks 1 and 2). -/
opaque bootRomDigest : BitVec 384
opaque firmwareDigest : Nat → BitVec 384

/-- R434: a journal record takes at most 4 KiB on each chain. -/
def journalBytes (n : Nat) : Nat := min (journalBytesRaw n) 4096

/-- R434: map pages take at most 16 bytes a page and 128 KiB. -/
def mapBytes (pages n : Nat) : Nat := min (mapBytesRaw n) (16 * pages + 131072)

/-! Figures of the manual. -/

def nPorts : Nat := 28
def nPartners : Nat := 4096
def nTenants : Nat := 1024
def nSlots : Nat := 256
def nRecords : Nat := 262144
def nCasks : Nat := 1048576
def pageBytes : Nat := 65536
def granuleBytes : Nat := 2097152
def msNs : Nat := 1000000
def gib : Nat := 1073741824
/-- R115: 752 GiB of pinned steep in all; R116: 94 GiB on one stack. -/
def pinTotalPages : Nat := 752 * 16384
def pinStackPages : Nat := 94 * 16384
/-- R67: the residency of one fast slot, in pages. -/
def fastPages : Nat := 96 * 16384
/-- R124: lines of the pending-write table of a hub die. -/
def pendLines : Nat := 65536
/-- R314: the credit period, 23.83 ns, in whole nanoseconds (log 10). -/
def creditNs : Nat := 24
/-- R255: operation entries for descriptors on a hub die. -/
def descOps : Nat := 1018
/-- R316: minimum of a fast entry and of the internal entry. -/
def fastMin : Nat := 168
def internalMin : Nat := 8
/-- R132, R151, R162: value of the blob marker, record marker and table marker. -/
def blobMark : Nat := 0x5CA26701
def recordMark : Nat := 0x5CA24B01
def tableMark : Nat := 0x5CA27401
/-- DEV_ALIVE (R272). -/
def alive : Nat := 0x5CA2E480

end Sys2Proof.Config
end

