-- ==== Sys2Proof/Machine/Float.lean ====
section
/-! DEFINITION. The arithmetic of 02_tiles_picots_numerics.md: exact values, the rn and ru roundings of R47 and R432, the element formats of R34 and R42 to R45, dot products, bounds, exp_s, ln_s and merge (R49, R51, R55 to R57), and the narrowings of R59 and R231. -/

namespace Sys2Proof.Machine.Float

/-- An FP32 value, by its bits. -/
abbrev F32 := BitVec 32

/-- An exact value (-1)^neg × m × 2^e, the sign kept for zero too (R432). -/
structure Fx where
  neg : Bool
  m : Nat
  e : Int
  deriving DecidableEq, Repr

/-- The two roundings of R47. -/
inductive Round where
  | rn | ru
  deriving DecidableEq, Repr

/-- How a magnitude is rounded to a whole number of units. -/
inductive Dir where
  | near | up | down
  deriving DecidableEq, Repr

/-- The magnitude m × 2^e in whole units of 2^q. -/
def units (d : Dir) (m : Nat) (e q : Int) : Nat :=
  if q ≤ e then m * 2 ^ (e - q).toNat
  else
    let s := 2 ^ (q - e).toNat
    let k := m / s
    let r := m % s
    match d with
    | .near => if s < 2 * r || (2 * r == s && k % 2 == 1) then k + 1 else k
    | .up => if 0 < r then k + 1 else k
    | .down => k

/-- Exponent of the leading bit of m × 2^e, for m above 0. -/
def topExp (m : Nat) (e : Int) : Int := (Nat.log2 m : Int) + e

/-- m × 2^e is above n × 2^f. -/
def magGt (m : Nat) (e : Int) (n : Nat) (f : Int) : Bool :=
  if f ≤ e then decide (n < m * 2 ^ (e - f).toNat) else decide (n * 2 ^ (f - e).toNat < m)

def signBit (neg : Bool) : Nat := if neg then 0x80000000 else 0

def maxFinite : F32 := 0x7F7FFFFF
def negMaxFinite : F32 := 0xFF7FFFFF

/-- One FP32 result of an exact value, under R47. The sign of an exact zero is `x.neg`. -/
def round (r : Round) (x : Fx) : F32 :=
  if x.m = 0 then BitVec.ofNat 32 (signBit x.neg)
  else
    let top := topExp x.m x.e
    if top < -126 then
      match r with
      | .rn => BitVec.ofNat 32 (signBit x.neg)
      | .ru => if x.neg then 0x80000000 else 0x00800000
    else if magGt x.m x.e 0xFFFFFF 104 then BitVec.ofNat 32 (signBit x.neg + 0x7F7FFFFF)
    else
      let q := top - 23
      let d := match r with
        | .rn => Dir.near
        | .ru => if x.neg then Dir.down else Dir.up
      -- a carry out of the mantissa adds one to the exponent field by itself
      let k := units d x.m x.e q
      BitVec.ofNat 32 (signBit x.neg + ((q + 150).toNat * 0x800000 + k - 0x800000))

/-- The exact value of finite FP32 bits. -/
def ofF32 (w : F32) : Fx :=
  let n := w.toNat
  let ex := bitsN n 30 23
  let f := bitsN n 22 0
  let neg := bitN n 31
  if ex = 0 then ⟨neg, f, -149⟩ else ⟨neg, f + 0x800000, (ex : Int) - 150⟩

/-- The signed integer x.m in units of 2^f, for f at or below x.e. -/
def inUnits (x : Fx) (f : Int) : Int :=
  let v : Int := ((x.m * 2 ^ (x.e - f).toNat : Nat) : Int)
  if x.neg then -v else v

/-- The exact sum, with the zero sign of R432. -/
def addX (a b : Fx) : Fx :=
  let f := min a.e b.e
  let v := inUnits a f + inUnits b f
  if v = 0 then ⟨a.m == 0 && b.m == 0 && a.neg && b.neg, 0, 0⟩
  else ⟨decide (v < 0), v.natAbs, f⟩

/-- The exact product, with the zero sign of R432: −0 only for −0 times a positive factor. -/
def mulX (a b : Fx) : Fx :=
  if a.m = 0 || b.m = 0 then
    ⟨(a.m == 0 && a.neg && b.m != 0 && !b.neg) || (b.m == 0 && b.neg && a.m != 0 && !a.neg), 0, 0⟩
  else ⟨a.neg != b.neg, a.m * b.m, a.e + b.e⟩

/-- The quotient with a sticky bit that keeps every rounding of R47 right. -/
def divX (a b : Fx) : Fx :=
  if a.m = 0 then ⟨a.neg && b.m != 0 && !b.neg, 0, 0⟩
  else
    let k := 64 + Nat.log2 b.m
    let n := a.m * 2 ^ k
    let q := n / b.m
    ⟨a.neg != b.neg, 2 * q + (if n % b.m = 0 then 0 else 1), a.e - b.e - (k : Int) - 1⟩

def negate (a : F32) : F32 := a ^^^ 0x80000000

def add (a b : F32) : F32 := round .rn (addX (ofF32 a) (ofF32 b))
def addUp (a b : F32) : F32 := round .ru (addX (ofF32 a) (ofF32 b))
def sub (a b : F32) : F32 := add a (negate b)
def mul (a b : F32) : F32 := round .rn (mulX (ofF32 a) (ofF32 b))
def div (a b : F32) : F32 := round .rn (divX (ofF32 a) (ofF32 b))

/-- R47, R53: the order of values, +0 above −0, equal only for equal bits. -/
def key (a : F32) : Int :=
  let n := (bitsN a.toNat 30 0 : Int)
  if bitN a.toNat 31 then -n - 1 else n

def max (a b : F32) : F32 := if key a < key b then b else a
def min (a b : F32) : F32 := if key b < key a then b else a

/-! ### Element formats (R34, R42, R43, R230) -/

/-- A stored or operand element format. -/
inductive Fmt where
  | fp32 | bf16 | e4m3 | e5m2 | int32
  deriving DecidableEq, Repr

def Fmt.size : Fmt → Nat
  | .fp32 => 4
  | .bf16 => 2
  | .e4m3 => 1
  | .e5m2 => 1
  | .int32 => 4

/-- What the bits of a float element are. -/
inductive Elem where
  | nan
  | inf (neg : Bool)
  | fin (x : Fx)
  deriving DecidableEq, Repr

/-- Reads one float element of `f` from its bits. -/
def elem (f : Fmt) (n : Nat) : Elem :=
  match f with
  | .fp32 | .int32 =>
    if bitsN n 30 23 = 255 then (if bitsN n 22 0 = 0 then .inf (bitN n 31) else .nan)
    else .fin (ofF32 (BitVec.ofNat 32 n))
  | .bf16 =>
    if bitsN n 14 7 = 255 then (if bitsN n 6 0 = 0 then .inf (bitN n 15) else .nan)
    else .fin (ofF32 (BitVec.ofNat 32 (n * 65536)))
  | .e4m3 =>
    if bitsN n 6 0 = 0x7F then .nan
    else if bitsN n 6 3 = 0 then .fin ⟨bitN n 7, bitsN n 2 0, -9⟩
    else .fin ⟨bitN n 7, 8 + bitsN n 2 0, (bitsN n 6 3 : Int) - 10⟩
  | .e5m2 =>
    if bitsN n 6 2 = 31 then (if bitsN n 1 0 = 0 then .inf (bitN n 7) else .nan)
    else if bitsN n 6 2 = 0 then .fin ⟨bitN n 7, bitsN n 1 0, -16⟩
    else .fin ⟨bitN n 7, 4 + bitsN n 1 0, (bitsN n 6 2 : Int) - 17⟩

/-- The bits of a finite element are a subnormal of `f`. -/
def subnormal (f : Fmt) (n : Nat) : Bool :=
  match f with
  | .fp32 => bitsN n 30 23 == 0 && bitsN n 22 0 != 0
  | .bf16 => bitsN n 14 7 == 0 && bitsN n 6 0 != 0
  | .e4m3 => bitsN n 6 3 == 0 && bitsN n 2 0 != 0
  | .e5m2 => bitsN n 6 2 == 0 && bitsN n 1 0 != 0
  | .int32 => false

/-- Shape of an FP8 format: mantissa bits, exponent of the unit of the least binade, greatest finite magnitude's code. -/
def fp8Shape (f : Fmt) : Nat × Int × Nat :=
  match f with
  | .e5m2 => (2, -16, 0x7B)
  | _ => (3, -9, 0x7E)

/-- The bits of an exact value in an FP8 format: nearest even, subnormals included, saturating (R43, R231). -/
def narrowFp8 (f : Fmt) (x : Fx) : Nat :=
  let (mb, e0, top) := fp8Shape f
  let s := if x.neg then 0x80 else 0
  if x.m = 0 then s
  else
    let q := Max.max e0 (topExp x.m x.e - (mb : Int))
    let k := units .near x.m x.e q
    s + Nat.min top ((q - e0).toNat * 2 ^ mb + k)

/-- The bits of an exact value in BF16: nearest even, saturating, results below 2^-126 to zero (R59, R231). -/
def narrowBf16 (x : Fx) : Nat :=
  let s := if x.neg then 0x8000 else 0
  if x.m = 0 then s
  else
    let top := topExp x.m x.e
    if top < -126 then s
    else
      let q := top - 7
      let k := units .near x.m x.e q
      s + Nat.min 0x7F7F ((q + 134).toNat * 128 + k - 128)

/-- R231 narrow: the bits of an FP32 result in `f`. -/
def narrow (f : Fmt) (r : F32) : Nat :=
  match f with
  | .fp32 | .int32 => r.toNat
  | .bf16 => narrowBf16 (ofF32 r)
  | .e4m3 | .e5m2 => narrowFp8 f (ofF32 r)

/-- R231 canonical NaN of a format. -/
def canonicalNan : Fmt → Nat
  | .fp32 | .int32 => 0x7FC00000
  | .bf16 => 0x7FC0
  | .e4m3 | .e5m2 => 0x7F

/-- R231 expand: none for a NaN. -/
def expand (f : Fmt) (n : Nat) : Option F32 :=
  match elem f n with
  | .nan => none
  | .inf neg => some (BitVec.ofNat 32 (signBit neg + 0x7F7FFFFF))
  | .fin x =>
    if (f = .fp32 || f = .bf16) && subnormal f n then some (BitVec.ofNat 32 (signBit x.neg))
    else some (round .rn x)

/-! ### APPEND conversion (R43, R44) -/

/-- The exponent of a BF16 scale that is a power of two in [2^-32, 2^31] (R44). -/
def scaleExp (n : Nat) : Option Int :=
  if bitN n 15 || bitsN n 6 0 ≠ 0 then none
  else
    let e := (bitsN n 14 7 : Int) - 127
    if -32 ≤ e && e ≤ 31 then some e else none

/-- Greatest finite element of a stored format, with a sign. -/
def maxElem (f : Fmt) (neg : Bool) : Nat :=
  match f with
  | .bf16 => 0x7F7F + (if neg then 0x8000 else 0)
  | .e5m2 => 0x7B + (if neg then 0x80 else 0)
  | _ => 0x7E + (if neg then 0x80 else 0)

/-- R43: the stored bits of one source element and whether it was replaced or saturated. `e` is the tile scale's exponent. -/
def store (dst src : Fmt) (e : Int) (n : Nat) : Nat × Bool :=
  match elem src n with
  | .nan => (0, true)
  | .inf neg => (maxElem dst neg, true)
  | .fin x =>
    if src = dst then
      if dst = .bf16 && subnormal .bf16 n then ((if x.neg then 0x8000 else 0), true) else (n, false)
    else if subnormal .bf16 n then ((if x.neg then 0x80 else 0), true)
    else
      let y : Fx := ⟨x.neg, x.m, x.e - e⟩
      let r := narrowFp8 dst y
      let (mb, e0, top) := fp8Shape dst
      let q := Max.max e0 (topExp y.m y.e - (mb : Int))
      (r, y.m != 0 && decide (top < (q - e0).toNat * 2 ^ mb + units .near y.m y.e q))

/-- R45: the expanded value of a stored element; none when it is NaN or infinite (R42). -/
def expanded (f : Fmt) (e : Int) (n : Nat) : Option F32 :=
  match elem f n with
  | .fin x => some (round .rn ⟨x.neg, x.m, x.e + e⟩)
  | _ => none

/-! ### Trees (R49, R51, R233) -/

/-- One level of a pairwise tree. -/
def pairs (f : F32 → F32 → F32) : List F32 → List F32
  | a :: b :: t => f a b :: pairs f t
  | [a] => [a]
  | [] => []

/-- A pairwise tree of at most 2^fuel leaves. -/
def tree (f : F32 → F32 → F32) : Nat → List F32 → F32
  | 0, l => l.headD 0
  | n + 1, l => tree f n (pairs f l)

/-- R49. -/
def dot (q k : List F32) : F32 := tree add 8 (List.zipWith mul q k)

/-- R51. -/
def bound (q mx mn : List F32) : F32 :=
  tree addUp 8 (List.zipWith max (List.zipWith mul q mx) (List.zipWith mul q mn))

/-! ### Exponent, logarithm and merge (R55 to R57) -/

def one : F32 := 0x3F800000
/-- R55: the FP32 value nearest to a decimal n / 10^k. -/
def dec (n k : Nat) : F32 := round .rn (divX ⟨false, n, 0⟩ ⟨false, 10 ^ k, 0⟩)

def l2e : F32 := dec 144269504 8
def ln2 : F32 := dec 693147181 9
def sqrt2 : F32 := dec 141421356 8
/-- C6 down to C0. -/
def expCoef : List F32 :=
  [dec 154035357 12, dec 133335581 11, dec 961812913 11, dec 555041087 10, dec 240226507 9, dec 693147181 9, one]
def expTop : F32 := dec 152525835 13
/-- D3 down to D0. -/
def lnCoef : List F32 := [dec 142857143 9, dec 2 1, dec 333333333 9, one]
def lnTop : F32 := dec 111111111 9

/-- R56, for x at or below 0. -/
def expS (x : F32) : F32 :=
  let y := mul x l2e
  let yx := ofF32 y
  if yx.neg && magGt yx.m yx.e 126 0 then 0
  else
    let k := units .near yx.m yx.e 0
    let n : Int := if yx.neg then -(k : Int) else k
    let f := round .rn (addX yx ⟨decide (0 < n), n.natAbs, 0⟩)
    let p := expCoef.foldl (fun p c => add (mul p f) c) expTop
    let px := ofF32 p
    if px.m = 0 || topExp px.m (px.e + n) < -126 then 0 else round .rn ⟨px.neg, px.m, px.e + n⟩

/-- R56, for l at or above 1. -/
def lnS (l : F32) : F32 :=
  let lx := ofF32 l
  let e0 := topExp lx.m lx.e
  let r0 := round .rn ⟨false, lx.m, lx.e - e0⟩
  let big := decide (key sqrt2 < key r0)
  let r := if big then round .rn ⟨false, lx.m, lx.e - e0 - 1⟩ else r0
  let e := if big then e0 + 1 else e0
  let t := div (sub r one) (add r one)
  let t2 := mul t t
  let s := lnCoef.foldl (fun s c => add (mul s t2) c) lnTop
  let ef := round .rn ⟨decide (e < 0), e.natAbs, 0⟩
  add (mul ef ln2) (mul (mul (round .rn ⟨false, 2, 0⟩) t) s)

/-- A non-empty partial (m, l, a) of R57. -/
structure Partial where
  m : F32
  l : F32
  a : List F32
  deriving DecidableEq, Repr

/-- R57. -/
def merge (x y : Option Partial) : Option Partial :=
  match x, y with
  | none, y => y
  | x, none => x
  | some a, some b =>
    let m := max a.m b.m
    let ca := expS (sub a.m m)
    let cb := expS (sub b.m m)
    some ⟨m, add (mul a.l ca) (mul b.l cb), List.zipWith (fun u v => add (mul u ca) (mul v cb)) a.a b.a⟩

end Sys2Proof.Machine.Float
end

