-- ==== Sys2Proof/Machine/Map.lean ====
section
/-! DEFINITION. Sparse tables and byte memories: lists of key and value pairs. A table answers a default for a key it does not list; a memory keeps its addresses rising and lists no zero byte (04_steep_and_kiln.md R125: a byte never written reads 0). -/

namespace Sys2Proof.Machine

/-- A sparse table from numbers. -/
abbrev Map (α : Type) := List (Nat × α)

namespace Map

def get? {α : Type} (m : Map α) (k : Nat) : Option α := (m.find? (fun p => p.1 == k)).map (·.2)

def get {α : Type} (m : Map α) (k : Nat) (d : α) : α := (get? m k).getD d

def erase {α : Type} (m : Map α) (k : Nat) : Map α := m.filter (fun p => p.1 != k)

/-- Sets one key, kept in rising order. -/
def set {α : Type} (m : Map α) (k : Nat) (v : α) : Map α :=
  m.filter (fun p => decide (p.1 < k)) ++ (k, v) :: m.filter (fun p => decide (k < p.1))

def modify {α : Type} (m : Map α) (k : Nat) (f : α → α) : Map α := m.map (fun p => if p.1 == k then (p.1, f p.2) else p)

def keys {α : Type} (m : Map α) : List Nat := m.map (·.1)

end Map

/-- Bytes by address, in canonical form. -/
abbrev Memory := List Host.Cell

namespace Memory

/-- Addresses strictly rising and no listed byte equal to what an unlisted address reads as. -/
abbrev wf (m : Memory) : Prop := List.Pairwise (fun a b => a.1 < b.1) m ∧ ∀ c ∈ m, c.2 ≠ 0

/-- One byte; an address that is not listed reads 0. -/
def read (m : Memory) (a : Nat) : Byte := ((m.find? (fun c => c.1 == a)).map (·.2)).getD 0

/-- The cells of bytes laid at `a` that are not 0. -/
def cells : Nat → List Byte → Memory
  | _, [] => []
  | a, b :: bs => if b = 0 then cells (a + 1) bs else (a, b) :: cells (a + 1) bs

/-- Replaces the bytes at a to a + bs.length − 1. -/
def write (m : Memory) (a : Nat) (bs : List Byte) : Memory :=
  m.filter (fun c => decide (c.1 < a)) ++ cells a bs ++ m.filter (fun c => decide (a + bs.length ≤ c.1))

/-- Zeroes n bytes from a on. -/
def clear (m : Memory) (a n : Nat) : Memory :=
  m.filter (fun c => decide (c.1 < a) || decide (a + n ≤ c.1))

/-- The cells in [a, a + n). -/
def window (m : Memory) (a n : Nat) : Memory := m.filter (fun c => decide (a ≤ c.1) && decide (c.1 < a + n))

/-- Walks rising cells and spells every byte from a on. -/
def spell : Nat → Nat → Memory → List Byte
  | _, 0, _ => []
  | a, n + 1, [] => 0 :: spell (a + 1) n []
  | a, n + 1, c :: t => if c.1 = a then c.2 :: spell (a + 1) n t else 0 :: spell (a + 1) n (c :: t)

/-- The n bytes from a on. -/
def slice (m : Memory) (a n : Nat) : List Byte := spell a n (window m a n)

/-- Copies n bytes from a to b, both in the same memory. -/
def move (m : Memory) (a b n : Nat) : Memory :=
  m.filter (fun c => decide (c.1 < b)) ++ (window m a n).map (fun c => (c.1 - a + b, c.2)) ++ m.filter (fun c => decide (b + n ≤ c.1))

end Memory

end Sys2Proof.Machine
end

