-- ==== Sys2Proof/Machine/State.lean ====
section
/-! DEFINITION. The state of the SK-480: everything spec/ gives the machine, as plain data, the queue of waiting commands, and the state right after reset. Each field's rule and reset value stand in INVENTORY.md. -/

namespace Sys2Proof.Machine

/-- No command of the spec stops the machine with a fault: every error it describes is a status, poison, a refusal code or a state (R275, R390). No constructor, so no run ends here. -/
inductive Fault where
  deriving DecidableEq, Repr

/-- Why a step answers nothing. -/
inductive Refusal where
  /-- The command has no meaning in the model yet. Raised by Dispatch alone; safe: the run stops. -/
  | notModelled (mnemonic : String)
  deriving DecidableEq, Repr

/-- Status names of R275. -/
inductive Status where
  | done | bounds | lenInvalid | align | opcode | unsupported | access | leaseExpired | extentDraining
  | integrity | gristCorrupt | media | tableBusy | tableMissing | versionGone | versionConflict
  | halted | aborted | busy | deadline | resvExceeds | internal
  deriving DecidableEq, Repr

/-! ### Chip and secure store -/

inductive Variant where
  | sk480 | sk470 | sk440
  deriving DecidableEq, Repr

/-- What fuses hold (R1, R283, R284, R368, R378, R347). -/
structure Fuses where
  variant : Variant := .sk480
  stepping : Nat := 0
  serial : DWord := 0
  subsysId : Nat := 0
  compat : Bool := false
  /-- R378: a burnt fuse drives GPO0 to GPO3 low. -/
  gpoMap : BitVec 4 := 0
  faultMap : Bool := false
  minFwMajor : Nat := 0
  unlocks : Nat := 0
  deriving DecidableEq, Repr

/-- The secure store (R337, R341). -/
structure Store where
  anchor : Option (BitVec 384) := none
  wrapState : Option (BitVec 256) := some 0
  deriving DecidableEq, Repr

/-! ### Reset and start-up -/

/-- Where the device stands between power and service (R365 to R370, R423). -/
inductive Stage where
  | off
  | held
  | bringup (step : Nat)
  | up
  | recovery
  deriving DecidableEq, Repr

inductive Phase where
  | bringup | service | test | rebuild | recovery
  deriving DecidableEq, Repr

structure FwSlot where
  valid : Bool := true
  major : Nat := 1
  minor : Nat := 0
  deriving DecidableEq, Repr

/-- R138, R139. -/
inductive Flush where
  | none | running | flushed
  deriving DecidableEq, Repr

/-- R372. -/
inductive RcvStat where
  | idle | busy | verified | written | rejected
  deriving DecidableEq, Repr

inductive RcvJob where
  | none | verify | writeA | writeB
  deriving DecidableEq, Repr

/-- A block reset in progress (R374). -/
structure BlockJob where
  block : Block
  /-- SEQ of the fault that started the reset. -/
  cause : Word
  /-- Clock of the idle request. -/
  since : Nat
  deriving DecidableEq, Repr

structure Rst where
  stage : Stage := .held
  phase : Phase := .bringup
  cause : BitVec 5 := 0
  retLost : Bool := false
  failedStarts : Nat := 0
  startMs : Nat := 0
  startedAt : Nat := 0
  backup : Map Word := []
  blkCtl : Word := 0x64
  gpo : BitVec 4 := 0
  fwA : FwSlot := {}
  fwB : FwSlot := {}
  /-- Version of the running firmware: major, minor (DEV_FW). -/
  fw : Nat × Nat := (0, 0)
  /-- Firmware chosen by step 3, published at READY (R368, R369). -/
  fwChosen : Option (Nat × Nat) := none
  flush : Flush := .none
  deferredReset : Bool := false
  devFault : Bool := false
  blocks : List BlockJob := []
  rcvLen : Nat := 0
  rcvStat : RcvStat := .idle
  rcvJob : RcvJob := .none
  upload : Memory := []
  /-- A debug unlock was open at the last reset: the next start is R348's. -/
  freshStart : Bool := false
  deriving DecidableEq, Repr

structure Pins where
  devReady : Bool := false
  /-- asserted -/
  faultN : Bool := false
  thermtripN : Bool := false
  devRstLow : Bool := false
  powerFailLow : Bool := false
  perstLow : List Nat := []
  vrHot : Bool := false
  /-- Rails that are not in range, by number in R421's order. -/
  rails : Map RailLevel := []
  deriving DecidableEq, Repr

/-! ### Clocks and power -/

inductive ClkMode where
  | run | sleep | deep | off
  deriving DecidableEq, Repr

/-- Which clock a domain runs on (R355). -/
inductive ClkSrc where
  | pll | osc
  deriving DecidableEq, Repr

structure ClkSwitch where
  domain : Domain
  toSrc : ClkSrc
  /-- Clock at which the old clock was asked to stop. -/
  since : Nat
  deriving DecidableEq, Repr

structure Clk where
  refLost : Bool := false
  xtalOk : Bool := false
  lostCore : BitVec 21 := 0
  lostPort : BitVec 28 := 0
  /-- Domains that run on the 8 MHz oscillator. -/
  onOsc : List Domain := []
  switches : List ClkSwitch := []
  deriving DecidableEq, Repr

inductive PState where
  | active | quiet | standby | parked | entering | leaving
  deriving DecidableEq, Repr

structure Pwr where
  state : PState := .active
  ctl : Word := 0x40640032
  cap : Word := 0x708
  /-- Steps applied in governor stages 1 to 5 (R363). -/
  steps : List Nat := [0, 0, 0, 0, 0]
  /-- Powers of the last 100 telemetry frames, mW, newest first (R363, R419). -/
  frames : List Nat := []
  belowSince : Option Nat := none
  /-- Base dies whose limiter gates attention cores (R364). -/
  dieCap : List Nat := []
  /-- Near-memory core limit per cluster, by base die (R216, R364). -/
  dieNear : Map Nat := []
  parkedRefuse : Nat := 0
  waking : Option PState := none
  /-- Clock at which QUIET was entered (R358). -/
  quietAt : Nat := 0
  /-- The parking checkpoint is in the journal (R140). -/
  ckpt : Bool := false
  /-- Step 1 of PARKED entry has ended (R361). -/
  drained : Bool := false
  parkAt : Nat := 0
  /-- Sensed temperatures by kind × 65,536 + number (R386, R428). -/
  temps : Map Nat := []
  deriving DecidableEq, Repr

/-! ### Time -/

structure Tim where
  /-- Nanoseconds of REFCLK since the reset. -/
  clock : Nat := 0
  time : DWord := 0
  /-- Part of a nanosecond, in 10^-9 ns. -/
  frac : Nat := 0
  leaseNs : Nat := 0
  pps : DWord := 0
  nextSec : DWord := 0
  ctl : Word := 0x800003E8
  rate : Int := 0
  holdover : Bool := false
  locked : Bool := false
  slewLeft : Nat := 0
  lastEdge : Option Nat := none
  goodEdges : Nat := 0
  rejectCnt : Nat := 0
  deriving DecidableEq, Repr

/-! ### Faults -/

/-- A fault record (R384); the CRC is computed from it. -/
structure FaultRec where
  time : DWord
  seq : Word
  code : Nat
  cls : Nat
  action : Nat
  unit : UnitId
  count : Nat
  detail : List Nat
  fwMajor : Nat
  phase : Nat
  pstate : Nat
  tenant : Nat
  deriving DecidableEq, Repr

/-- A CORRECTED window (R389). -/
structure Coalesce where
  unit : UnitId
  code : Nat
  count : Nat
  openedAt : Nat
  /-- TIME at its first event (R384). -/
  time : DWord := 0
  deriving DecidableEq, Repr

structure Flt where
  seq : Word := 0
  count : Nat := 0
  first : Option FaultRec := none
  retained : List FaultRec := []
  ring : List FaultRec := []
  everWritten : Bool := false
  /-- Clock of the last UNIT fault, by unit (R391). -/
  lastUnit : List (UnitId × Nat) := []
  /-- SEQ of that fault, by unit. -/
  lastSeq : List (UnitId × Nat) := []
  windows : List Coalesce := []
  /-- Units offline (R392). -/
  offline : List UnitId := []
  deriving DecidableEq, Repr

/-! ### Security and tenants -/

inductive SpdmState where
  | start | version | capabilities | negotiated | handshake | session
  deriving DecidableEq, Repr

structure Sec where
  dbgOpen : Bool := false
  keysLocked : Bool := false
  tokenFails : Nat := 0
  lock : Bool := false
  nonce : DWord := 0
  lockout : Bool := false
  lockoutAt : Nat := 0
  /-- Open management sessions and the root each authenticated under (R336). -/
  sessions : Map (BitVec 384) := []
  /-- SPDM state by endpoint: 0 to 27 the DOEs, 28 the management endpoint (R345). -/
  spdm : Map SpdmState := []
  deriving DecidableEq, Repr

inductive TenantState where
  | active
  | removing
  deriving DecidableEq, Repr

/-- A tenant that is not FREE (R338). -/
structure Tenant where
  st : TenantState := .active
  quota : Nat := 0
  wrapped : BitVec 576 := 0
  /-- The key that was drawn and the root key that wraps it: what unwrapping under that root gives back (R341). -/
  drawn : BitVec 512 := 0
  wrapRoot : BitVec 256 := 0
  key : Option (BitVec 512) := none
  /-- Kilning preferences by FORMAT: table slot and split (R168). -/
  prefs : Map (Nat × Nat) := []
  deriving DecidableEq, Repr

/-! ### Regulation and steep controllers -/

inductive Derate where
  | none | scale | cut
  deriving DecidableEq, Repr

/-- A change that the arbiter applies in arrival order (R321). -/
inductive QosChange where
  | gov (credits : Nat)
  | hot (on : Bool)
  | resv (index : Nat) (value : Word)
  /-- An entry loses VALID (R340). -/
  | clear (index : Nat)
  /-- FAST_MARK of a slot for a tenant, and FAST_CLEAR (R437). -/
  | mark (slot tenant : Nat)
  | unmark (slot : Nat)
  /-- The fast entries follow the markings. -/
  | marks
  deriving DecidableEq, Repr

/-- Who raises urgency (R319). -/
inductive Urgent where
  /-- A fast slot's tile staging buffer on a base die. -/
  | slot (n die : Nat)
  /-- A port's ingress buffer. -/
  | port (p : Nat)
  deriving DecidableEq, Repr

structure FastEntry where
  slot : Nat
  eff : Nat
  deriving DecidableEq, Repr

structure Qos where
  ctl : Word := 3
  urgCtl : Word := 0x100040
  portClass : Map Word := []
  gov : Nat := 1024
  hot : Bool := false
  eff : Nat := 1024
  event : BitVec 3 := 0
  fast : Map FastEntry := []
  resv : Map Word := []
  resvEff : Map Nat := []
  derate : Derate := .none
  takeover : Bool := false
  held : List QosChange := []
  /-- SEQ of the fault that took the arbiter of H0, while its takeover runs (R391). -/
  lostSeq : Option Nat := none
  deriving DecidableEq, Repr

/-- Whom a steep request is charged to (R316). -/
inductive Master where
  | fast (slot : Nat)
  | internal
  | resv (index : Nat)
  | shared
  deriving DecidableEq, Repr

/-- The causes of R128, by register number. -/
inductive StallCause where
  | kiln | refresh | regulation | table | moveLock
  deriving DecidableEq, Repr

def StallCause.index : StallCause → Nat
  | .kiln => 0
  | .refresh => 1
  | .regulation => 2
  | .table => 3
  | .moveLock => 4

/-- Of two causes, the one whose row of R128's table comes first. -/
def StallCause.first (a b : StallCause) : StallCause := if a.index ≤ b.index then a else b

/-- A request of `lines` × 64 bytes in a steep controller or waiting for credits (R313). -/
structure SteepReq where
  id : Nat
  master : Master
  cls : Nat
  /-- Lines whose last data beat is still out. -/
  lines : Nat
  write : Bool
  bank : Nat
  row : Nat
  /-- The port whose CXL.mem or peer-window traffic it is. -/
  port : Option Nat
  /-- The operation that it is part of. -/
  op : Option Nat
  /-- Clock of its arrival, then of its last credit: that is when the controller accepted it into its queue (R313, R327). -/
  since : Nat
  /-- Why it waits, while that wait is not yet counted (R128). -/
  waits : Option StallCause := none
  /-- Lines that hold a credit. -/
  granted : Nat := 0
  /-- Lines that have received their DRAM command; each holds its credit. -/
  issued : Nat := 0
  promoted : Bool := false
  deriving DecidableEq, Repr

structure OpenRow where
  stack : Nat
  bank : Nat
  row : Nat
  lastUse : Nat
  /-- Open-row requests served in a row (R326). -/
  streak : Nat := 0
  deriving DecidableEq, Repr

structure Stp where
  sched : Map Word := []
  pageCtl : Map Word := []
  temp : Map Nat := []
  /-- Register writes held while the controllers are OFF, by offset, oldest first (R353). -/
  heldW : List (Nat × Word) := []
  hot : Bool := false
  /-- A stack has passed 85 °C since the last refresh start (R331). -/
  passed : Bool := false
  coolSince : Option Nat := none
  next : DWord := 0
  inGap : Bool := false
  gapAt : Nat := 0
  /-- Writes that the running write batch of a channel may still issue, by 32 × stack + channel (R326). -/
  batch : Map Nat := []
  /-- Masters by their latest grant on each stack, newest first (R317). -/
  turns : Map (List Master) := []
  /-- Fast slots and ports that raise urgency (R319). -/
  urgent : List Urgent := []
  reqs : Map (List SteepReq) := []
  rows : List OpenRow := []
  nextReq : Nat := 0
  deriving DecidableEq, Repr

/-! ### Pages, kiln and tiering -/

/-- The states of R125; a CLEAN, KILN or KILNING page's record place stands in `Page.record`. -/
inductive PageState where
  | zero | dirty | clean | kiln
  | steeping
  | kilnEvict
  | kilnKeep (stale : Bool)
  deriving DecidableEq, Repr

/-- Whose a page is (R107, R433). -/
inductive PageOwner where
  | extent (group index : Nat)
  | version (tenant cask seq index : Nat)
  deriving DecidableEq, Repr

/-- A kiln record's place and length (R109, R132). -/
structure Record where
  stack : Nat
  seg : Nat
  /-- Byte offset in the segment, a multiple of 64. -/
  off : Nat := 0
  units : Nat
  /-- Decode tables its blocks use (R155). -/
  tables : List Nat
  /-- Its bytes as the kiln holds them, payloads and tags encrypted (R132, R169). -/
  image : List Byte := []
  deriving DecidableEq, Repr

/-- A logical page that has been written or pinned (R107). -/
structure Page where
  st : PageState := .zero
  owner : PageOwner
  tenant : Nat
  stack : Nat
  ctr : Nat := 0
  pins : Nat := 0
  record : Option Record := none
  /-- Number of the hub half's kilning that wrote the record (R110). -/
  kilnedAt : Nat := 0
  /-- The first fetch failed; the next demand retries once (R127). -/
  failedOnce : Bool := false
  /-- The record is marked failed, with the status that marked it (R127). -/
  failed : Option Status := none
  /-- A tile CRC mismatch was found in its frame (R174). -/
  tileBad : Bool := false
  /-- Number of its frame within the stack, while it has one (R108, R170). -/
  frame : Nat := 0
  /-- Its frame has an uncorrectable symbol code (R171 step 1). -/
  frameBad : Bool := false
  /-- Class of the PIN that raised its pin count from 0 (R113). -/
  pinCls : Nat := 1
  /-- Its copy-on-write copy still runs (R123). -/
  copying : Bool := false
  /-- The page that the running copy reads (R123). -/
  copyFrom : Option Nat := none
  /-- The frame that it reads: it stays taken while the copy runs (R123). -/
  copyFrame : Nat := 0
  /-- Slot pin that R115 or R116 left out was counted. -/
  overflow : Bool := false
  /-- Clock at which its fetch started: the demand that found it KILN (R130). -/
  fetchAt : Nat := 0
  /-- Class of the move that holds its lock (R111 to R113). -/
  moveCls : Nat := 2
  /-- Tenant whose PIN raised the count from 0 (R114). -/
  pinBy : Nat := 0
  /-- Tables that its kilning in progress may code with (R155). -/
  coding : List Nat := []
  deriving DecidableEq, Repr

/-- Why a move is queued (R111 to R113, R125). -/
inductive MoveKind where
  | demand | speculative | willneed | pin
  | evict | clean | commit | park
  deriving DecidableEq, Repr

structure Move where
  page : Nat
  kind : MoveKind
  cls : Nat
  /-- Clock at which it was queued. -/
  since : Nat := 0
  deriving DecidableEq, Repr

/-- One line of the pending-write table (R124). -/
structure PendLine where
  half : Nat
  page : Nat
  /-- Byte offset in the page of the first byte written. -/
  off : Nat
  data : List Byte
  record : Option Nat
  deriving DecidableEq, Repr

/-- A write of a host or a pool member that waits for room in the pending-write table (R124). -/
structure WaitWrite where
  port : Nat
  /-- The pool member that wrote through a peer window (R213). -/
  peer : Option Nat
  record : Nat
  /-- Page, byte offset in the page and bytes of each piece. -/
  pieces : List (Nat × Nat × List Byte)
  /-- Clock since which it waits. -/
  since : Nat
  deriving DecidableEq, Repr

inductive SegState where
  | open | full | collecting | gcOpen
  /-- It belongs to the journal chain of its stack (R135). -/
  | journal
  deriving DecidableEq, Repr

/-- A segment that is not FREE and unworn (R131): none of `st` is FREE. -/
structure Seg where
  st : Option SegState := none
  erases : Nat := 0
  used : Nat := 0
  live : Nat := 0
  deriving DecidableEq, Repr

/-- A journal record staged but not yet on both chains (R137). -/
inductive Staged where
  | commit (ver : Nat)
  | drop (ver : Nat)
  | destroy (tenant : Nat)
  deriving DecidableEq, Repr

/-- A record of the journal chains (R135). -/
inductive ChainEntry where
  | staged (r : Staged)
  /-- A table loaded or removed (R156). -/
  | table (tenant slot : Nat)
  /-- A tenant made or removed (R338, R340). -/
  | tenant (n : Nat)
  /-- The parking checkpoint (R140). -/
  | parking
  | shutdown
  deriving DecidableEq, Repr

structure ChainRec where
  entry : ChainEntry
  bytes : Nat
  /-- Its CRC-32C is right on a chain in use: the write was not cut off. -/
  whole : Bool := true
  deriving DecidableEq, Repr

structure Stall where
  ns : Nat := 0
  cnt : Nat := 0
  deriving DecidableEq, Repr

structure Kln where
  tierCtl : Word := 0x8008000A
  steepWm : Word := 0x00200010
  fetchDl : Word := 0x64
  gcCtl : Word := 0x0208
  /-- Causes 0 to 4 of R128. -/
  stalls : Map Stall := []
  poisonCnt : Nat := 0
  dlpathCnt : Nat := 0
  pinOvfCnt : Nat := 0
  writtenBytes : Nat := 0
  wearWarn : Bool := false
  wearOver : Bool := false
  /-- KLN_WEAR and the counters of CONFIG records as last published, while shedding stage 2 lasts (R393). -/
  published : Option (Word × List Nat) := none
  /-- Segment table, key stack × 32,768 + segment. -/
  segs : Map Seg := []
  kilnings : Map Nat := []
  staged : List Staged := []
  /-- The journal after the latest checkpoint, oldest first (R135). -/
  journal : List ChainRec := []
  journalBytes : Nat := 0
  checkpoints : Nat := 0
  /-- Chains still written: K0, K8 (R135, R392). -/
  chains : List Nat := [0, 8]
  moves : List Move := []
  pend : List PendLine := []
  pendWait : List WaitWrite := []
  /-- Hub halves whose watermark eviction runs (R112). -/
  evicting : List Nat := []
  shutdownRecord : Bool := false
  /-- Which contents the data area of the retained SRAM has, zeros where none: the start log, and where the latest checkpoint lies (R373). -/
  area : Option Nat := none
  deriving DecidableEq, Repr

/-- A tile tag (R33). -/
structure Tag where
  version : Nat := 0
  valid : Nat := 0
  tenant : Nat := 0
  scale : Nat := 0
  level : Nat := 0
  kind : Nat := 0
  hdim : Nat := 0
  format : Nat := 0
  crc : Nat := 0
  deriving DecidableEq, Repr

/-- What a waiting CXL.mem read reads. -/
inductive ReadTarget where
  | page (pid off : Nat)
  | view (record off : Nat)
  deriving DecidableEq, Repr

structure ReadWait where
  id : Nat
  port : Nat
  len : Nat
  target : ReadTarget
  /-- Pages whose data it waits for. -/
  pages : List Nat
  record : Nat
  arrival : Nat
  /-- Cause of its wait (R128). -/
  cause : StallCause := .kiln
  /-- The pool member that reads through a peer window (R213). -/
  peer : Option Nat := none
  /-- Its steep requests that found no credit: stack and number (R313). -/
  reqs : List (Nat × Nat) := []
  deriving DecidableEq, Repr

/-! ### Decode tables -/

inductive TableState where
  | loaded | retiring
  deriving DecidableEq, Repr

structure TableRec where
  tenant : Nat
  slot : Nat
  st : TableState
  image : List Byte
  deriving DecidableEq, Repr

/-- An expanded tile of a view: record, block, bytes (R167). -/
structure ViewTile where
  record : Nat
  block : Nat
  bytes : List Byte
  deriving DecidableEq, Repr

structure Grs where
  romSel : Map Word := []
  /-- By port, its unit's most recently expanded view tiles, newest first (R167). -/
  cache : Map (List ViewTile) := []
  tables : List TableRec := []
  corruptCnt : Nat := 0
  viewDropCnt : Nat := 0
  viewPoisonCnt : Nat := 0
  deriving DecidableEq, Repr

/-! ### Extents, casks, pool -/

inductive RecState where
  | offered | active | draining | scrubbing
  deriving DecidableEq, Repr

inductive Cause where
  | lease | withdrawn
  deriving DecidableEq, Repr

/-- The blob under a grist view (R167). -/
structure View where
  blobRecord : Nat
  blobOffset : Nat
  n : Nat
  mask : Nat
  deriving DecidableEq, Repr

/-- An extent record that is not FREE (R176, R180). -/
structure Ext where
  st : RecState
  cause : Cause := .withdrawn
  tenant : Nat
  partner : Nat
  dpa : Nat
  granules : Nat
  leaseMs : Nat
  /-- Lease-timer milliseconds of the expiry, while ACTIVE (R186). -/
  expiry : Nat := 0
  /-- Clock of the offer or of the DRAINING entry. -/
  since : Nat := 0
  group : Nat
  /-- Position in its share group (R291). -/
  position : Nat := 0
  view : Option View := none
  /-- Which record of the device's it is: a number that is never used again (R213). -/
  born : Nat := 0
  deriving DecidableEq, Repr

/-- A share group: the pages under one or more records (R178). Its number is the creator record G of R433. -/
structure Group where
  tenant : Nat
  granules : Nat
  creator : Nat
  pages : Map Nat := []
  /-- Counters of its pages that nothing has written, by index (R125, row ZERO/Read). -/
  zeroCtr : Map Nat := []
  /-- It reserves capacity (extents of kind memory, R177). -/
  memory : Bool := true
  deriving DecidableEq, Repr

/-- A remote grant (R207). -/
structure RemoteGrant where
  member : Nat
  base : Nat
  length : Nat
  tenant : Nat
  rights : Nat
  deriving DecidableEq, Repr

structure Member where
  kind : Nat
  pbr : Nat
  port : Nat
  deriving DecidableEq, Repr

/-- One copy of a peer window's registers (R211). -/
structure Window where
  baseLo : Word := 0
  baseHi : Word := 0
  size : Word := 0
  tgt : Word := 0
  off : Word := 0
  src : Word := 0
  ctl : Word := 0
  deriving DecidableEq, Repr

structure Pool where
  recs : Map Ext := []
  groups : Map Group := []
  nextGroup : Nat := 0
  nextBorn : Nat := 0
  ns : Option (Nat × Nat) := none
  members : Map Member := []
  grants : Map RemoteGrant := []
  shadow : Map Window := []
  act : Map Window := []
  /-- By window, the extent record that its active copy was committed for: the number is in TGT, this tells a later record of that number apart (R213). -/
  actBorn : Map Nat := []
  refusedCnt : Nat := 0
  peerUrCnt : Nat := 0
  /-- Ranges withdrawn by force, by port, DPA and length, whose later release the device ignores (R291). -/
  withdrawn : List (Nat × Nat × Nat) := []
  deriving DecidableEq, Repr

/-- A grant on a cask (R197). -/
structure CaskGrant where
  grantee : Nat
  aliasId : Nat
  minVersion : Nat
  pinRight : Bool
  deriving DecidableEq, Repr

structure Cask where
  tenant : Nat
  id : Nat
  lastSeq : Nat := 0
  grants : List CaskGrant := []
  deriving DecidableEq, Repr

/-- Shape, formats and parameters of a slot (R77, R78). -/
structure Shape where
  layers : Nat := 1
  kvh : Nat := 1
  group : Nat := 1
  hd : Nat := 64
  kfmt : Nat := 0
  vfmt : Nat := 0
  outfmt : Nat := 0
  sink : Nat := 0
  window : Nat := 0
  mode : Nat := 0
  k : Nat := 16
  nh : Nat := 4
  ns : Nat := 8
  nb : Nat := 0
  deriving DecidableEq, Repr

inductive VerState where
  | open | committing | committed | dropping
  deriving DecidableEq, Repr

/-- A live cask version (R193 to R198). -/
structure Ver where
  cask : Nat
  seq : Nat
  st : VerState := .open
  size : Nat
  base : Option Nat := none
  pages : Map Nat := []
  /-- Counters of its pages that nothing has written, by index (R125, row ZERO/Read). -/
  zeroCtr : Map Nat := []
  journaled : Bool := false
  /-- Set by SLOT_PARK: the shape and the lengths by layer (R23, R88). -/
  park : Option (Shape × Map Nat) := none
  /-- A slot's version follows R40, so its level-3 region has R433's other stacks. -/
  slotShape : Option Shape := none
  /-- Fetch number of the durable commit or park under way (R198). -/
  commitOp : Option Nat := none
  deriving DecidableEq, Repr

structure Handle where
  ver : Nat
  writer : Bool
  /-- Opened through a grant. -/
  granted : Bool := false
  deriving DecidableEq, Repr

/-! ### Partners, rings, operations -/

/-- The context of one ring (08). -/
structure Ring where
  baseLo : Word := 0
  baseHi : Word := 0
  enable : Bool := false
  sizeLog2 : Nat := 0
  err : Bool := false
  errCause : Nat := 0
  head : Nat := 0
  tail : Nat := 0
  phase : Bool := false
  irqEn : Bool := false
  coalUs : Nat := 0
  vector : Nat := 0
  badTail : Nat := 0
  disabling : Bool := false
  /-- Completion ring: a record write failed, so no record is written any more (R273). -/
  recFail : Bool := false
  /-- Submission ring: cause and start of the wait that its next fetch is in (R128, R295). -/
  waits : Option (StallCause × Nat) := none
  deriving DecidableEq, Repr

/-- A data-window read that waits for its data (R243). -/
structure WindowRead where
  /-- POS when it was accepted. -/
  off : Nat
  len : Nat
  arrival : Nat
  deriving DecidableEq, Repr

/-- R256, R258: the request of a hub die that fetched last: whose it was, how many more descriptors it may bring, and the index of the next. -/
structure FetchTurn where
  partner : Nat := 4095
  left : Nat := 0
  head : Nat := 0
  deriving DecidableEq, Repr

/-- A data-port session (R239 to R244). -/
structure Session where
  active : Bool := false
  dir : Bool := false
  stream : Bool := false
  errCause : Nat := 0
  pos : Nat := 0
  done : Nat := 0
  len : Nat := 0
  op : Nat := 0
  consumer : Option Nat := none
  /-- Inbound bytes not yet written or taken, or outbound bytes ready. -/
  buf : List Byte := []
  /-- Window reads held for their data, oldest first (R243). -/
  waiting : List WindowRead := []
  lastAccess : Nat := 0
  reject : Nat := 0
  deriving DecidableEq, Repr

structure Partner where
  tenant : Option Nat := none
  port : Nat := 0
  maxOps : Nat := 0x40
  rings : Map Ring := []
  dbDrops : Nat := 0
  norec : Nat := 0
  bobDrops : Nat := 0
  handles : Map Handle := []
  dp : Session := {}
  /-- Clock at which a coalesced interrupt falls due (R274). -/
  coalesce : Option Nat := none
  deriving DecidableEq, Repr

inductive OpPhase where
  | fenced | waitTurn | turn | running | finished
  deriving DecidableEq, Repr

/-- Whose pages hold a range of device memory: a share group or a cask version. -/
inductive Backing where
  | group (g : Nat)
  | ver (v : Nat)
  deriving DecidableEq, Repr

/-- A range of device memory, with the TENANT and VERSION that a write leaves in its tile tags (R33). -/
structure Span where
  back : Backing
  off : Nat
  len : Nat
  tenant : Nat
  seq : Nat := 0
  record : Option Nat := none
  deriving DecidableEq, Repr

/-- What a request of the device carries besides its address: class (R236), the Relaxed Ordering attribute (R298) and, on an Unordered IO request to a pool member, that member's PBR ID (R208). -/
structure ReqAttr where
  cls : Nat := 1
  relaxed : Bool := false
  member : Option Nat := none
  deriving DecidableEq, Repr

/-- One request of a device read of partner or member memory (R295 to R299). -/
structure DmaRead where
  port : Nat
  attr : ReqAttr := {}
  tag : Option Nat
  addr : Nat
  len : Nat
  /-- Which operand of the operation it belongs to. -/
  part : Nat
  /-- Bytes that have arrived; whole when `len` of them have (R297). -/
  got : List Byte := []
  /-- The answer to a write of PEER_WRITE, which carries no data. -/
  ack : Bool := false
  /-- Issued when the function lost the right to issue: its data is discarded (R276). -/
  stale : Bool := false
  /-- Why it failed, once answered (R220): the operation ends when all its reads are answered, with the lowest failure (R166, R235). -/
  bad : Option Status := none
  issuedAt : Nat := 0
  deriving DecidableEq, Repr

/-- What a completed operation reports (R268). -/
structure Result where
  status : Status := .done
  dw1 : Nat := 0
  dw23 : Nat := 0
  cert : Bool := false
  journaled : Bool := false
  /-- Mailbox header DW7 to DW10 (R97). -/
  more : List Nat := []
  time : DWord := 0
  deriving DecidableEq, Repr

/-- An operation entry (R255): a fetched descriptor, or a mailbox call when `mailbox` names its slot. -/
structure Op where
  id : Nat
  partner : Nat
  ring : Nat
  port : Nat
  dws : List Word
  mailbox : Option Nat := none
  irq : Bool := false
  phase : OpPhase := .running
  /-- Its turn among the calls of its slot, once it has taken it (R71). -/
  turnNo : Option Nat := none
  /-- Its place among the arrivals at its slot (R72). -/
  callNo : Nat := 0
  /-- Its record waits for Bus Master Enable (R276). -/
  recordHeld : Bool := false
  arrival : Nat := 0
  reads : List DmaRead := []
  /-- Range left unspecified if the run fails (R166, R209, R235, R243). -/
  target : Option Span := none
  /-- Pages whose counters it has raised (R110). -/
  touched : List Nat := []
  /-- Pages that nothing has written whose counters it has raised (R110, R125). -/
  zeroSeen : List (Backing × Nat) := []
  /-- Pages of whose steep reads it has asked (R313). -/
  asked : List Nat := []
  /-- Steep stacks on which its writes wait for a frame (R112, R123). -/
  frameOn : List Nat := []
  /-- Pages sampled as not resident (R101). -/
  nonres : Option (List Nat) := none
  /-- Of the pages that every mode reads, those that were not resident when the call first considered them (R101). -/
  baseAway : Option (List Nat) := none
  /-- Pages the deadline path served (R130). -/
  served : List Nat := []
  /-- Pages whose steeping or copy it waits for (R125, R123). -/
  waits : List Nat := []
  /-- Pages whose fetch for it failed, and how (R127). -/
  bad : Map Status := []
  /-- Versions taken by a commit that had been fetched when it started (R198). -/
  gone : List Nat := []
  /-- Extent records that entered DRAINING while it ran: they do not refuse it (R182). -/
  accepted : List Nat := []
  /-- The writer version that its bind or resume opened (R63, R88). -/
  opened : Option Nat := none
  kilnTouched : Bool := false
  /-- Pages it read from kiln (R97). -/
  kilnPages : Nat := 0
  dlPath : Bool := false
  stallNs : Nat := 0
  /-- Cause and start of the wait that it is in (R128). -/
  stalled : Option (StallCause × Nat) := none
  /-- PBR ID of the pool member that a peer transfer reaches (R208). -/
  peer : Option Nat := none
  /-- What a peer transfer found when it started: the member's port and PBR ID, and the bytes granted from REMOTE_ADDR on (R206, R207). -/
  lent : Option (Nat × Nat × Nat) := none
  /-- Versions it names (R198). -/
  vers : List Nat := []
  /-- Its checks have passed: it goes on whatever becomes of its extents, versions, grants and handles (R182, R197, R198, R206, R207). -/
  begun : Bool := false
  /-- The handles it names, as they stood when it started. -/
  held : Map Handle := []
  /-- Grants revoked while it ran, by cask: what it names by their aliases it still finds (R197). -/
  kept : List (Nat × CaskGrant) := []
  /-- Table references it holds (R155), as tenant and slot. -/
  tables : List (Nat × Nat) := []
  /-- Pages whose pin count it raised (R119, R140), or whose record a CLEAN hint began (R120). -/
  pinned : List Nat := []
  /-- Pages that a PIN or a CLEAN hint waits for, once it has started (R119, R120). -/
  hinted : Option (List Nat) := none
  /-- Clock at which its durable commit began (R134). -/
  commitAt : Option Nat := none
  /-- Its journal record (R399). -/
  jrn : Option Nat := none
  wrote : List Byte := []
  /-- Bytes that it wrote into the tiles of its slot, in address order (R401). -/
  stored : List Byte := []
  /-- Its DATA record was put into the journal, or lost there (R402). -/
  captured : Bool := false
  res : Result := {}
  deriving DecidableEq, Repr

/-! ### Slots -/

/-- A change of the fast marking that waits for a SEQ boundary (R70). -/
inductive MarkChange where
  | none | adding | clearing
  deriving DecidableEq, Repr

structure Slot where
  bound : Bool := false
  /-- Fetch number of the bind or resume that holds the slot (R91). -/
  binding : Option Nat := none
  partner : Nat := 0
  tenant : Nat := 0
  next : Nat := 1
  /-- Turns taken so far (R71). -/
  turns : Nat := 0
  /-- Calls that have arrived at the slot (R72). -/
  arrivals : Nat := 0
  shape : Shape := {}
  ver : Nat := 0
  lens : Map Nat := []
  mark : Option Nat := none
  change : MarkChange := .none
  mailboxEn : Bool := false
  outDma : Bool := false
  vector : Nat := 0
  mboxBase : Nat := 0
  outAddr : Nat := 0
  mboxDisabled : Bool := false
  mbox : Memory := []
  /-- Class at which the bind or resume ran (R113). -/
  pinCls : Nat := 1
  /-- R68: whole layers of level-3 picots held, and whether the sink tiles are. -/
  sramLayers : Nat := 0
  sramSink : Bool := false
  deriving DecidableEq, Repr

/-! ### Ports -/

structure Decoder where
  base : Nat := 0
  size : Nat := 0
  committed : Bool := false
  err : Bool := false
  /-- The RW bits of its control register. -/
  ctl : Word := 0
  deriving DecidableEq, Repr

/-- A function's DOE mailbox: the data object being written, the answer being read, and the error bit (R284). -/
structure Doe where
  inbox : List Word := []
  outbox : List Word := []
  err : Bool := false
  deriving DecidableEq, Repr

inductive MsiMode where
  | none
  | msi (count : Nat)
  | msix
  deriving DecidableEq, Repr

/-- A record of a CXL event log (R293). -/
structure EventRec where
  handle : Nat
  /-- 0 to 4: Informational, Warning, Failure, Fatal, Dynamic Capacity. -/
  log : Nat
  timestamp : DWord
  body : List Nat
  deriving DecidableEq, Repr

/-- The errors of R304 that a command of the table brings about. -/
inductive AerError where
  | correctedInternal | poisonedTlp | completionTimeout | unexpectedCompletion | unsupportedRequest
  | malformed | flowControl | receiverOverflow | ideCheck | ideMisrouted | uncorrectableInternal | headerLogOverflow | advisoryNonFatal
  deriving DecidableEq, Repr

/-- The severity with which an error is signalled (R304). -/
inductive Severity where
  | correctable | nonFatal | fatal
  deriving DecidableEq, Repr

inductive IdeState where
  | secure | insecure
  deriving DecidableEq, Repr

structure IdeStream where
  st : IdeState
  key : BitVec 256
  /-- CXL.cachemem IDE in skid mode; else in containment mode (R309). -/
  skid : Bool := false
  deriving DecidableEq, Repr

/-- What leaves the device. The model's own record of it; nothing reads it back but the tests and the statements. -/
inductive Out where
  | record (port partner addr : Nat) (bytes : List Byte)
  | dmaWrite (port addr : Nat) (bytes : List Byte) (attr : ReqAttr)
  | dmaRead (port tag addr len : Nat) (attr : ReqAttr)
  | irq (port vector : Nat)
  | cxlData (port read : Nat) (bytes : List Byte)
  | cxlPoison (port read : Nat)
  | cxlDone (port : Nat)
  | cxlDropped (port : Nat)
  | windowData (partner : Nat) (bytes : List Byte)
  | windowPoison (partner : Nat)
  | peerData (pbr : Nat) (bytes : List Byte)
  | peerPoison (pbr : Nat)
  | peerDone (pbr : Nat)
  | peerUr (pbr : Nat)
  | peerAbort (pbr : Nat)
  | unsupportedRequest (port : Nat)
  | errMessage (port : Nat) (sev : Severity)
  | mgmt (code : String) (status : Option Status) (payload : List Nat)
  | fm (event : String) (n : Nat)
  | mailbox (port : Nat) (code : String) (payload : List Nat)
  | spdm (ep : Nat) (reply : String) (payload : List Nat)
  | digest (ep index : Nat) (value : BitVec 384)
  | value (w : Word)
  | fault (r : FaultRec)
  deriving DecidableEq, Repr

structure Port where
  width : Nat := 0
  speed : Nat := 0
  flit : Bool := false
  cxl : Bool := false
  l0pWidth : Nat := 0
  inL1 : Bool := false
  pmCtl : Word := 0x800A0064
  ideRequired : Bool := false
  memMiss : Nat := 0
  linkDown : Nat := 0
  ideRefuse : Nat := 0
  /-- Command, Device Control, Device Control 2, Device 3 and Link Control fields (R283, R284). -/
  memSpace : Bool := false
  bme : Bool := false
  d3 : Bool := false
  flrBusy : Bool := false
  msi : MsiMode := .none
  /-- The MSI-X table, by word (R287), and its pending vectors. -/
  msixTable : Map Word := []
  pendingV : List Nat := []
  /-- Pending MSI messages; their masks stand in the configuration space (R303). -/
  msiPending : List Nat := []
  mrrs : Nat := 512
  mps : Nat := 128
  tagBits : Nat := 8
  relaxed : Bool := true
  ctoNs : Nat := 40000000
  aspmL1 : Bool := false
  l0pLink : Bool := false
  held : List Out := []
  hdm : Map Decoder := []
  /-- HDM Decoder Global Control (R289). -/
  hdmCtl : Word := 0
  doe : Doe := {}
  events : List EventRec := []
  nextHandle : Nat := 1
  overflow : List Nat := []
  policy : List Nat := [0, 0, 0, 0, 0]
  tsOffset : Int := 0
  /-- Errors reported through AER and not yet cleared, oldest first (R304). -/
  aer : List AerError := []
  ide : Map IdeStream := []
  /-- Tags whose operation has ended while their completion is still out, with the bytes that it still owes (R276, R297, R299, R307). -/
  retired : Map Nat := []
  /-- Write-combining lines: partner, offset in the session, bytes (R191). -/
  wcb : List (Nat × Nat × List Byte) := []
  /-- The other RW bits of the type 0 header, by offset (R283). -/
  cfg : Map Word := []
  governed : Bool := false
  deriving DecidableEq, Repr

/-! ### Replay journal, geometry, steward -/

structure JrnRec where
  index : Nat
  ty : Nat
  body : List Byte
  deriving DecidableEq, Repr

structure Jrn where
  ctl : Word := 0x400403E8
  full : Bool := false
  next : Nat := 0
  lost : Nat := 0
  recs : List JrnRec := []
  capture : List Nat := []
  /-- Records lost since the last GAP record (R402). -/
  gap : Nat := 0
  /-- Clock of the last periodic CONFIG record (R396). -/
  snapAt : Nat := 0
  deriving DecidableEq, Repr

/-- The live fields of the geometry table (R412). -/
structure Geo where
  gen : Nat := 1
  kOffline : List Nat := []
  pOffline : List Nat := []
  clOff : Map Nat := []
  stewardH1 : Bool := false
  arbiterH1 : Bool := false
  /-- In REBUILD: erased segments counted into POOL_GIB. -/
  rebuildGib : Option Nat := none
  /-- Clock at which it was last raised (R413). -/
  rebuildAt : Nat := 0
  deriving DecidableEq, Repr

structure Steward where
  takeover : Bool := false
  /-- Clock at which the takeover began (R394). -/
  since : Nat := 0
  shed : Nat := 0
  /-- Clock of the last report of a wait of 1 ms or more: the stages end 100 ms after it at the earliest (R393). -/
  calmSince : Option Nat := none
  deriving DecidableEq, Repr

/-- The whole device. -/
structure State where
  fuses : Fuses := {}
  store : Store := {}
  rst : Rst := {}
  pins : Pins := {}
  clk : Clk := {}
  pwr : Pwr := {}
  tim : Tim := {}
  flt : Flt := {}
  sec : Sec := {}
  tenants : Map Tenant := []
  qos : Qos := {}
  stp : Stp := {}
  kln : Kln := {}
  pages : Map Page := []
  mem : Memory := []
  tags : Map Tag := []
  nextPage : Nat := 0
  reads : List ReadWait := []
  nextRead : Nat := 0
  grs : Grs := {}
  pool : Pool := {}
  casks : Map Cask := []
  nextCask : Nat := 0
  vers : Map Ver := []
  nextVer : Nat := 0
  parts : Map Partner := []
  ops : List Op := []
  opSeq : Nat := 0
  /-- By hub die, the request that fetched last (R258). -/
  turns : Map FetchTurn := []
  /-- By partner, the ring of its that fetched last (R258). -/
  ringTurns : Map Nat := []
  slots : Map Slot := []
  ports : Map Port := []
  jrn : Jrn := {}
  geo : Geo := {}
  stew : Steward := {}
  /-- Segments erased in REBUILD, stack × 32,768 + segment; none outside it (R349). -/
  rebuild : Option (List Nat) := none
  latches : List (Accessor × Nat × Word) := []
  outs : List Out := []
  freeCtr : Nat := 0
  pending : List Instr := []
  deriving DecidableEq, Repr

/-- The machine right after reset: every register at its table's Reset value, held in reset, nothing in the queue (INVENTORY.md gives each value's rule or log entry). -/
def State.reset : State := { store := { wrapState := some ((Config.trng 0).setWidth 256) }, freeCtr := 1 }

end Sys2Proof.Machine
end

