-- ==== Sys2Proof/Machine/Flags.lean ====
section
/-! DEFINITION. Codes and layouts of what the device reports: status codes (R275), completion flags and records (R268 to R270), mailbox headers (R97), fault records (R384 to R387) and the fields of status registers. -/

namespace Sys2Proof.Machine

/-- R275. -/
def statusCode : Status → Nat
  | .done => 0x00
  | .bounds => 0x10
  | .lenInvalid => 0x11
  | .align => 0x12
  | .opcode => 0x13
  | .unsupported => 0x14
  | .access => 0x20
  | .leaseExpired => 0x21
  | .extentDraining => 0x22
  | .integrity => 0x30
  | .gristCorrupt => 0x31
  | .media => 0x32
  | .tableBusy => 0x40
  | .tableMissing => 0x41
  | .versionGone => 0x50
  | .versionConflict => 0x51
  | .halted => 0x60
  | .aborted => 0x61
  | .busy => 0x70
  | .deadline => 0x71
  | .resvExceeds => 0x72
  | .internal => 0x7F

/-- R269. -/
def flagBits (o : Op) : Nat :=
  b2n (o.stallNs != 0) + 2 * b2n o.res.cert + 4 * b2n o.dlPath + 8 * b2n o.res.journaled + 16 * b2n o.kilnTouched

/-- Words as bytes (R9). -/
def wordBytes (ws : List Nat) : List Byte := ws.flatMap (fun w => leBytes w 4)

/-- DW0 of a record or of a mailbox header: tag or SEQ, flags, status (R97, R268). -/
def resultDw0 (tag : Nat) (o : Op) : Nat := tag * 65536 + flagBits o * 256 + statusCode o.res.status

/-- The 32 bytes of a completion record (R268). -/
def recordBytes (o : Op) (phase : Bool) : List Byte :=
  wordBytes [resultDw0 (bits (o.dws.getD 0 0) 31 16) o, o.res.dw1 % 2 ^ 32] ++ leBytes o.res.dw23 8
    ++ leBytes o.res.time.toNat 8
    ++ wordBytes [sat32 o.stallNs, b2n phase * 2 ^ 31 + 0x5A * 2 ^ 24 + 4 * o.partner + o.ring]

/-- The 64 bytes of a mailbox output header (R97). -/
def headerBytes (o : Op) : List Byte :=
  wordBytes [resultDw0 (bits (o.dws.getD 0 0) 15 0) o, o.res.dw1 % 2 ^ 32] ++ leBytes o.res.dw23 8
    ++ leBytes o.res.time.toNat 8 ++ wordBytes [sat32 o.stallNs]
    ++ wordBytes (o.res.more.take 4) ++ List.replicate (64 - 28 - 4 * (o.res.more.take 4).length) 0

/-- RST_STATUS.PHASE. -/
def phaseCode : Phase → Nat
  | .bringup => 0
  | .service => 1
  | .test => 2
  | .rebuild => 3
  | .recovery => 4

/-- PWR_STATE.STATE. -/
def pstateCode : PState → Nat
  | .active => 0
  | .quiet => 1
  | .standby => 2
  | .parked => 3
  | .entering => 4
  | .leaving => 5

/-- RST_RCV_STAT.STATE. -/
def rcvCode : RcvStat → Nat
  | .idle => 0
  | .busy => 1
  | .verified => 2
  | .written => 4
  | .rejected => 7

/-- Class of a fault code (R385, R387). -/
def faultClass (code : Nat) : Nat :=
  if code ≤ 0x000F then 1
  else if code ≤ 0x0011 then 3
  else if code ≤ 0x0021 then 0
  else if code ≤ 0x0026 then 2
  else if code ≤ 0x0035 then 4
  else 5

/-- The event log that a class of fault reports to (R385, R293). -/
def faultLog (cls : Nat) : Nat :=
  match cls with
  | 0 => 0
  | 1 => 0
  | 2 => 1
  | 3 => 2
  | 4 => 2
  | _ => 3

/-- Bytes 0 to 59 of a fault record (R384). -/
def faultHead (r : FaultRec) : List Byte :=
  leBytes r.time.toNat 8 ++ leBytes r.seq.toNat 4 ++ leBytes r.code 2 ++ leBytes r.cls 1 ++ leBytes r.action 1
    ++ leBytes r.unit.inst 2 ++ leBytes r.unit.kind 1 ++ [0] ++ leBytes r.count 4
    ++ (List.range 3).flatMap (fun i => leBytes (r.detail.getD i 0) 8)
    ++ leBytes r.fwMajor 2 ++ leBytes r.phase 1 ++ leBytes r.pstate 1 ++ leBytes r.tenant 2 ++ List.replicate 6 0

/-- The 64 bytes of a fault record (R384). -/
def faultBytes (r : FaultRec) : List Byte := faultHead r ++ leBytes (Crc.crc32c (faultHead r)) 4

/-- R136: consumed share of 25 PB in units of 0.01 %. -/
def wearUsed (bytes : Nat) : Nat := min 0xFFFF (bytes * 10000 / 25000000000000000)

/-- The kind of a unit as a key with its number. -/
def unitKey (u : UnitId) : Nat := u.kind * 65536 + u.inst

/-- R33: the 16 bytes of a tile tag. -/
def tagBytes (t : Tag) : List Byte :=
  leBytes (t.crc + t.format * 2 ^ 32 + t.hdim * 2 ^ 40 + t.kind * 2 ^ 42 + t.level * 2 ^ 43 + t.scale * 2 ^ 48
    + t.tenant * 2 ^ 64 + t.valid * 2 ^ 80 + t.version % 2 ^ 32 * 2 ^ 96) 16

end Sys2Proof.Machine
end

