-- ==== Sys2Proof/Machine/Access.lean ====
section
/-! DEFINITION. Access to the tables of the state by number, the fields of an operation's descriptor, time (R379, R186), and the waits of R128. -/

namespace Sys2Proof.Machine

/-! ### Access by number -/

def State.port (s : State) (p : Nat) : Port := s.ports.get p {}
def State.setPort (s : State) (p : Nat) (v : Port) : State := { s with ports := s.ports.set p v }
def State.part (s : State) (n : Nat) : Partner := s.parts.get n {}
def State.setPart (s : State) (n : Nat) (v : Partner) : State := { s with parts := s.parts.set n v }
def State.slot (s : State) (n : Nat) : Slot := s.slots.get n {}
def State.setSlot (s : State) (n : Nat) (v : Slot) : State := { s with slots := s.slots.set n v }
def State.op? (s : State) (id : Nat) : Option Op := s.ops.find? (fun o => o.id == id)
def State.setOp (s : State) (o : Op) : State := { s with ops := s.ops.map (fun p => if p.id == o.id then o else p) }
/-- The entry goes; a tag whose completion is still out stays taken until that completion or its timeout (R299). -/
def State.dropOp (s : State) (id : Nat) : State :=
  let out : List DmaRead := match s.op? id with
    | some o => o.reads.filter (fun (r : DmaRead) => r.tag.isSome && decide (r.got.length < r.len))
    | none => []
  let s1 := { s with ops := s.ops.filter (fun p => p.id != id) }
  out.foldl (fun t r => match r.tag with
    | some g => t.setPort r.port { t.port r.port with retired := (t.port r.port).retired.set g (if r.ack then 0 else r.len - r.got.length) }
    | none => t) s1
def State.setPage (s : State) (p : Nat) (v : Page) : State := { s with pages := s.pages.set p v }
def Partner.ring (q : Partner) (r : Nat) : Ring := q.rings.get r {}
def State.ring (s : State) (n r : Nat) : Ring := (s.part n).ring r
def State.setRing (s : State) (n r : Nat) (v : Ring) : State :=
  s.setPart n { s.part n with rings := (s.part n).rings.set r v }
def State.emit (s : State) (o : Out) : State := { s with outs := s.outs ++ [o] }

/-- The tenant is ACTIVE (R338). -/
def State.tenantActive (s : State) (t : Nat) : Bool :=
  match s.tenants.get? t with
  | some r => r.st == .active
  | none => false

/-- The tenant is REMOVING: commands that name it complete ACCESS (R338). -/
def State.tenantLeaving (s : State) (t : Nat) : Bool :=
  match s.tenants.get? t with
  | some r => r.st == .removing
  | none => false

/-- Hub die of a port (R8). -/
def hubOf (p : Nat) : Nat := p / 14

/-- A free value, and the state with its counter advanced (log 2). -/
def State.fresh (s : State) : Nat × State := (Config.freeNat s.freeCtr, { s with freeCtr := s.freeCtr + 1 })

/-- The variant has a bobbin array (R5). -/
def State.hasArray (s : State) : Bool := s.fuses.variant != .sk440

/-- R65: FAST_SLOTS of the geometry table. -/
def State.fastLimit (s : State) : Nat := if s.hasArray then 6 else 0

/-- In service: READY reached, and neither stopped, flushed, flushing nor locked by a debug unlock (R282, R138, R390, R347). -/
def State.serving (s : State) : Bool :=
  s.rst.stage == .up && s.rst.flush == .none && !s.rst.devFault && !s.sec.keysLocked

/-- R354, R357: the mode that a clock domain runs in. -/
def State.domainMode (s : State) (d : Domain) : ClkMode :=
  match d, s.pwr.state with
  | .hub _, .quiet | .hub _, .standby | .hub _, .parked => .sleep
  | .kiln _, .quiet | .kiln _, .standby | .kiln _, .parked => .sleep
  | .fabric _, .quiet | .steep _, .quiet => .sleep
  | .fabric _, .standby | .steep _, .standby => .deep
  | .fabric _, .parked | .steep _, .parked => .off
  | _, _ => .run

/-- R353: the steep controllers are DEEP or OFF, or on their way out of PARKED: their registers cannot be reached. -/
def State.steepAway (s : State) : Bool :=
  s.domainMode (.steep 0) == .deep || s.domainMode (.steep 0) == .off || s.pwr.state == .leaving

/-! ### Time -/

/-- R379, R381: TIME's fractional adder over ns nanoseconds of REFCLK, half rate while a slew lasts. -/
def Tim.advance (t : Tim) (ns : Nat) (lease : Bool) : Tim :=
  let slew := min ns t.slewLeft
  let half := 2 * ns - slew
  let num := t.frac + half * ((1000000000 : Int) + t.rate).toNat
  { t with
    clock := t.clock + ns
    time := t.time + BitVec.ofNat 64 (num / 2000000000)
    frac := num % 2000000000
    slewLeft := t.slewLeft - slew
    leaseNs := if lease then t.leaseNs + ns else t.leaseNs }

/-- The lease timer stops in PARKED alone (R186, R141). -/
def State.leaseRuns (s : State) : Bool := s.pwr.state != .parked

/-- Lets time pass, once the AON domain is released (R379). -/
def State.advance (s : State) (ns : Nat) : State :=
  match s.rst.stage with
  | .off => s
  | .held => s
  | _ => { s with tim := s.tim.advance ns s.leaseRuns }

/-- Lets time pass up to a limit that a timer has reached (log 9). -/
def State.advanceTo (s : State) (t : Nat) : State := s.advance (t - s.tim.clock)

/-- R383: a timeout takes effect once the cycle in which it expires is over, so that an event of that cycle, which wins, has come before it; a cycle is taken as a nanosecond (log 9). -/
def State.expire (s : State) (limit : Nat) : State := s.advanceTo (limit + 1)

/-- Milliseconds of the lease timer (R186). -/
def State.leaseMs (s : State) : Nat := s.tim.leaseNs / 1000000

/-- Brings the lease timer to a tick (R188, log 9). -/
def State.leaseTo (s : State) (ms : Nat) : State := s.advance (ms * 1000000 - s.tim.leaseNs)

/-! ### Waits (R128) -/

/-- Counts one wait of ns nanoseconds under one cause. -/
def State.stall (s : State) (c : StallCause) (ns : Nat) : State :=
  let w := s.kln.stalls.get c.index {}
  { s with kln := { s.kln with stalls := s.kln.stalls.set c.index ⟨w.ns + ns, inc32 w.cnt⟩ } }

/-- An operation starts to wait, or has one cause more to wait for: of several causes the first counts (R128, log 31). -/
def State.stallOp (s : State) (id : Nat) (c : StallCause) : State :=
  match s.op? id with
  | some o => s.setOp { o with stalled := some (match o.stalled with
      | some (d, since) => (d.first c, since)
      | none => (c, s.tim.clock)) }
  | none => s

/-- The operation's wait, if it waits, is over: its nanoseconds go to one cause and to the operation (R128). -/
def State.endStall (s : State) (id : Nat) : State :=
  match s.op? id with
  | none => s
  | some o => match o.stalled with
    | none => s
    | some (c, since) =>
      let ns := s.tim.clock - since
      (s.stall c ns).setOp { o with stalled := none, stallNs := o.stallNs + ns }

/-! ### Fields of a descriptor -/

def Op.dw (o : Op) (i : Nat) : Word := o.dws.getD i 0
/-- OPCODE; a mailbox call, whose header has SEQ there (R93), has none. -/
def Op.opcode (o : Op) : Nat := if o.mailbox.isSome then 0x100 else bits (o.dw 0) 7 0
def Op.cls (o : Op) : Nat := bits (o.dw 0) 10 8
def Op.tag (o : Op) : Nat := bits (o.dw 0) 31 16

/-- Words i to 15 of a descriptor are 0 (R262). -/
def Op.zeroFrom (o : Op) (i : Nat) : Bool := (o.dws.drop i).all (· == 0)

/-- Bits [hi:lo] of word i are 0 (R262). -/
def Op.zero (o : Op) (i hi lo : Nat) : Bool := bits (o.dw i) hi lo == 0

def Op.q (o : Op) (i : Nat) : Nat := pair64 (o.dw i) (o.dw (i + 1))

/-- Tenant of the operation's partner (R14). -/
def State.opTenant (s : State) (o : Op) : Nat := ((s.part o.partner).tenant).getD 0

/-- The class at which a descriptor that is no slot call runs (R261). -/
def Op.runClass (o : Op) : Nat := if o.cls = 0 then 1 else o.cls

/-- SLOT of a call (R76, R95). -/
def Op.slotNo (o : Op) : Nat := o.mailbox.getD (bits (o.dw 1) 7 0)

/-- SEQ of a call (R76, R93). -/
def Op.seqNo (o : Op) : Nat := if o.mailbox.isSome then bits (o.dw 0) 15 0 else bits (o.dw 1) 31 16

/-- The entry is a slot call (R62). -/
def Op.isSlotCall (o : Op) : Bool := o.mailbox.isSome || (decide (0x40 ≤ o.opcode) && decide (o.opcode ≤ 0x46))

/-- R374 step 1: a block that was asked to go idle, and is not reset yet, takes no new work. -/
def State.askedIdle (s : State) (b : Block) : Bool := s.rst.blocks.any (fun j => j.block == b)

/-- SLOT_BIND or SLOT_RESUME. -/
def Op.binds (o : Op) : Bool := o.mailbox.isNone && (o.opcode == 0x40 || o.opcode == 0x44)

end Sys2Proof.Machine
end

