-- ==== Sys2Proof/Machine/Credits.lean ====
section
/-! DEFINITION. Masters and the credits of the steep controllers (10_regulation_and_steep_controllers.md R312 to R319, R326 to R330): a request's master and class, its credits, their grant, the order of issue, credit periods, reclaim and return. -/

namespace Sys2Proof.Machine

/-- The slot's marking is in effect (R65, R70). -/
def Slot.fast (sl : Slot) : Bool := sl.mark.isSome && sl.change != .adding

/-- R312: the class of a port's CXL.mem, view and peer-window requests; 0 acts as 1. -/
def State.portCls (s : State) (p : Nat) : Nat :=
  max 1 (bits (s.qos.portClass.get (p / 10) 0x12492492) (3 * (p % 10) + 2) (3 * (p % 10)))

/-! ### Reservation entries -/

def resvValid (w : Word) : Bool := bit w 31
def resvKind (w : Word) : Nat := bits w 30 29
def resvCls (w : Word) : Nat := bits w 28 26
def resvId (w : Word) : Nat := bits w 25 16
def resvMin (w : Word) : Nat := bits w 10 0

/-- Valid reservation entries. -/
def Qos.valid (q : Qos) : Map Word := q.resv.filter (fun e => resvValid e.2)

/-- R324: the sum of reservation-entry minima. -/
def Qos.rest (q : Qos) : Nat := (q.valid.map (fun e => resvMin e.2)).sum

/-- R324: the sum of fast-entry minima. -/
def Qos.fastSum (q : Qos) : Nat := q.fast.length * Config.fastMin

/-! ### Masters (R316) -/

/-- The entry to which a tenant's requests of a class are charged. -/
def State.tenantMaster (s : State) (tenant cls : Nat) : Master :=
  match s.qos.valid.find? (fun e => resvKind e.2 == 0 && resvId e.2 == tenant && resvCls e.2 == cls) with
  | some e => .resv e.1
  | none => .shared

/-- The entry to which a port's CXL.mem requests are charged. -/
def State.portMaster (s : State) (port : Nat) : Master :=
  match s.qos.valid.find? (fun e => resvKind e.2 == 1 && resvId e.2 == port) with
  | some e => .resv e.1
  | none => .shared

/-- Effective minimum of a master on each stack. -/
def Qos.effOf (q : Qos) : Master → Nat
  | .fast n => ((q.fast.find? (fun e => e.2.slot == n)).map (fun e => e.2.eff)).getD 0
  | .internal => Config.internalMin
  | .resv i => q.resvEff.get i 0
  | .shared => 0

/-- The entry and the class of an operation's requests (R75, R312, R316). -/
def State.opMaster (s : State) (o : Op) : Master × Nat :=
  let n := o.mailbox.getD (bits (o.dw 1) 7 0)
  let slotCall := o.mailbox.isSome || (decide (0x40 ≤ o.opcode) && decide (o.opcode ≤ 0x46))
  let cls := if o.mailbox.isSome then 0 else if o.cls = 0 then (if slotCall ∧ (s.slot n).fast then 0 else 1) else o.cls
  if slotCall ∧ (s.slot n).fast then (.fast n, cls) else (s.tenantMaster (s.opTenant o) cls, cls)

/-! ### Credits (R313, R314, R317, R318) -/

def State.queue (s : State) (stack : Nat) : List SteepReq := s.stp.reqs.get stack []

def State.setQueue (s : State) (stack : Nat) (rs : List SteepReq) : State := { s with stp := { s.stp with reqs := s.stp.reqs.set stack rs } }

/-- Lines that have no credit yet. -/
def SteepReq.wants (r : SteepReq) : Nat := r.lines - r.granted

/-- Credits that requests hold. -/
def heldCredits (rs : List SteepReq) : Nat := (rs.map (·.granted)).sum

/-- Credits that a master holds. -/
def heldBy (rs : List SteepReq) (m : Master) : Nat := ((rs.filter (fun r => r.master == m)).map (·.granted)).sum

/-- Every master that holds a minimum (R316). -/
def Qos.masters (q : Qos) : List Master :=
  q.fast.map (fun (e : Nat × FastEntry) => Master.fast e.2.slot) ++ [Master.internal] ++ q.valid.map (fun (e : Nat × Word) => Master.resv e.1)

/-- The unheld part of a master's effective minimum. -/
def Qos.unheld (q : Qos) (rs : List SteepReq) (m : Master) : Nat := q.effOf m - heldBy rs m

/-- Credits inside the unheld minima of some masters. -/
def Qos.unheldOf (q : Qos) (rs : List SteepReq) (ms : List Master) : Nat := (ms.map (q.unheld rs)).sum

/-- Credits that a master holds above its effective minimum: lent ones (R317). -/
def Qos.lent (q : Qos) (rs : List SteepReq) (m : Master) : Nat := heldBy rs m - q.effOf m

/-- Credits that step 2 of R317 may grant: with LEND 1, every free one; with LEND 0, none inside any unheld minimum. -/
def State.lendable (s : State) (rs : List SteepReq) : Nat :=
  s.qos.eff - heldCredits rs - (if bit s.qos.ctl 0 then 0 else s.qos.unheldOf rs s.qos.masters)

/-- The source whose buffer a request of a stack fills (R319): of a fast slot, its staging buffer on the stack's base die; of CXL.mem traffic, the port's ingress buffer. -/
def SteepReq.urgentOf (r : SteepReq) (stack : Nat) : Option Urgent :=
  match r.master with
  | .fast n => some (.slot n stack)
  | _ => r.port.map .port

/-- The request is urgent (R319), whichever buffer of its master raised it: no urgency has effect while URG_EN is 0. -/
def State.isUrgent (s : State) (r : SteepReq) : Bool :=
  bit s.qos.ctl 1 && s.stp.urgent.any (fun u => match u with
    | .slot n _ => r.master == .fast n
    | .port p => r.port == some p && (match r.master with
      | .fast _ => false
      | _ => true))

/-- R317 step 2: the class of a grant, an urgent request as class 0. -/
def State.grantRank (s : State) (r : SteepReq) : Nat := if s.isUrgent r then 0 else r.cls

/-- How recently a master was granted a credit on a stack: larger is longer ago. -/
def recency (turns : List Master) (m : Master) : Nat := (turns.idxOf? m).getD turns.length

/-- R317 step 2: of two waiting requests, the one that is granted first: class order, round robin across masters, then age. -/
def State.grantBefore (s : State) (turns : List Master) (a b : SteepReq) : Bool :=
  if s.grantRank a ≠ s.grantRank b then decide (s.grantRank a < s.grantRank b)
  else if recency turns a.master ≠ recency turns b.master then decide (recency turns b.master < recency turns a.master)
  else decide (a.id < b.id)

/-- A wait of a request is counted under its cause, and to the operation that it belongs to (R128). -/
def State.waited (s : State) (op : Option Nat) (c : StallCause) (ns : Nat) : State :=
  let s1 := s.stall c ns
  match op.bind s1.op? with
  | some o => s1.setOp { o with stallNs := o.stallNs + ns }
  | none => s1

/-- Gives a request k credits: its master goes to the front of the stack's turns (R317). With the last of its lines' credits the controller has accepted the request, and a wait for credit is over (R128, R313). -/
def State.give (s : State) (stack : Nat) (r : SteepReq) (k : Nat) : State :=
  let last := decide (r.lines ≤ r.granted + k)
  let r1 := { r with granted := r.granted + k, waits := if last then none else r.waits, since := if last || r.waits.isNone then s.tim.clock else r.since }
  let s1 := s.setQueue stack ((s.queue stack).map (fun x => if x.id = r.id then r1 else x))
  let turns := s1.stp.turns.get stack []
  let s2 := { s1 with stp := { s1.stp with turns := s1.stp.turns.set stack (r.master :: turns.filter (· != r.master)) } }
  match r.waits with
  | some c => if last then s2.waited r.op c (s.tim.clock - r.since) else s2
  | none => s2

/-- The next grant of R317 on a stack, and how many credits it takes: the rest of a request's lines when no other master competes, else one. Among several requests that step 1 entitles at once the spec gives no order; the oldest in the stack's queue is served first, with all the credits it may take (DESIGN CHOICE, log 10). -/
def State.nextGrant (s : State) (stack : Nat) : Option (SteepReq × Nat) :=
  let rs := s.queue stack
  let free := s.qos.eff - heldCredits rs
  match rs.find? (fun r => 0 < r.wants && 0 < s.qos.unheld rs r.master) with
  | some r => if free = 0 then none else some (r, min r.wants (min free (s.qos.unheld rs r.master)))
  | none =>
    let room := s.lendable rs
    let turns := s.stp.turns.get stack []
    let ready := rs.filter (fun r => 0 < r.wants)
    if room = 0 then none
    else match ready.foldl (fun b r => match b with
        | none => some r
        | some x => if s.grantBefore turns r x then some r else some x) (none : Option SteepReq) with
      | none => none
      | some r =>
        let rivals := ready.any (fun x => x.master != r.master && s.grantRank x == s.grantRank r)
        some (r, if rivals then 1 else min r.wants room)

/-- Grants free credits to waiting requests in R317's order. -/
def State.grantN (s : State) (stack : Nat) : Nat → State
  | 0 => s
  | fuel + 1 => match s.nextGrant stack with
    | none => s
    | some (r, k) => (s.give stack r k).grantN stack fuel

/-- R319: a call of the slot has steep reads in a queue. -/
def State.readPhase (s : State) (n : Nat) : Bool :=
  (List.range 8).any (fun k => (s.queue k).any (fun r => r.master == .fast n && !r.write))

/-- R319: the source still reads. -/
def State.urgentReads (s : State) : Urgent → Bool
  | .slot n _ => s.readPhase n
  | .port p => s.reads.any (fun r => r.port == p && r.peer.isNone) || (List.range 8).any (fun k => (s.queue k).any (fun r => r.port == some p && !r.write))

/-- R319: urgency is lowered as its source's read phase ends, or no read of it is outstanding. -/
def State.lowerUrgency (s : State) : State := { s with stp := { s.stp with urgent := s.stp.urgent.filter s.urgentReads } }

/-- Grants on one stack until nothing more can be granted. -/
def State.grant (s : State) (stack : Nat) : State := s.lowerUrgency.grantN stack (((s.queue stack).map SteepReq.wants).sum)

/-- Grants on every stack: the arbiter's minima or EFF_CREDITS have changed (R321). -/
def State.grantAll (s : State) : State := (List.range 8).foldl (fun t k => t.grant k) s

/-- Where a steep request comes from. -/
inductive ReqSrc where
  | op (id : Nat)
  | port (p : Nat)
  | peer
  | device
  deriving DecidableEq, Repr

/-! ### Issue (R326 to R328) -/

/-- R326, R327: the rank of an issue: 0 is the first row, urgent requests of fast slots. -/
def State.issueRank (s : State) (r : SteepReq) : Nat :=
  let fast := match r.master with
    | .fast _ => true
    | _ => false
  if s.isUrgent r && fast then 0 else if s.isUrgent r || r.promoted || r.cls == 0 then 1 else r.cls + 1

/-- The request has a line that may be issued. -/
def SteepReq.ready (r : SteepReq) : Bool := decide (r.issued < r.granted)

def State.openRow (s : State) (stack bank : Nat) : Option OpenRow := s.stp.rows.find? (fun r => r.stack == stack && r.bank == bank)

/-- The request's row is open. -/
def State.rowHit (s : State) (stack : Nat) (r : SteepReq) : Bool :=
  match s.openRow stack r.bank with
  | some o => o.row == r.row
  | none => false

/-- R326: the bank has served STREAK open-row requests in a row, and a request of the same rank waits for another of its rows: this one must wait. -/
def State.streaked (s : State) (stack : Nat) (r : SteepReq) : Bool :=
  match s.openRow stack r.bank with
  | some o =>
    let limit := max 1 (bits (s.stp.sched.get stack 0x7D0010) 4 0)
    o.row == r.row && decide (limit ≤ o.streak)
      && (s.queue stack).any (fun x => x.ready && x.bank == r.bank && x.row != o.row && s.issueRank x == s.issueRank r)
  | none => false

/-- R326: of two queued requests, the one that is issued first. -/
def State.issueBefore (s : State) (stack : Nat) (a b : SteepReq) : Bool :=
  if s.issueRank a ≠ s.issueRank b then decide (s.issueRank a < s.issueRank b)
  else if s.rowHit stack a ≠ s.rowHit stack b then s.rowHit stack a
  else decide (a.id < b.id)

/-- The channel of a stack that a request's bank belongs to, as a key of `Stp.batch`: HBM4 gives a stack 32 channels. -/
def SteepReq.channel (r : SteepReq) (stack : Nat) : Nat := 32 * stack + Config.channelOf r.bank % 32

/-- R326: the request may be issued now: on a channel whose write batch runs, a write, as long as one is queued there; and a write starts no batch while a read of the first rank is queued on its channel. -/
def State.inTurn (s : State) (stack : Nat) (ready : List SteepReq) (r : SteepReq) : Bool :=
  let here := ready.filter (fun x => x.channel stack == r.channel stack)
  if s.stp.batch.get (r.channel stack) 0 = 0 then !(r.write && here.any (fun x => !x.write && s.issueRank x == 0))
  else r.write || here.all (fun x => !x.write)

/-- R326: the request that a stack issues next. -/
def State.nextIssue (s : State) (stack : Nat) : Option SteepReq :=
  let ready := (s.queue stack).filter SteepReq.ready
  (ready.filter (fun r => !s.streaked stack r && s.inTurn stack ready r)).foldl (fun b r => match b with
    | none => some r
    | some x => if s.issueBefore stack r x then some r else some x) (none : Option SteepReq)

/-- One DRAM command of a stack: a line of the request is issued and its row opened; a write starts a batch of up to 32 on its channel, or goes on with it (R326). -/
def State.issueOn (s : State) (stack : Nat) : State :=
  match s.nextIssue stack with
  | none => s
  | some r =>
    let streak := match s.openRow stack r.bank with
      | some o => if o.row = r.row then o.streak + 1 else 1
      | none => 1
    let rows := (s.stp.rows.filter (fun o => !(o.stack == stack && o.bank == r.bank))) ++ [⟨stack, r.bank, r.row, s.tim.clock, streak⟩]
    let left := s.stp.batch.get (r.channel stack) 0
    let batch := if r.write then (if left = 0 then 31 else left - 1) else 0
    let s1 := s.setQueue stack ((s.queue stack).map (fun x => if x.id = r.id then { x with issued := x.issued + 1 } else x))
    { s1 with stp := { s1.stp with rows := rows, batch := if batch = 0 then s1.stp.batch.erase (r.channel stack) else s1.stp.batch.set (r.channel stack) batch } }

/-- Every controller issues one request, outside a refresh gap (R329). -/
def State.issueAll (s : State) : State := if s.stp.inGap then s else (List.range 8).foldl (fun t k => t.issueOn k) s

/-- A stack issues up to n requests, one after the other, in R326's order. -/
def State.issueN (s : State) (stack : Nat) : Nat → State
  | 0 => s
  | n + 1 => (s.issueOn stack).issueN stack n

/-! ### Credit periods and the gap -/

/-- R329, R330: the refresh gap ends, 410 ns after its start, and with it the waits of the calls whose reads it held (R128). -/
def State.gapEnd (s : State) : State :=
  let s1 := s.advanceTo (s.stp.gapAt + 410)
  ((s1.ops.filter (fun o => match o.stalled with
    | some (c, _) => c == StallCause.refresh
    | none => false)).map (·.id)).foldl (fun t id => t.endStall id) { s1 with stp := { s1.stp with inGap := false } }

/-- R128: a request of an operation, a host or a member that arrives in a refresh gap waits to its end. -/
def State.waitGap (s : State) (src : ReqSrc) : State :=
  if s.stp.inGap ∧ src ≠ .device then
    let s1 := s.gapEnd
    s1.waited (match src with
      | .op id => some id
      | _ => none) .refresh (s1.tim.clock - s.tim.clock)
  else s

/-- The requests that wait for credit have the gap to wait for as well: of several causes the first counts (R128). -/
def State.gapCause (s : State) (stack : Nat) : State :=
  s.setQueue stack ((s.queue stack).map (fun r => { r with waits := r.waits.map (StallCause.first .refresh) }))

/-- One credit period of a stack (R314), after the gap if one runs: every line that holds a credit is issued in R326's order, its last beat crosses the interface, and its credit is granted again. -/
def State.serveRound (s : State) (stack : Nat) : State :=
  let s0 := if s.stp.inGap then (s.gapCause stack).gapEnd else s
  let s1 := s0.advance Config.creditNs
  let order := (s1.issueN stack (heldCredits (s1.queue stack))).stp
  let left := ((s1.queue stack).map (fun r => { r with lines := r.wants, granted := 0, issued := 0 })).filter (fun r => 0 < r.lines)
  ({ s1.setQueue stack left with stp := { (s1.setQueue stack left).stp with rows := order.rows, batch := order.batch } }).grant stack

/-- The request still waits for credit. -/
def State.starved (s : State) (stack id : Nat) : Bool := (s.queue stack).any (fun r => r.id == id && r.waits.isSome)

/-- Credit periods pass until the request has its credits, or none comes back (a shared master under LEND 0, R317). -/
def State.waitCredit (s : State) (stack id : Nat) : Nat → State
  | 0 => s
  | fuel + 1 => if s.starved stack id ∧ 0 < heldCredits (s.queue stack) then (s.serveRound stack).waitCredit stack id fuel else s

/-- R313: a request of `lines` × 64 bytes arrives at a stack's controller and takes credits. One that does not find them waits for those of others, as a regulation wait (R128). -/
def State.steepReq (s : State) (src : ReqSrc) (m : Master) (cls stack line lines : Nat) (write : Bool) : State :=
  if lines = 0 then s
  else
    let s0 := s.waitGap src
    let r : SteepReq := {
      id := s0.stp.nextReq, master := m, cls := cls, lines := lines, write := write, bank := Config.bankOf stack line
      row := Config.rowOf stack line
      port := match src with
        | .port p => some p
        | _ => none
      op := match src with
        | .op id => some id
        | _ => none
      since := s0.tim.clock }
    let s1 := s0.setQueue stack (s0.queue stack ++ [r])
    let s2 := ({ s1 with stp := { s1.stp with nextReq := r.id + 1 } }).grant stack
    let s3 := s2.setQueue stack ((s2.queue stack).map (fun x => if x.id = r.id ∧ 0 < x.wants then { x with waits := some .regulation } else x))
    if src = .device then s3 else s3.waitCredit stack r.id (((s3.queue stack).map SteepReq.wants).sum + 1)

/-- Steep requests of one access to some pages: page and lines of each. -/
def State.pageReqs (s : State) (src : ReqSrc) (m : Master) (cls : Nat) (write : Bool) (asks : List (Nat × Nat)) : State :=
  asks.foldl (fun t a => match t.pages.get? a.1 with
    | some p => t.steepReq src m cls p.stack (a.1 * 1024) a.2 write
    | none => t) s

/-- R318: on one stack, borrowed lines without a DRAM command give their credits up, the newest first, until so many are free. -/
def State.reclaimOn (s : State) (stack goal : Nat) : Nat → State
  | 0 => s
  | fuel + 1 =>
    let rs := s.queue stack
    let free := s.qos.eff - heldCredits rs
    if goal ≤ free then s
    else
      match (rs.filter (fun r => r.issued < r.granted && 0 < s.qos.lent rs r.master)).getLast? with
      | none => s
      | some v =>
        let k := min (goal - free) (min (v.granted - v.issued) (s.qos.lent rs v.master))
        let v1 := { v with granted := v.granted - k, waits := some .regulation, since := s.tim.clock }
        (s.setQueue stack (rs.map (fun r => if r.id = v.id then v1 else r))).reclaimOn stack goal fuel

/-- R318: a master reclaims its lent credits on every stack: what it does not hold of its minimum is free. -/
def State.reclaim (s : State) (m : Master) : State :=
  (List.range 8).foldl (fun t k =>
    let rs := t.queue k
    t.reclaimOn k (t.qos.unheld rs m) rs.length) s

/-- R313: the last beat of a request's issued lines returns their credits, which are granted again (R317). -/
def State.returnCredits (s : State) (stack id : Nat) : State :=
  let left := ((s.queue stack).map (fun r => if r.id = id then { r with lines := r.lines - r.issued, granted := r.granted - r.issued, issued := 0 } else r)).filter
    (fun r => r.id != id || 0 < r.lines)
  (s.setQueue stack left).grant stack

/-- A request of the operation waits for credit (R313). -/
def State.opHeld (s : State) (id : Nat) : Bool := s.stp.reqs.any (fun e => e.2.any (fun r => r.op == some id && r.waits.isSome))

/-- Time passes until the requests of an operation have their credits, as long as others give theirs back. -/
def State.settle (s : State) (id : Nat) : State :=
  (List.range 8).foldl (fun t k =>
    ((t.queue k).filter (fun r => r.op == some id && r.waits.isSome)).foldl
      (fun u r => u.waitCredit k r.id (((u.queue k).map SteepReq.wants).sum + 1)) t) s

/-- R313: an operation that has its result goes on with it once none of its steep requests waits for credit; until then it finishes later. -/
def State.settled (s : State) (o : Op) (k : State → Op → State) : State :=
  if !s.opHeld o.id then k s o
  else
    let t := s.settle o.id
    match t.op? o.id with
    | some o1 =>
      let o2 := { o1 with res := { o1.res with time := t.tim.time } }
      if t.opHeld o.id then t.setOp o2 else k (t.setOp o2) o2
    | none => t

end Sys2Proof.Machine
end

