-- ==== Sys2Proof/Machine/Grist.lean ====
section
/-! DEFINITION. GRIST blocks, decode tables and blobs: 05_grist.md R143 to R152, R154, R162, R163. -/

namespace Sys2Proof.Machine.Grist

/-- A decode table: four lists of 256 code lengths (R147). -/
abbrev Table := List (List Nat)

/-- R147: code of each symbol that has one, as (symbol, length, code). -/
def codesOf (lens : List Nat) : List (Nat × Nat × Nat) :=
  let step := fun (acc : Nat × List (Nat × Nat × Nat)) (l : Nat) =>
    let syms := (List.range 256).filter (fun s => lens.getD s 0 == l)
    let new := syms.zipIdx.map (fun p => (p.1, l, acc.1 + p.2))
    ((acc.1 + syms.length) * 2, acc.2 ++ new)
  ((List.range 12).foldl (fun acc l => step acc (l + 1)) (0, [])).2

/-- R147: a plane with no codes is stored unchanged. -/
def verbatim (lens : List Nat) : Bool := lens.all (· == 0)

/-- R152. -/
def codeValid (lens : List Nat) : Bool :=
  let nz := lens.filter (· != 0)
  verbatim lens || nz == [1] ||
    (lens.all (· ≤ 12) && (nz.map (fun l => 2 ^ (12 - l))).sum == 4096)

def tableValid (t : Table) : Bool := (List.range 4).all (fun n => codeValid (t.getD n []))

/-- R146: how many planes a SPLIT has and how many symbols each holds. -/
def planeCount : Nat → Nat
  | 0 => 1
  | 1 => 2
  | 2 => 4
  | _ => 2
def planeSyms (split : Nat) : Nat := if split = 0 then 4096 else if split = 2 then 1024 else 2048

/-- R146: plane n of a tile. -/
def plane (split n : Nat) (t : List Byte) : List Byte :=
  let nat := fun i => (t.getD i 0).toNat
  (List.range (planeSyms split)).map fun i =>
    match split with
    | 0 => t.getD i 0
    | 1 => t.getD (2 * i + n) 0
    | 2 => t.getD (4 * i + n) 0
    | _ => if n = 0 then BitVec.ofNat 8 (nat (2 * i) / 16 + nat (2 * i + 1) / 16 * 16)
           else BitVec.ofNat 8 (nat (2 * i) % 16 + nat (2 * i + 1) % 16 * 16)

/-- R146: the tile of its planes. -/
def unplane (split : Nat) (ps : List (List Byte)) : List Byte :=
  let nat := fun n i => ((ps.getD n []).getD i 0).toNat
  (List.range 4096).map fun i =>
    match split with
    | 0 => (ps.getD 0 []).getD i 0
    | 1 => (ps.getD (i % 2) []).getD (i / 2) 0
    | 2 => (ps.getD (i % 4) []).getD (i / 4) 0
    | _ => if i % 2 = 0 then BitVec.ofNat 8 (nat 1 (i / 2) % 16 + nat 0 (i / 2) % 16 * 16)
           else BitVec.ofNat 8 (nat 1 (i / 2) / 16 + nat 0 (i / 2) / 16 * 16)

/-- The `len` bits of a code, most significant first (R148). -/
def codeBits (len code : Nat) : List Bool := (List.range len).map (fun i => bitN code (len - 1 - i))

/-- R148: bytes of a bit stream, padded with 0 bits. -/
def packBits (bs : List Bool) : List Byte :=
  (List.range (ceilDiv bs.length 8)).map fun i =>
    BitVec.ofNat 8 ((List.range 8).foldl (fun a j => a + b2n (bs.getD (8 * i + j) false) * 2 ^ j) 0)

def unpackBits (bs : List Byte) : List Bool :=
  bs.flatMap (fun b => (List.range 8).map (fun j => bitN b.toNat j))

/-- R149: the stream of one plane; none when a byte has no code. -/
def encodePlane (lens : List Nat) (p : List Byte) : Option (List Byte) :=
  if verbatim lens then some p
  else
    let codes := codesOf lens
    let bits := p.mapM fun b => (codes.find? (fun c => c.1 == b.toNat)).map (fun c => codeBits c.2.1 c.2.2)
    bits.map (fun l => packBits l.flatten)

/-- A block as its header fields and payload (R143, R144). -/
structure Block where
  mode : Nat
  split : Nat
  table : Nat
  ends : List Nat
  payload : List Byte
  deriving DecidableEq, Repr

def rawBlock (t : List Byte) : Block := ⟨0, 0, 0, [0, 0, 0], t⟩

/-- R149. -/
def encode (t : List Byte) (split slot : Nat) (table : Table) : Block :=
  let streams := (List.range (planeCount split)).mapM fun n => encodePlane (table.getD n []) (plane split n t)
  match streams with
  | none => rawBlock t
  | some ss =>
    let payload := ss.flatten
    if 3840 < payload.length then rawBlock t
    else
      let l0 := (ss.getD 0 []).length
      let l1 := l0 + (ss.getD 1 []).length
      let l2 := l1 + (ss.getD 2 []).length
      let ends := match split with
        | 0 => [0, 0, 0]
        | 2 => [l0, l1, l2]
        | _ => [l0, 0, 0]
      ⟨1, split, slot, ends, payload⟩

/-- Header bytes 0 to 11 as a number (R144). -/
def headerLow (b : Block) : Nat :=
  b.mode + b.split * 2 ^ 4 + b.table * 2 ^ 8 + b.payload.length * 2 ^ 16
    + b.ends.getD 0 0 * 2 ^ 32 + b.ends.getD 1 0 * 2 ^ 44 + b.ends.getD 2 0 * 2 ^ 56

/-- R144: CHECK over header bytes 0 to 11 and the payload. -/
def check (b : Block) : Nat := Crc.crc32c (leBytes (headerLow b) 12 ++ b.payload)

def blockBytes (b : Block) : List Byte := leBytes (headerLow b) 12 ++ leBytes (check b) 4 ++ b.payload

/-- R145: the conditions on a header. -/
def headerOk (h : Nat) : Bool :=
  let mode := bitsN h 3 0
  let split := bitsN h 5 4
  let len := bitsN h 28 16
  let e0 := bitsN h 43 32
  let e1 := bitsN h 55 44
  let e2 := bitsN h 67 56
  let reserved := bitsN h 7 6 == 0 && bitsN h 31 29 == 0 && bitsN h 95 68 == 0
  reserved &&
  (if mode = 0 then len == 4096 && split == 0 && bitsN h 15 8 == 0 && e0 == 0 && e1 == 0 && e2 == 0
   else if mode = 1 then
     decide (512 ≤ len) && decide (len ≤ 3840) &&
     (match split with
      | 0 => e0 == 0 && e1 == 0 && e2 == 0
      | 2 => decide (0 < e0) && decide (e0 < e1) && decide (e1 < e2) && decide (e2 < len)
      | _ => decide (0 < e0) && decide (e0 < len) && e1 == 0 && e2 == 0)
   else false)

/-- Parses the block at the front of some bytes; none when R145 or CHECK fails. -/
def parse (bs : List Byte) : Option Block :=
  let h := leNat (bs.take 12)
  let len := bitsN h 28 16
  let payload := (bs.drop 16).take len
  if headerOk h && payload.length == len && leNat ((bs.drop 12).take 4) == Crc.crc32c (bs.take 12 ++ payload) then
    some ⟨bitsN h 3 0, bitsN h 5 4, bitsN h 15 8, [bitsN h 43 32, bitsN h 55 44, bitsN h 67 56], payload⟩
  else none

/-- R150: reads one code of at most `fuel` more bits; the symbol and the rest. -/
def readCode (codes : List (Nat × Nat × Nat)) : Nat → Nat → Nat → List Bool → Option (Nat × List Bool)
  | 0, _, _, _ => none
  | _ + 1, _, _, [] => none
  | fuel + 1, len, code, b :: rest =>
    let code' := 2 * code + b2n b
    match codes.find? (fun c => c.2.1 == len + 1 && c.2.2 == code') with
    | some c => some (c.1, rest)
    | none => readCode codes fuel (len + 1) code' rest

def readCodes (codes : List (Nat × Nat × Nat)) : Nat → List Bool → Option (List Byte × List Bool)
  | 0, bs => some ([], bs)
  | n + 1, bs =>
    match readCode codes 12 0 0 bs with
    | none => none
    | some (s, rest) => (readCodes codes n rest).map (fun p => (BitVec.ofNat 8 s :: p.1, p.2))

/-- R150: one plane. -/
def decodePlane (lens : List Nat) (count : Nat) (stream : List Byte) : Option (List Byte) :=
  if verbatim lens then (if stream.length = count then some stream else none)
  else
    match readCodes (codesOf lens) count (unpackBits stream) with
    | some (p, rest) => if rest.all (fun b => !b) then some p else none
    | none => none

/-- R150. A raw block decodes to its payload. -/
def decode (b : Block) (table : Table) : Option (List Byte) :=
  if b.mode = 0 then some b.payload
  else
    let n := planeCount b.split
    let start := fun i => if i = 0 then 0 else b.ends.getD (i - 1) 0
    let stop := fun i => if i + 1 = n then b.payload.length else b.ends.getD i 0
    let ps := (List.range n).mapM fun i =>
      decodePlane (table.getD i []) (planeSyms b.split) ((b.payload.drop (start i)).take (stop i - start i))
    ps.map (unplane b.split)

/-- The lengths a table image holds for code n (R151). -/
def imageLens (img : List Byte) (n : Nat) : List Nat :=
  (List.range 256).map fun s =>
    let b := (img.getD (16 + 128 * n + s / 2) 0).toNat
    if s % 2 = 0 then b % 16 else b / 16

def imageTable (img : List Byte) : Table := (List.range 4).map (imageLens img)

/-- R151: marker, reserved bytes and CRC of an image. -/
def imageOk (img : List Byte) : Bool :=
  img.length == 528 && leNat (img.take 4) == Config.tableMark && ((img.drop 4).take 8).all (· == 0) &&
  leNat ((img.drop 12).take 4) == Crc.crc32c (img.take 12 ++ img.drop 16)

/-- R154: the contents of a ROM table. -/
def romTable (slot : Nat) : Table :=
  (List.range 4).map fun n => (List.range 256).map fun s => Config.romLen slot n s

/-- R154: the split kilning uses with a ROM table. -/
def romSplit (slot : Nat) : Nat := [0, 0, 3, 3, 1, 1, 2, 2, 1, 2, 0, 3].getD slot 0

/-- R407: word w of the length area of a ROM table. -/
def romWord (slot w : Nat) : Nat :=
  if 12 ≤ slot then 0
  else leNat ((List.range 4).map fun i =>
    let k := 4 * w + i
    let t := (romTable slot).getD (k / 128) []
    BitVec.ofNat 8 (t.getD (2 * (k % 128)) 0 % 16 + t.getD (2 * (k % 128) + 1) 0 % 16 * 16))

def up16 (n : Nat) : Nat := (n + 15) / 16 * 16

/-- R162: a blob of the given blocks. -/
def blob (bs : List Block) : List Byte :=
  let n := bs.length
  let first := up16 (64 + 4 * n)
  let sizes := bs.map (fun b => up16 (16 + b.payload.length))
  let offs := (sizes.foldl (fun (a : Nat × List Nat) z => (a.1 + z, a.2 ++ [a.1])) (first, [])).2
  let total := first + sizes.sum
  let mask := (bs.filter (fun b => b.mode == 1)).foldl (fun m b => m ||| 2 ^ b.table) 0
  let head := leBytes Config.blobMark 4 ++ leBytes n 4 ++ leBytes mask 32 ++ leBytes total 8 ++ leBytes 0 12
  let padTo := fun (l : List Byte) (k : Nat) => l ++ List.replicate (k - l.length) 0
  padTo (head ++ leBytes (Crc.crc32c head) 4 ++ offs.flatMap (fun o => leBytes (o / 16) 4)) first
    ++ bs.flatMap (fun b => padTo (blockBytes b) (up16 (16 + b.payload.length)))

/-- Fields of a blob header. -/
structure BlobHead where
  n : Nat
  mask : Nat
  total : Nat
  deriving DecidableEq, Repr

/-- R163: the header of a blob from its first 64 bytes. DESIGN CHOICE (log 17): R163 lists no check of N, so any N is taken. -/
def blobHead (bs : List Byte) : Option BlobHead :=
  if leNat (bs.take 4) == Config.blobMark && leNat ((bs.drop 60).take 4) == Crc.crc32c (bs.take 60)
      && ((bs.drop 48).take 12).all (· == 0) && bs.length == 64 then
    some ⟨leNat ((bs.drop 4).take 4), leNat ((bs.drop 8).take 32), leNat ((bs.drop 40).take 8)⟩
  else none

def blobTables (mask : Nat) : List Nat := (List.range 256).filter (fun s => bitN mask s)

end Sys2Proof.Machine.Grist
end

