-- ==== Sys2Proof/Machine/Ops.lean ====
section
/-! DEFINITION. The named operations over the state: outputs, interrupts, fault records, the replay journal, pages and their states (R107 to R127) and kiln records. Every family's meaning is written over these. -/

namespace Sys2Proof.Machine

/-! ### Sleep -/

/-- STP_TEMP follows the sensors, but for a copy that a sleeping controller keeps (R331, R353). -/
def State.senseSteep (s : State) : State :=
  let temp : Map Nat := (s.pwr.temps.filter (fun t => t.1 / 65536 == 3)).map (fun (t : Nat × Nat) => (t.1 % 65536, min 255 t.2))
  let cool := decide ((temp.map (·.2)).foldl max 0 ≤ 82)
  let passed := s.stp.passed || decide (85 < (temp.map (·.2)).foldl max 0)
  { s with stp := { s.stp with temp := temp, passed := passed, coolSince := if cool then some (s.stp.coolSince.getD s.tim.clock) else none } }

/-- The RW fields of a steep controller's registers (10, register tables): offset within the block. -/
def State.writeStp (s : State) (off : Nat) (w : Word) : State :=
  let k := off / 256
  match off % 256 with
  | 0 => { s with stp := { s.stp with sched := s.stp.sched.set k (w &&& 0x03FF001F) } }
  | 4 => { s with stp := { s.stp with pageCtl := s.stp.pageCtl.set k (w &&& 0xFF) } }
  | _ => s

/-- R353: writes held while the steep controllers were OFF are applied in order. -/
def State.flushHeldWrites (s : State) : State :=
  s.stp.heldW.foldl (fun t w => t.writeStp w.1 w.2) { s with stp := { s.stp with heldW := [] } }

/-- R357, R359: an access that needs a sleeping unit wakes the device and waits; the wait is a table wait, and from STANDBY the refresh calendar restarts. -/
def State.awaken (s : State) : State :=
  let up := fun (t : State) (ns : Nat) => ({ (t.advance ns) with pwr := { t.pwr with state := .active, waking := none } }).stall .table ns
  match s.pwr.state with
  | .quiet => up s 2000
  | .standby =>
    let t := (up s 150000).senseSteep.flushHeldWrites
    { t with stp := { t.stp with next := t.tim.time + (if t.stp.hot then 1950 else 3900) } }
  | _ => s

/-! ### Outputs of a function -/

/-- A request of either side ends L1 on a port and asks for full width (R301); a link that the governor holds narrow stays so (R363). -/
def State.leaveL1 (s : State) (port : Nat) : State :=
  let q := s.port port
  if q.inL1 ∨ q.l0pWidth ≠ q.width then s.setPort port { q with inL1 := false, l0pWidth := if q.governed then q.l0pWidth else q.width } else s

/-- R276, R277, R285: what leaves through a function is held while it may not issue requests and dropped during FLR. -/
def State.send (s : State) (p : Nat) (o : Out) : State :=
  let q := s.port p
  if q.flrBusy || q.width = 0 then s
  else if q.bme && !q.d3 then (s.leaveL1 p).emit o
  else s.setPort p { q with held := q.held ++ [o] }

/-- The MSI-X entry is masked, or all are (R303); an entry that nothing has written is masked, as PCIe resets it (log 5). -/
def Port.entryMasked (q : Port) (v : Nat) : Bool := bit (q.cfg.get 0xB0 0) 30 || bit (q.msixTable.get (4 * v + 3) 1) 0

/-- The MSI message is masked. -/
def Port.messageMasked (q : Port) (m : Nat) : Bool := bit (q.cfg.get 0x60 0) m

/-- R303: signals vector v of a function. -/
def State.signal (s : State) (p v : Nat) : State :=
  let q := s.port p
  match q.msi with
  | .none => s
  | .msi n =>
    let m := v % n
    if q.messageMasked m then s.setPort p { q with msiPending := (q.msiPending.filter (· != m)) ++ [m] } else s.send p (.irq p m)
  | .msix =>
    if q.entryMasked v then s.setPort p { q with pendingV := (q.pendingV.filter (· != v)) ++ [v] } else s.send p (.irq p v)

/-- R303: sends the pending interrupts of a function that are not masked any more. -/
def State.sendPending (s : State) (p : Nat) : State :=
  let q := s.port p
  match q.msi with
  | .none => s
  | .msi _ => (q.msiPending.filter (fun m => !q.messageMasked m)).foldl (fun t m => t.send p (.irq p m))
      (s.setPort p { q with msiPending := q.msiPending.filter q.messageMasked })
  | .msix => (q.pendingV.filter (fun v => !q.entryMasked v)).foldl (fun t v => t.send p (.irq p v))
      (s.setPort p { q with pendingV := q.pendingV.filter q.entryMasked })

/-- Adds a record to an event log of a function (R293): 64 a log, overflow flagged. -/
def State.logEvent (s : State) (p log : Nat) (body : List Nat) : State :=
  let q := s.port p
  if 64 ≤ (q.events.filter (fun e => e.log == log)).length then
    s.setPort p { q with overflow := (q.overflow.filter (· != log)) ++ [log] }
  else
    let ts := BitVec.ofInt 64 ((s.tim.time.toNat : Int) + q.tsOffset)
    let s1 := s.setPort p { q with events := q.events ++ [⟨q.nextHandle, log, ts, body⟩], nextHandle := q.nextHandle + 1 }
    -- R303: the vector that the host's event interrupt policy selects
    let pol := q.policy.getD log 0
    if pol % 4 = 1 then s1.signal p (pol / 16 % 16) else s1

/-- Place of an error in the AER status registers: whether it is uncorrectable, and its bit (R304; the places are PCIe's, log 5). -/
def AerError.place : AerError → Bool × Nat
  | .poisonedTlp => (true, 12)
  | .flowControl => (true, 13)
  | .completionTimeout => (true, 14)
  | .unexpectedCompletion => (true, 16)
  | .receiverOverflow => (true, 17)
  | .malformed => (true, 18)
  | .unsupportedRequest => (true, 20)
  | .uncorrectableInternal => (true, 22)
  | .ideCheck => (true, 28)
  | .ideMisrouted => (true, 29)
  | .correctedInternal => (false, 14)
  | .headerLogOverflow => (false, 15)
  | .advisoryNonFatal => (false, 13)

/-- The AER error is one that PCIe's role-based reporting calls advisory while it is non-fatal (R304's table). -/
def AerError.advisory : AerError → Bool
  | .poisonedTlp | .completionTimeout | .unexpectedCompletion | .unsupportedRequest => true
  | _ => false

/-- The error comes with the header of a TLP. -/
def AerError.headed : AerError → Bool
  | .poisonedTlp | .unexpectedCompletion | .malformed | .unsupportedRequest | .ideCheck | .ideMisrouted => true
  | _ => false

/-- What the RW bits of a configuration register hold after a reset: Enable Relaxed Ordering and Enable No Snoop, Max_Read_Request_Size 512; the severities of R304; advisory errors masked (log 5). -/
def cfgReset (off : Nat) : Word :=
  match off with
  | 0x78 => 0x2810
  | 0x108 => 0x00400000
  | 0x10C => 0x00462030
  | 0x114 => 0x0000E000
  | _ => 0

/-- The RW bits of a register as they stand. -/
def Port.cfgOf (q : Port) (off : Nat) : Word := q.cfg.get off (cfgReset off)

/-- Its mask bit is set: the error is logged in its status bit, and neither its header is kept nor a message sent. -/
def Port.errMasked (q : Port) (e : AerError) : Bool := bit (q.cfgOf (if e.place.1 then 0x108 else 0x114)) e.place.2

/-- R304: the severity that the AER severity register gives the error. -/
def Port.severity (q : Port) (e : AerError) : Severity :=
  if e.place.1 then (if bit (q.cfgOf 0x10C) e.place.2 then .fatal else .nonFatal) else .correctable

/-- The error as it is signalled: an advisory one that is non-fatal goes as a correctable error (R304). -/
def Port.signalled (q : Port) (e : AerError) : Severity := if e.advisory && q.severity e == .nonFatal then .correctable else q.severity e

/-- An error message of that severity is enabled: in Device Control, or by SERR# Enable if it is not correctable (R283). -/
def Port.reports (q : Port) (v : Severity) : Bool :=
  let ctl := q.cfgOf 0x78
  match v with
  | .correctable => bit ctl 0
  | .nonFatal => bit ctl 1 || bit (q.cfgOf 0x04) 8
  | .fatal => bit ctl 2 || bit (q.cfgOf 0x04) 8

/-- The errors that a report adds to the status registers: itself, Advisory Non-Fatal with an advisory one, and Header Log Overflow where the log already holds a header (R304). -/
def Port.logged (q : Port) (e : AerError) : List AerError :=
  [e] ++ (if e.advisory && q.severity e == .nonFatal then [.advisoryNonFatal] else [])
    ++ (if e.headed && !q.errMasked e && q.aer.any (fun x => x.headed && !q.errMasked x) then [.headerLogOverflow] else [])

/-- The messages that a report sends upstream (R304): one for each error that it adds and that is not masked, an advisory one standing for its own. -/
def Port.errMessages (q : Port) (p : Nat) (e : AerError) : List Out :=
  ((q.logged e).filter (fun x => !q.errMasked x && !(x.advisory && (q.errMasked .advisoryNonFatal) && q.severity x == .nonFatal)
    && x != .advisoryNonFatal && q.reports (q.signalled x))).map (fun x => Out.errMessage p (q.signalled x))

/-- R304: a function reports an error. The header log keeps the header of the first unmasked error until software clears it, so a second overflows it. -/
def State.aer (s : State) (p : Nat) (e : AerError) : State :=
  let q := s.port p
  { s with
    ports := s.ports.set p { q with aer := q.aer ++ q.logged e }
    outs := s.outs ++ (if q.width = 0 then [] else q.errMessages p e) }

/-- An access to a BAR in D3hot is answered with Unsupported Request (R285, R304). -/
def State.barRefused (s : State) (port : Nat) : State := (s.emit (.unsupportedRequest port)).aer port .unsupportedRequest

/-- The stream that a request comes in is Secure (R309, R310). -/
def Port.secures (q : Port) (ide : Option Nat) : Bool :=
  match ide.bind q.ide.get? with
  | some i => i.st == .secure
  | none => false

/-- R310: traffic of a stream that is not Secure any more, or was never keyed, is dropped. -/
def Port.drops (q : Port) (ide : Option Nat) : Bool := ide.isSome && !q.secures ide

/-- R301, R310: a request of the host arrives: it ends L1, and one of an Insecure stream is dropped; `k` runs for any other. -/
def State.arrives (s : State) (port : Nat) (ide : Option Nat) (k : State → State) : State :=
  if (s.port port).drops ide then s.leaveL1 port else k (s.leaveL1 port)

/-- R310: a request to a BAR outside the Secure streams that its port requires is answered with Unsupported Request and counted. -/
def State.ideGate (s : State) (port : Nat) (ide : Option Nat) (k : State → State) : State :=
  s.arrives port ide fun s =>
    let q := s.port port
    if q.ideRequired && ide.isNone then (s.setPort port { q with ideRefuse := inc32 q.ideRefuse }).emit (.unsupportedRequest port)
    else k s

/-- R285: an access to a BAR that passes R310 is refused in D3hot. -/
def State.barGate (s : State) (port : Nat) (ide : Option Nat) (k : State → State) : State :=
  s.ideGate port ide fun s => if (s.port port).d3 then s.barRefused port else k s

def State.linkUp (s : State) (p : Nat) : Bool := (s.port p).width != 0

def linkedPorts (s : State) : List Nat := (List.range Config.nPorts).filter s.linkUp

/-! ### Replay journal (R396 to R402) -/

/-- R398: a record padded to 16 bytes. -/
def jrnLen (r : JrnRec) : Nat := (16 + r.body.length + 15) / 16 * 16

/-- R398: the bytes of a record. -/
def jrnBytes (r : JrnRec) : List Byte :=
  let tail := leBytes r.index 8 ++ r.body ++ List.replicate (jrnLen r - 16 - r.body.length) 0
  let head := leBytes r.ty 1 ++ [0] ++ leBytes (jrnLen r / 16) 2
  head ++ leBytes (Crc.crc32c (head ++ [0, 0, 0, 0] ++ tail)) 4 ++ tail

def jrnUsed (rs : List JrnRec) : Nat := (rs.map jrnLen).sum

/-- Drops oldest records until the ring holds no more than `cap` bytes. -/
def jrnTrim (cap : Nat) : List JrnRec → List JrnRec
  | [] => []
  | r :: rs => if jrnUsed (r :: rs) ≤ cap then r :: rs else jrnTrim cap rs

def Jrn.cap (j : Jrn) : Nat := bits j.ctl 22 16 * Config.gib

/-- R396: puts one record into the ring. -/
def Jrn.put (j : Jrn) (ty : Nat) (body : List Byte) : Jrn :=
  let r : JrnRec := ⟨j.next, ty, body⟩
  if j.full then j
  else if jrnUsed (j.recs ++ [r]) ≤ j.cap then { j with recs := j.recs ++ [r], next := j.next + 1 }
  else if bit j.ctl 30 then { j with recs := jrnTrim j.cap (j.recs ++ [r]), next := j.next + 1 }
  else { j with full := true }

/-- Recording is on (R396). -/
def State.recording (s : State) : Bool := bit s.jrn.ctl 31 && !s.jrn.full

/-- R396, R402: records, or drops and counts the record when the writer is behind; a GAP record marks what was lost. -/
def State.journal (s : State) (ty : Nat) (body : List Byte) : State :=
  if !s.recording then s
  else if Config.jrnBehind s.freeCtr then
    { s with freeCtr := s.freeCtr + 1, jrn := { s.jrn with lost := inc32 s.jrn.lost, gap := s.jrn.gap + 1 } }
  else
    let j := if s.jrn.gap = 0 then s.jrn
      else { s.jrn.put 0x06 (leBytes s.jrn.gap 8 ++ leBytes s.tim.time.toNat 8) with gap := 0 }
    -- its bytes go to the ring's frames at class 5 under the internal entry, and delay nothing
    { s with freeCtr := s.freeCtr + 1, jrn := j.put ty body }.steepReq .device .internal 5
      (Config.ringStack j.next % 8) j.next (ceilDiv (jrnLen ⟨j.next, ty, body⟩) 64) true

/-- Index that the next record takes, if recording is on and it is not dropped. -/
def State.journalIndex (s : State) (s' : State) : Option Nat :=
  if s.jrn.next < s'.jrn.next ∧ !s'.jrn.full then some (s'.jrn.next - 1) else none

/-! ### Fault records (R384 to R389) -/

/-- R305: the functions that report a unit's errors. -/
def State.reporting (s : State) (u : UnitId) : List Nat := if u.kind = 5 then [u.inst] else linkedPorts s

/-- R385: the AER report of a class. -/
def faultAer (cls : Nat) : Option AerError :=
  match cls with
  | 1 => some .correctedInternal
  | 4 => some .uncorrectableInternal
  | 5 => some .uncorrectableInternal
  | _ => none

/-- Writes one fault record, of a fault detected at `time`, to its three places and makes its class's reports (R384, R385, R388). -/
def State.raiseAt (s : State) (time : DWord) (code : Nat) (u : UnitId) (action count : Nat) (detail : List Nat) (tenant : Nat) : State :=
  let cls := faultClass code
  let r : FaultRec := ⟨time, s.flt.seq, code, cls, action, u, count, detail, (s.rst.fwChosen.getD s.rst.fw).1,
    phaseCode s.rst.phase, pstateCode s.pwr.state, tenant⟩
  let f := s.flt
  let f1 : Flt := { f with
    seq := f.seq + 1
    count := inc32 f.count
    everWritten := true
    ring := (r :: f.ring).take 16384
    first := some (f.first.getD r)
    retained := (r :: f.retained).take 191 }
  let s1 := { s with flt := f1, pins := { s.pins with faultN := s.pins.faultN || cls == 5 } }
  let s2 := (s1.journal 0x08 (faultBytes r)).emit (.fault r)
  let s3 := (s2.reporting u).foldl (fun t p => t.logEvent p (faultLog cls) [code, r.seq.toNat, unitKey u]) s2
  match faultAer cls with
  | some e => (s3.reporting u).foldl (fun t p => t.aer p e) s3
  | none => s3

/-- The record of a fault detected now. -/
def State.raiseN (s : State) (code : Nat) (u : UnitId) (action count : Nat) (detail : List Nat) (tenant : Nat) : State :=
  s.raiseAt s.tim.time code u action count detail tenant

/-- The record of a fault that concerns no one tenant. -/
def State.raise (s : State) (code : Nat) (u : UnitId) (action : Nat) (detail : List Nat) : State :=
  s.raiseN code u action 1 detail 0xFFFF

/-- The device as a unit (R386). -/
def unitDevice : UnitId := ⟨0, 0⟩

/-! ### Pages -/

/-- A frame holds the page (R108). -/
def PageState.framed : PageState → Bool
  | .dirty | .clean | .kilnEvict | .kilnKeep _ => true
  | _ => false

/-- The page can be read or written now. -/
def Page.usable (p : Page) : Bool := (p.st == .zero || p.st.framed) && !p.copying

/-- R110: the page carries a counter. -/
def State.counted (s : State) (p : Page) : Bool :=
  p.st.framed || p.st == .steeping ||
    (p.st == .kiln && s.kln.kilnings.get (p.stack / 4) 0 - p.kilnedAt < 16777216)

/-- R110, R125: one request, descriptor or call touched the page. -/
def State.bump (s : State) (p : Page) : Nat := min 255 ((if s.counted p || p.st == .zero then p.ctr else 0) + 1)

/-- Lines of the page wait in the pending-write table (R124). -/
def State.lined (s : State) (pid : Nat) : Bool := s.kln.pend.any (fun l => l.page == pid)

/-- The page's data can be read now: a frame holds it, or it is ZERO and no written line waits for its frame. -/
def State.atHand (s : State) (pid : Nat) (p : Page) : Bool := p.usable && !(p.st == .zero && s.lined pid)

/-- Address in `mem` of a byte of a page. -/
def pageAddr (pid off : Nat) : Nat := pid * 65536 + off

/-- Adds a page record with a new number. -/
def State.newPage (s : State) (p : Page) : Nat × State :=
  (s.nextPage, { s with nextPage := s.nextPage + 1, pages := s.pages.set s.nextPage p })

/-- R125: takes a queued eviction of the page back. -/
def State.cancelEvict (s : State) (pid : Nat) : State :=
  { s with kln := { s.kln with moves := s.kln.moves.filter (fun m => !(m.page == pid && m.kind == .evict)) } }

/-- A stack of kiln that took no offline action (R392, R412). -/
def State.kilnPresent (s : State) (k : Nat) : Bool :=
  !s.geo.kOffline.contains k && (s.fuses.variant != .sk470 || k % 8 < 4) && decide (k < 16)

/-- R109, R127: a record on an offline stack counts as failed with MEDIA. -/
def State.recordStatus (s : State) (p : Page) : Option Status :=
  match p.failed with
  | some st => some st
  | none =>
    match p.record with
    | some r => if s.kilnPresent r.stack then none else some .media
    | none => none

/-- Queues a move of a page, once for each kind. -/
def State.queueMove (s : State) (pid : Nat) (kind : MoveKind) (cls : Nat) : State :=
  if s.kln.moves.any (fun m => m.page == pid && m.kind == kind) then s
  else { s with kln := { s.kln with moves := s.kln.moves ++ [⟨pid, kind, cls, s.tim.clock⟩] } }

/-- R111: a KILN page whose counter reached STEEP_THRESH is queued for speculative steeping; one whose record has failed is not (R127). -/
def State.speculate (s : State) (pid : Nat) : State :=
  match s.pages.get? pid with
  | none => s
  | some p =>
    if bit s.kln.tierCtl 31 ∧ p.st = .kiln ∧ (s.recordStatus p).isNone ∧ max 1 (bits s.kln.tierCtl 23 16) ≤ p.ctr then
      s.queueMove pid .speculative 6 else s

/-- R110, R111: one request, descriptor or call reads or writes the page. -/
def State.count (s : State) (pid : Nat) : State :=
  match s.pages.get? pid with
  | none => s
  | some p => (s.setPage pid { p with ctr := s.bump p }).speculate pid

/-- R125, rows for a read that a frame or a ZERO page serves; `fresh`: it is the toucher's first touch of the page (R110). -/
def State.touchRead (s : State) (pid : Nat) (fresh : Bool := true) : State :=
  match s.pages.get? pid with
  | none => s
  | some p =>
    let st := match p.st with
      | .kilnEvict => .kilnKeep false
      | st => st
    (s.setPage pid { p with st := st, ctr := if fresh then s.bump p else p.ctr }).cancelEvict pid

/-- R126, R131: a record is dead; its segment's live bytes shrink. -/
def State.killRecord (s : State) (r : Record) : State :=
  let g := s.kln.segs.get r.seg {}
  { s with kln := { s.kln with segs := s.kln.segs.set r.seg { g with live := g.live - r.units * 64 } } }

def State.killRecordOf (s : State) (p : Page) : State :=
  match p.record with
  | some r => s.killRecord r
  | none => s

/-- Pages of a stack whose running copy reads a frame that its page has left: the frame is not free before the copy ends (R123). -/
def State.heldFrames (s : State) (stack : Nat) : List (Nat × Page) :=
  s.pages.filter fun p => p.2.stack == stack && p.2.copying && (match p.2.copyFrom.bind s.pages.get? with
    | some q => !q.st.framed
    | none => true)

/-- Numbers of the frames of a stack that hold or await a page, or that a copy reads (R108, R123, R170). -/
def State.frameNos (s : State) (stack : Nat) : List Nat :=
  (s.pages.filter (fun p => p.2.stack == stack && (p.2.st.framed || p.2.st == .steeping))).map (fun (p : Nat × Page) => p.2.frame)
    ++ (s.heldFrames stack).map (fun (p : Nat × Page) => p.2.copyFrame)

/-- The frame that a stack gives next: the lowest that is free (DESIGN CHOICE, log 11). -/
def State.freeFrame (s : State) (stack : Nat) : Nat :=
  let taken := s.frameNos stack
  ((List.range (taken.length + 1)).find? (fun i => !taken.contains i)).getD 0

/-- R125, rows for a write into a frame or a ZERO page. -/
def State.touchWrite (s : State) (pid : Nat) (fresh : Bool := true) : State :=
  match s.pages.get? pid with
  | none => s
  | some p =>
    let st := match p.st with
      | .zero => .dirty
      | .dirty => .dirty
      | .clean => .dirty
      | .kilnEvict => .kilnKeep true
      | .kilnKeep _ => .kilnKeep true
      | st => st
    -- a write makes the record of a CLEAN page stale: it is dead (R131)
    let s1 := if p.st = .clean then s.killRecordOf p else s
    (s1.setPage pid { p with
      st := st, frame := if p.st = .zero then s.freeFrame p.stack else p.frame
      ctr := if fresh then s.bump p else p.ctr, record := if p.st = .clean then none else p.record }).cancelEvict pid

/-- The tile CRC of a page in `mem` (R33). -/
def State.tileCrc (s : State) (pid tile : Nat) : Nat := Crc.crc32c (s.mem.slice (pageAddr pid (4096 * tile)) 4096)

/-- CRC-32C of 4,096 zero bytes (R31). -/
def zeroTileCrc : Nat := 0x98F94189

/-- The tag of a tile; one never written is that of a tile of zeros of the page's owner (R31, R172). -/
def State.tag (s : State) (pid tile : Nat) : Tag :=
  match s.tags.get? (pid * 16 + tile) with
  | some t => t
  | none => match s.pages.get? pid with
    | some p => match p.owner with
      | .version _ _ v _ => { tenant := p.tenant, version := v, crc := zeroTileCrc }
      | .extent _ _ => { tenant := p.tenant, crc := zeroTileCrc }
    | none => { crc := zeroTileCrc }

/-- The tiles of a page that a range of it touches. -/
def tilesOf (off len : Nat) : List Nat := (List.range (ceilDiv (off % 4096 + len) 4096)).map (off / 4096 + ·)

/-- R169 step 1: a write renews the VERSION and TENANT of every tile it touches, and its CRC from the contents before and after: a CRC that was wrong stays wrong. `s` holds the new bytes, `before` the old ones. -/
def State.retag (s before : State) (pid off len version tenant : Nat) : State :=
  (tilesOf off len).foldl (fun t i =>
    let g := t.tag pid i
    { t with tags := t.tags.set (pid * 16 + i) { g with crc := g.crc ^^^ before.tileCrc pid i ^^^ t.tileCrc pid i, version := version, tenant := tenant } }) s

/-- Writes bytes into a page that can take them, with its tags. -/
def State.pokePage (s : State) (pid off : Nat) (bs : List Byte) (version tenant : Nat) (fresh : Bool := true) : State :=
  let s1 := s.touchWrite pid fresh
  let s2 := { s1 with mem := s1.mem.write (pageAddr pid off) bs }
  s2.retag s pid off bs.length version tenant

/-- Frames on a stack that are in use, those that a copy still reads (R123) and the replay journal's pinned frames (R396) included. -/
def State.framesUsed (s : State) (stack : Nat) : Nat :=
  (s.pages.filter (fun p => p.2.stack == stack && (p.2.st.framed || p.2.st == .steeping))).length + (s.heldFrames stack).length
    + (if bit s.jrn.ctl 31 then bits s.jrn.ctl 22 16 * 2048 else 0)

/-- R107: 96 GiB a stack. -/
def State.framesFree (s : State) (stack : Nat) : Nat := 96 * 16384 - s.framesUsed stack

/-- Starts the steeping of a KILN page: its lock is taken and a frame allocated (R125); its writes of the frame are the internal entry's (R316). -/
def State.steepPage (s : State) (pid : Nat) (p : Page) (cls fetchAt : Nat) : State :=
  let s1 := s.setPage pid { p with st := .steeping, frame := s.freeFrame p.stack, fetchAt := fetchAt, moveCls := cls }
  let moves := s1.kln.moves.filter (fun (m : Move) => !(m.page == pid && (m.kind == .demand || m.kind == .speculative || m.kind == .willneed || m.kind == .pin)))
  ({ s1 with kln := { s1.kln with moves := moves } }).pageReqs .device .internal cls true [(pid, 1024)]

/-- R125: a demand steeps a KILN page, or takes a frame for a ZERO page that has written lines waiting; with no free frame it stays queued. -/
def State.demand (s : State) (pid : Nat) (kind : MoveKind) (cls : Nat) : State :=
  match s.pages.get? pid with
  | none => s
  | some p =>
    if p.st = .kiln ∧ (s.recordStatus p).isNone then
      if 0 < s.framesFree p.stack then s.steepPage pid p cls s.tim.clock else s.queueMove pid kind cls
    else if p.st = .zero then s.queueMove pid kind cls
    else s

/-- R122: no move holds the page's lock. -/
def Page.lockFree (p : Page) : Bool :=
  match p.st with
  | .steeping | .kilnEvict | .kilnKeep _ => false
  | _ => true

/-- R126, R185: the pages of a share group are scrubbed: none of its records is left but SCRUBBING ones. -/
def State.scrubbing (s : State) (g : Nat) : Bool :=
  let rs := s.pool.recs.filter (fun e => e.2.group == g)
  !rs.isEmpty && rs.all (fun e => e.2.st == .scrubbing)

/-- R122, R126: neither a move nor a scrub holds the page's lock. -/
def State.lockOpen (s : State) (p : Page) : Bool :=
  p.lockFree && !(match p.owner with
    | .extent g _ => s.scrubbing g
    | .version _ _ _ _ => false)

/-! ### Kiln records and segments (R131 to R137, R168) -/

/-- R168: tables the encoder tries for a tile of a FORMAT, with their splits. -/
def candidates (s : State) (tenant format : Nat) : List (Nat × Nat × Grist.Table) :=
  let rom := fun n => (n, Grist.romSplit n, Grist.romTable n)
  let byFormat := match format with
    | 0x01 => [rom 2]
    | 0x03 => [rom 2]
    | 0x02 => [rom 3]
    | 0x04 => [rom 3]
    | 0x05 => [rom 4]
    | 0x15 => [rom 4]
    | 0x11 => [rom 2]
    | 0x12 => [rom 3]
    | _ => []
  let pref := match (s.tenants.get? tenant).bind (fun t => t.prefs.get? format) with
    | some (slot, split) =>
      ((s.grs.tables.find? (fun t => t.tenant == tenant && t.slot == slot && t.st == .loaded)).map
        (fun t => (slot, split, Grist.imageTable t.image))).toList
    | none => []
  rom 0 :: byFormat ++ pref

/-- R168: the shortest coded block, the lower slot on ties, or raw. -/
def kilnBlock (s : State) (tenant format : Nat) (tile : List Byte) : Grist.Block :=
  let bs := (candidates s tenant format).map (fun c => Grist.encode tile c.2.1 c.1 c.2.2)
  (bs.filter (fun b => b.mode == 1)).foldl (fun a b =>
    if a.mode = 0 || b.payload.length < a.payload.length || (b.payload.length == a.payload.length && b.table < a.table) then b else a)
    (Grist.rawBlock tile)

/-- The 16 blocks of a page's record. -/
def pageBlocks (s : State) (pid : Nat) (p : Page) : List Grist.Block :=
  (List.range 16).map fun i => kilnBlock s p.tenant (s.tag pid i).format (s.mem.slice (pageAddr pid (4096 * i)) 4096)

/-- R132: length of a record in 64-byte units. -/
def recordUnits (bs : List Grist.Block) : Nat := ceilDiv (320 + (bs.map (fun b => 16 + b.payload.length)).sum) 64

/-- OWNER, VERSION, KIND and PAGE of a record (R132): an extent page's owner is the record that created its share group (R433). -/
def State.ownerFields (s : State) : PageOwner → Nat × Nat × Nat × Nat
  | .extent g i => (((s.pool.groups.get? g).map (·.creator)).getD 0, 0, 0, i)
  | .version _ c v i => (c, v, 1, i)

/-- R170: the kiln tweak of a tile's payload, or of the tag area (n = 16), from the fields of R132. -/
def kilnTweak (f : Nat × Nat × Nat × Nat) (n : Nat) : BitVec 128 :=
  BitVec.ofNat 128 (f.1 * 2 ^ 64 + f.2.2.1 * 2 ^ 62 + f.2.1 % 2 ^ 26 * 2 ^ 36 + f.2.2.2 % 2 ^ 28 * 2 ^ 8 + n)

/-- R170: the steep tweak of a line. -/
def steepTweak (stack line : Nat) : BitVec 128 := BitVec.ofNat 128 (stack * 2 ^ 37 + line)

/-- R132: bytes 0 to 63 of a record. -/
def recordHeader (tenant : Nat) (f : Nat × Nat × Nat × Nat) (units : Nat) : List Byte :=
  let h := leBytes Config.recordMark 4 ++ leBytes units 2 ++ leBytes (tenant + f.2.2.1 * 1024) 2 ++ leBytes f.1 8
    ++ leBytes f.2.1 8 ++ leBytes f.2.2.2 8 ++ List.replicate 28 0
  h ++ leBytes (Crc.crc32c h) 4

/-- R132: a record is treated as dead when its KIND is the reserved one or its HCRC does not match. -/
def deadRecord (image : List Byte) : Bool :=
  bits (w32 (leNat ((image.drop 6).take 2))) 11 10 == 3 || leNat ((image.drop 60).take 4) != Crc.crc32c (image.take 60)

/-- Key under which a tenant's data is encrypted (R341). -/
def State.dataKey (s : State) (tenant : Nat) : BitVec 512 := ((s.tenants.get? tenant).bind (·.key)).getD 0

/-- R169, R170: line i of a page's frame as the stack holds it. `mem` holds what decryption gives back on every access (log 6). -/
def State.steepLine (s : State) (pid : Nat) (p : Page) (i : Nat) : List Byte :=
  Config.aesXts (s.dataKey p.tenant) (steepTweak p.stack (1024 * p.frame + i)) (s.mem.slice (pageAddr pid (64 * i)) 64)

/-- R132, R169: the whole record as it is written, payloads and tags encrypted under the tenant key, zero-padded to its length. -/
def recordImage (s : State) (pid : Nat) (p : Page) (bs : List Grist.Block) : List Byte :=
  let f := s.ownerFields p.owner
  let key := s.dataKey p.tenant
  let tags := (List.range 16).flatMap (fun i => tagBytes (s.tag pid i))
  let body := bs.zipIdx.flatMap fun b =>
    leBytes (Grist.headerLow b.1) 12 ++ leBytes (Grist.check b.1) 4 ++ Config.aesXts key (kilnTweak f b.2) b.1.payload
  let whole := recordHeader p.tenant f (recordUnits bs) ++ Config.aesXts key (kilnTweak f 16) tags ++ body
  whole ++ List.replicate (64 * recordUnits bs - whole.length) 0

/-- R131: the segment of a stack that takes a record of so many bytes: the open one if it fits, else the FREE one of lowest erase count. -/
def State.openSeg (s : State) (k bytes : Nat) (want : SegState) : Option Nat × State :=
  let mine := s.kln.segs.filter (fun e => e.1 / 32768 == k)
  let close : Nat × Seg → Nat × Seg := fun e =>
    if e.1 / 32768 == k && e.2.st == some want then (e.1, { e.2 with st := some .full }) else e
  let full := fun (t : State) => { t with kln := { t.kln with segs := t.kln.segs.map close } }
  match mine.find? (fun e => e.2.st == some want && decide (e.2.used + bytes ≤ 67108864)) with
  | some e => (some e.1, s)
  | none =>
    -- in REBUILD only erased segments are free, and those are listed (R349)
    let unlisted := if s.rebuild.isSome then none else (List.range (mine.length + 1)).find? (fun i => !(mine.any (fun e => e.1 == k * 32768 + i)))
    let worn := mine.filter (fun e => e.2.st == none)
    let better := fun (a : Option (Nat × Seg)) (e : Nat × Seg) => match a with
      | none => some e
      | some b => if e.2.erases < b.2.erases then some e else some b
    let best : Option (Nat × Seg) := worn.foldl better none
    let pick : Option Nat := match unlisted with
      | some i => if i < 32768 then some (k * 32768 + i) else best.map (·.1)
      | none => best.map (·.1)
    match pick with
    | none => (none, s)
    | some g =>
      let s1 : State := if want = SegState.journal then s else full s
      let old := s1.kln.segs.get g {}
      (some g, { s1 with kln := { s1.kln with segs := s1.kln.segs.set g { old with st := some want, used := 0, live := 0 } } })

/-- R136: counts bytes written to kiln and raises the wear records once each. -/
def State.wrote (s : State) (bytes : Nat) : State :=
  let n := s.kln.writtenBytes + bytes
  let used := wearUsed n
  let s1 := { s with kln := { s.kln with writtenBytes := n } }
  let s2 := if 8000 ≤ used ∧ !s.kln.wearWarn then
      { s1 with kln := { s1.kln with wearWarn := true } }.raise 0x0022 unitDevice 0 [used] else s1
  if 10000 ≤ used ∧ !s.kln.wearOver then
    { s2 with kln := { s2.kln with wearOver := true } }.raise 0x0023 unitDevice 0 [used] else s2

/-- R109: the stacks of a hub half that take records. -/
def State.halfStacks (s : State) (half : Nat) : List Nat :=
  ((List.range 8).map (fun i => 8 * half + i)).filter s.kilnPresent

/-- FREE segments of a stack (R133). -/
def State.freeSegs (s : State) (k : Nat) : Nat :=
  if s.rebuild.isSome then (s.kln.segs.filter (fun e => e.1 / 32768 == k && e.2.st.isNone)).length
  else 32768 - (s.kln.segs.filter (fun e => e.1 / 32768 == k && e.2.st.isSome)).length

/-- R134: a hub half has a FREE segment or room in an open one. -/
def State.halfRoom (s : State) (half : Nat) : Bool := (s.halfStacks half).any (fun k => 0 < s.freeSegs k)

/-- The segment that takes a page's next record, with its stack (R109, R131). None when no stack has room. -/
def State.recordPlace (s : State) (p : Page) (bytes : Nat) : Option (Nat × Nat × State) :=
  let ks := (s.halfStacks (p.stack / 4)).filter (fun k => (s.openSeg k bytes .open).1.isSome)
  match ks[Config.kilnPick s.freeCtr % max 1 ks.length]? with
  | none => none
  | some k =>
    match s.openSeg k bytes .open with
    | (none, _) => none
    | (some g, s1) => some (k, g, s1)

/-- A segment takes so many bytes, live or, for the journal, not. -/
def State.fillSeg (s : State) (g bytes live : Nat) : State :=
  let e := s.kln.segs.get g {}
  { s with kln := { s.kln with segs := s.kln.segs.set g { e with used := e.used + bytes, live := e.live + live } } }

/-- Writes the record of a page: its place, its bytes (R109, R131, R132, R136). None when no stack has room. -/
def State.writeRecord (s : State) (pid : Nat) (p : Page) : Option (Record × State) :=
  let bs := pageBlocks s pid p
  let u := recordUnits bs
  (s.recordPlace p (u * 64)).map fun (k, g, s1) =>
    let s2 := (s1.fillSeg g (u * 64) (u * 64))
    let s3 := { s2 with
      freeCtr := s2.freeCtr + 1
      kln := { s2.kln with kilnings := s2.kln.kilnings.set (p.stack / 4) (s2.kln.kilnings.get (p.stack / 4) 0 + 1) } }
    ({ stack := k, seg := g, off := (s1.kln.segs.get g {}).used, units := u
       tables := ((bs.filter (fun b => b.mode == 1)).map (·.table)).eraseDups, image := recordImage s pid p bs }, s3.wrote (u * 64))

/-- R125: the write of a page's record failed: its segment takes no further record, so the next write goes to another. -/
def State.closeSeg (s : State) (pid : Nat) (p : Page) : State :=
  match s.recordPlace p (recordUnits (pageBlocks s pid p) * 64) with
  | some (_, g, s1) => { s1 with kln := { s1.kln with segs := s1.kln.segs.set g { s1.kln.segs.get g {} with st := some .full } } }
  | none => s

/-- Bytes on a chain after which a checkpoint is due, so that the journal after the latest stays under 1 GiB (R135). -/
def chainLimit : Nat := Config.gib - 2 * 4096

/-- Appends bytes to the journal chain of one kiln stack, in segments reserved for it (R135). They are read from a staging buffer in steep, at class 2 under the internal entry (R312, R316). -/
def State.chainWrite (s : State) (k bytes : Nat) : State :=
  let s := { s with freeCtr := s.freeCtr + 1 }.steepReq .device .internal 2 (Config.stagingStack s.freeCtr % 8) s.freeCtr (ceilDiv bytes 64) false
  (List.range (ceilDiv bytes 67108864)).foldl (fun t i =>
    let n := min 67108864 (bytes - 67108864 * i)
    match t.openSeg k n .journal with
    | (some g, t1) => (t1.fillSeg g n 0).wrote n
    | (none, t1) => t1.wrote n) s

/-- R373: the steward writes the data area of the retained SRAM anew: its start log, or where the latest checkpoint lies. -/
def State.writeArea (s : State) : State := { s with kln := { s.kln with area := some s.freeCtr }, freeCtr := s.freeCtr + 1 }

/-- R135: a checkpoint, of the device's own size: the journal before it is no longer needed, and its segments are erased. -/
def State.checkpoint (s : State) : State :=
  let (n, s1) := s.fresh
  let old := s1.kln.segs.filter (fun e => e.2.st == some .journal)
  let s2 := { s1 with kln := { s1.kln with
    journal := [], journalBytes := 0, checkpoints := s1.kln.checkpoints + 1
    segs := old.foldl (fun (m : Map Seg) (e : Nat × Seg) => m.set e.1 { st := none, erases := e.2.erases + 1 }) s1.kln.segs } }
  (s2.kln.chains.foldl (fun t k => t.chainWrite k (n % 67108864)) s2).writeArea

/-- R135: journals one record of so many bytes on the chains still present; a checkpoint comes first where the journal would reach 1 GiB. -/
def State.journalBytes (s : State) (e : ChainEntry) (n : Nat) : State :=
  let s0 := if chainLimit ≤ s.kln.journalBytes + n then s.checkpoint else s
  let s1 := { s0 with kln := { s0.kln with journalBytes := s0.kln.journalBytes + n, journal := s0.kln.journal ++ [(⟨e, n, true⟩ : ChainRec)] } }
  s1.kln.chains.foldl (fun t k => t.chainWrite k n) s1

/-- R434: journals a record of the device's own size. -/
def State.journalEntry (s : State) (e : ChainEntry) : State :=
  ({ s with freeCtr := s.freeCtr + 1 }).journalBytes e (Config.journalBytes s.freeCtr)

/-- R126, R181, R213: a write that waits for room to a page that ends is dropped, or aborted. -/
def State.refuseWrite (s : State) (w : WaitWrite) : State :=
  let s1 := { s with kln := { s.kln with pendWait := s.kln.pendWait.filter (· != w) } }.stall .moveLock (s.tim.clock - w.since)
  match w.peer with
  | some pbr => s1.emit (.peerAbort pbr)
  | none => { s1 with pool := { s1.pool with refusedCnt := inc32 s1.pool.refusedCnt } }.emit (.cxlDropped w.port)

/-- The write has a piece on the page. -/
def WaitWrite.on (w : WaitWrite) (pid : Nat) : Bool := w.pieces.any (fun p => p.1 == pid)

/-- R126: a move in progress is abandoned, queued ones go, and so do the lines that wait for the page. -/
def State.abandonPage (s : State) (pid : Nat) : State :=
  match s.pages.get? pid with
  | none => s
  | some p =>
    let st := match p.st with
      | .steeping => .kiln
      | .kilnEvict | .kilnKeep _ => .dirty
      | st => st
    let s1 := { s.setPage pid { p with st := st } with kln := { s.kln with
      moves := s.kln.moves.filter (fun m => m.page != pid)
      pend := s.kln.pend.filter (fun l => l.page != pid) } }
    (s1.kln.pendWait.filter (fun w => w.on pid)).foldl (fun t w => t.refuseWrite w) s1

/-- R126, R185: a scrub fills a page's frame with zeros at class 2, under the internal entry (R316). -/
def State.zeroFill (s : State) (pid : Nat) : State :=
  match s.pages.get? pid with
  | some p => if p.st.framed then s.pageReqs .device .internal 2 true [(pid, 1024)] else s
  | none => s

/-- R126: the page ends: its lines, moves, bytes, tags, record and pins go. -/
def State.freePage (s : State) (pid : Nat) : State :=
  match s.pages.get? pid with
  | none => s
  | some p =>
    let s1 := (s.abandonPage pid).killRecordOf p
    { s1 with
      pages := s1.pages.erase pid
      mem := s1.mem.clear (pageAddr pid 0) 65536
      tags := s1.tags.filter (fun t => t.1 / 16 != pid) }

/-! ### Results of operations -/

/-- Ends an operation with a result; its record is written by DESCRIPTOR_COMPLETE or MAILBOX_CALL_COMPLETE. -/
def State.finish (s : State) (o : Op) (r : Result) : State :=
  let s1 := s.endStall o.id
  s1.setOp { o with phase := .finished, waits := [], stalled := none, stallNs := ((s1.op? o.id).getD o).stallNs, res := { r with time := s.tim.time } }

def State.fail (s : State) (o : Op) (st : Status) : State := s.finish o { status := st }

def State.failAt (s : State) (o : Op) (st : Status) (at' : Nat) : State := s.finish o { status := st, dw23 := at' }

/-- Runs a meaning on an operation entry that is running. -/
def State.onOp (s : State) (id : Nat) (k : Op → State) : State :=
  match s.op? id with
  | some o => if o.phase = .running then k o else s
  | none => s

/-- The first condition of a check order that holds gives the status. -/
def firstOf (cs : List (Bool × Status)) : Option Status := (cs.find? (·.1)).map (·.2)

end Sys2Proof.Machine
end

