-- ==== Sys2Proof/Machine/Steep.lean ====
section
/-! DEFINITION. The regulation arbiter (10_regulation_and_steep_controllers.md R316, R320, R323 to R325): effective minima and the entries that follow the markings. -/

namespace Sys2Proof.Machine

/-- QOS_RESV_TOTAL. -/
def Qos.total (q : Qos) : Nat := q.fastSum + Config.internalMin + q.rest

/-- R323. -/
def Qos.thermal (q : Qos) : Nat := if q.hot then 907 else 1024

/-- R324: effective minima from EFF_CREDITS. -/
def Qos.minima (q : Qos) (eff : Nat) : Qos :=
  let avail := eff - Config.internalMin
  let r0 := q.fastSum
  let rest := q.rest
  let fastEff := if r0 ≤ avail then Config.fastMin else Config.fastMin * avail / r0
  let share := fun m => if r0 ≤ avail then (if rest ≤ avail - r0 then m else m * (avail - r0) / rest) else 0
  { q with
    eff := eff
    fast := q.fast.map (fun (e : Nat × FastEntry) => (e.1, { e.2 with eff := fastEff }))
    resvEff := q.valid.map (fun (e : Nat × Word) => (e.1, share (resvMin e.2))) }

/-- R325: the derate state that EFF_CREDITS gives. -/
def Qos.derateOf (q : Qos) (eff : Nat) : Derate :=
  let avail := eff - Config.internalMin
  if avail < q.fastSum then .cut else if avail - q.fastSum < q.rest then .scale else .none

/-- Bit of QOS_EVENT for a derate state that is entered (R325). -/
def derateBit : Derate → Nat
  | .scale => 0
  | .cut => 1
  | .none => 2

/-- R323 to R325: recomputes EFF_CREDITS and every effective minimum, with the event of a change of derate state; credits that have come free are granted (R317). -/
def State.recompute (s : State) : State :=
  let eff := min s.qos.thermal s.qos.gov
  let d := s.qos.derateOf eff
  let q := { s.qos.minima eff with derate := d }
  if d = s.qos.derate then { s with qos := q }.grantAll
  else
    let b := derateBit d
    ({ s with qos := { q with event := q.event ||| BitVec.ofNat 3 (2 ^ b) } }.raise 0x0021 unitDevice 0 [2 ^ b, eff]).grantAll

/-- R65, R70, R316: the fast entries are those of the slots whose marking is in effect; a new one takes the lowest free number. -/
def State.syncFast (s : State) : State :=
  let want := (s.slots.filter (fun e => e.2.fast)).map (·.1)
  let kept := s.qos.fast.filter (fun e => want.contains e.2.slot)
  let new := want.filter (fun n => !(kept.any (fun e => e.2.slot == n)))
  let fast := new.foldl (fun (m : Map FastEntry) (n : Nat) => Map.set m (((List.range 6).find? (fun k => (Map.get? m k).isNone)).getD 6) (⟨n, Config.fastMin⟩ : FastEntry)) kept
  if fast = s.qos.fast then s
  else if s.qos.takeover then { s with qos := { s.qos with held := s.qos.held ++ [.marks] } }
  else ({ s with qos := { s.qos with fast := fast } }).recompute

/-- R320 check 4: the minima of every valid entry, markings that wait for a SEQ boundary included. -/
def State.minimaSum (s : State) : Nat :=
  (s.slots.filter (fun e => e.2.mark.isSome)).length * Config.fastMin + Config.internalMin + s.qos.rest

end Sys2Proof.Machine
end

