-- ==== Sys2Proof/Machine/Operands.lean ====
section
/-! DEFINITION. Operand forms: host addresses through the HDM decoders (R175, R289), ranges of extents and versions page by page, reads and writes of them under R123 to R130, and reads of partner memory by DMA (R220, R295 to R299). -/

namespace Sys2Proof.Machine

/-! ### Addresses -/

/-- R289: the DPA of a host physical address; a decoder's DPA base is the sum of the lower committed sizes. -/
def decodeHpa (hdm : Map Decoder) (a : Nat) : Option Nat :=
  let live := hdm.filter (fun d => d.2.committed)
  let base := fun i => ((live.filter (fun d => decide (d.1 < i))).map (fun d => d.2.size)).sum
  (live.find? (fun d => decide (d.2.base ≤ a) && decide (a < d.2.base + d.2.size))).map
    (fun d => base d.1 + (a - d.2.base))

/-- The record holds address space that its host has accepted (R180). -/
def Ext.accepted (e : Ext) : Bool := e.st != .offered

def Ext.holds (e : Ext) (dpa : Nat) : Bool :=
  decide (e.dpa ≤ dpa) && decide (dpa < e.dpa + e.granules * Config.granuleBytes)

/-- R175: the extent of a partner at a DPA: record, fields, byte offset. -/
def State.extentAt (s : State) (partner dpa : Nat) : Option (Nat × Ext × Nat) :=
  (s.pool.recs.find? (fun e => e.2.partner == partner && e.2.accepted && e.2.holds dpa)).map
    (fun e => (e.1, e.2, dpa - e.2.dpa))

/-- R175: the extent of a partner at a host physical address. -/
def State.locate (s : State) (partner a : Nat) : Option (Nat × Ext × Nat) :=
  (decodeHpa (s.port (s.part partner).port).hdm a).bind (s.extentAt partner)

/-- R292: the extent, of any partner that a function carries, at a DPA of that function. -/
def State.extentOn (s : State) (port dpa : Nat) : Option (Nat × Ext × Nat) :=
  (s.pool.recs.find? (fun e => (s.part e.2.partner).port == port && e.2.accepted && e.2.holds dpa)).map
    (fun e => (e.1, e.2, dpa - e.2.dpa))

/-- R181: why a descriptor may not use a record. -/
def Ext.refusal (e : Ext) : Option Status :=
  match e.st with
  | .active => none
  | .offered => some .access
  | .draining | .scrubbing => some (match e.cause with
    | .lease => .leaseExpired
    | .withdrawn => .extentDraining)

/-- R181, R182: why an operation may not use a record; one that had started when the record entered DRAINING goes on. -/
def Ext.refuses (e : Ext) (o : Op) (record : Nat) : Option Status := if o.begun || o.accepted.contains record then none else e.refusal

/-- R167: a write to the record's extent is refused: it is a view, or a view's blob lies in it. -/
def State.viewGuard (s : State) (record : Nat) : Bool :=
  match s.pool.recs.get? record with
  | none => false
  | some e => e.view.isSome || s.pool.recs.any (fun v => match v.2.view with
      | some w => w.blobRecord == record || (match s.pool.recs.get? w.blobRecord with
        | some b => b.group == e.group
        | none => false)
      | none => false)

/-- A range of an extent as a span. -/
def extSpan (record : Nat) (e : Ext) (off len : Nat) : Span :=
  { back := .group e.group, off := off, len := len, tenant := e.tenant, record := some record }

/-- A range of a version as a span. -/
def State.verSpan (s : State) (v off len : Nat) : Span :=
  match s.vers.get? v with
  | some w => { back := .ver v, off := off, len := len, tenant := (s.casks.get w.cask ⟨0, 0, 0, []⟩).tenant, seq := w.seq }
  | none => { back := .ver v, off := off, len := len, tenant := 0 }

/-! ### Pages of a span -/

/-- The pages that a range touches: page index, offset in the page, bytes. -/
def chunks (off len : Nat) : List (Nat × Nat × Nat) :=
  if len = 0 then []
  else (List.range ((off + len - 1) / 65536 - off / 65536 + 1)).map fun i =>
    let p := off / 65536 + i
    let lo := max off (p * 65536)
    let hi := min (off + len) ((p + 1) * 65536)
    (p, lo - p * 65536, hi - lo)

/-- The page that backs index i; none while it is ZERO and never pinned (R107, R125). -/
def State.pageAt (s : State) (b : Backing) (i : Nat) : Option Nat :=
  match b with
  | .group g => (s.pool.groups.get? g).bind (fun q => q.pages.get? i)
  | .ver v => (s.vers.get? v).bind (fun w => w.pages.get? i)

def State.spanPages (s : State) (sp : Span) : List Nat := (chunks sp.off sp.len).filterMap (fun c => s.pageAt sp.back c.1)

/-- Bytes at an offset, with the part of a line that covers them laid over. -/
def overlay (off : Nat) (bs : List Byte) (l : PendLine) : List Byte :=
  bs.zipIdx.map (fun b => if l.off ≤ off + b.2 ∧ off + b.2 < l.off + l.data.length then l.data.getD (off + b.2 - l.off) 0 else b.1)

/-- Bytes of a page as a reader finds them: the frame's or the record's, with the written lines that wait for it (R124, R189). -/
def State.pageBytes (s : State) (pid off len : Nat) : List Byte :=
  let bs := s.mem.slice (pageAddr pid off) len
  if s.lined pid then (s.kln.pend.filter (fun l => l.page == pid)).foldl (overlay off) bs else bs

/-- The bytes of a span. -/
def State.spanBytes (s : State) (sp : Span) : List Byte :=
  (chunks sp.off sp.len).flatMap fun c =>
    match s.pageAt sp.back c.1 with
    | some pid => s.pageBytes pid c.2.1 c.2.2
    | none => List.replicate c.2.2 0

/-- R195: another live version maps the page, so this one may not change it. -/
def State.shared (s : State) (v pid : Nat) : Bool :=
  s.vers.any (fun w => w.1 != v && w.2.pages.any (fun p => p.2 == pid))

/-- First page of the level-3 region of R40. -/
def l3Page : Nat := 0x0FFC0000

/-- R433: the stack of page i of a version; the level-3 region of a version that a slot writes is the exception. -/
def verStack (shape : Option Shape) (i : Nat) : Nat :=
  match shape with
  | some h => if l3Page ≤ i then (i - l3Page) / 16 % max 1 h.kvh % 8 else i % 8
  | none => i % 8

/-- R433: the stack of page i of a backing. -/
def State.stackOf (s : State) (b : Backing) (i : Nat) : Nat :=
  match b with
  | .group g => (i + ((s.pool.groups.get? g).map (·.creator)).getD 0) % 8
  | .ver v => verStack ((s.vers.get? v).bind (·.slotShape)) i

/-! ### Capacity (R177) -/

/-- GEO_POOL_GIB (R412). -/
def State.poolGib (s : State) : Nat :=
  match s.geo.rebuildGib with
  | some g => g
  | none => ((List.range 16).filter s.kilnPresent).length * 1792 - 256

/-- Bytes reserved by extents of kind memory and used by cask pages. -/
def State.poolUsed (s : State) : Nat :=
  ((s.pool.groups.filter (fun g => g.2.memory)).map (fun g => g.2.granules * Config.granuleBytes)).sum
    + (s.pages.filter (fun p => match p.2.owner with
      | .version _ _ _ _ => true
      | .extent _ _ => false)).length * 65536

def State.poolFree (s : State) : Nat := s.poolGib * Config.gib - s.poolUsed

/-! ### Own pages and writes -/

/-- R123, R124: the lines that wait for a page go into the copy of it as well, with their tags (R169). -/
def State.layLines (s : State) (old pid : Nat) : State :=
  (s.kln.pend.filter (fun l => l.page == old)).foldl (fun t l =>
    let g := t.tag pid (l.off / 4096)
    { t with mem := t.mem.write (pageAddr pid l.off) l.data }.retag t pid l.off l.data.length g.version g.tenant) s

/-- The page that a write of a backing's index i goes to: the page itself, a new ZERO page, or the copy of R123. `seen`: pages that the writer has touched (R110). -/
def State.ownPage (s : State) (b : Backing) (i : Nat) (seen : List Nat := []) : Option (Nat × State) :=
  match b with
  | .group g =>
    match s.pool.groups.get? g with
    | none => none
    | some q =>
      match q.pages.get? i with
      | some pid => some (pid, s)
      | none =>
        let (pid, s1) := s.newPage { owner := .extent g i, tenant := q.tenant, stack := (i + q.creator) % 8, ctr := q.zeroCtr.get i 0 }
        some (pid, { s1 with pool := { s1.pool with groups := s1.pool.groups.set g { q with pages := q.pages.set i pid, zeroCtr := q.zeroCtr.erase i } } })
  | .ver v =>
    match s.vers.get? v with
    | none => none
    | some w =>
      let c := s.casks.get w.cask ⟨0, 0, 0, []⟩
      let owner := PageOwner.version c.tenant c.id w.seq i
      let put := fun (t : State) pid => { t with vers := t.vers.set v { w with pages := w.pages.set i pid, zeroCtr := w.zeroCtr.erase i } }
      match w.pages.get? i with
      | none =>
        let (pid, s1) := s.newPage { owner := owner, tenant := c.tenant, stack := verStack w.slotShape i, ctr := w.zeroCtr.get i 0 }
        some (pid, put s1 pid)
      | some old =>
        if s.shared v old then
          match s.pages.get? old with
          | none => none
          | some p =>
            let (pid, s1) := s.newPage {
              owner := owner, tenant := c.tenant, stack := p.stack, st := .dirty, frame := s.freeFrame p.stack, copying := true, copyFrom := some old, copyFrame := p.frame }
            let s2 := { s1 with
              mem := s1.mem.move (pageAddr old 0) (pageAddr pid 0) 65536
              tags := (List.range 16).foldl (fun m t => match s1.tags.get? (old * 16 + t) with
                | some g => m.set (pid * 16 + t) g
                | none => m) s1.tags }
            some (pid, put ((s2.layLines old pid).touchRead old (!seen.contains old)) pid)
        else some (old, s)

/-- New pages that a write of a span would take (R177): none for an extent. -/
def State.newPages (s : State) (sp : Span) : Nat :=
  match sp.back with
  | .group _ => 0
  | .ver v => ((chunks sp.off sp.len).filter (fun c => match s.pageAt sp.back c.1 with
      | some pid => s.shared v pid
      | none => true)).length

/-- The write's pages fit in the pool (R177). -/
def State.roomFor (s : State) (sp : Span) : Bool := decide (s.newPages sp * 65536 ≤ s.poolFree)

/-- The 64-byte lines of some bytes at an offset: offset and bytes of each. -/
def lines (off : Nat) (bs : List Byte) : List (Nat × List Byte) :=
  (chunksOf off bs.length).map (fun c => (c.1, (bs.drop (c.1 - off)).take c.2))
where
  chunksOf (off len : Nat) : List (Nat × Nat) :=
    if len = 0 then []
    else (List.range ((off + len - 1) / 64 - off / 64 + 1)).map fun i =>
      let l := off / 64 + i
      let lo := max off (l * 64)
      (lo, min (off + len) ((l + 1) * 64) - lo)

/-- Lines of a hub half's pending-write table in use (R124). -/
def State.pendUsed (s : State) (half : Nat) : Nat :=
  (((s.kln.pend.filter (fun l => l.half == half)).map (fun l => (l.page, l.off / 64))).eraseDups).length

/-- Holds written lines for a page without a frame (R124). -/
def State.hold (s : State) (pid off : Nat) (bs : List Byte) (record : Option Nat) : State :=
  let half := ((s.pages.get? pid).map (fun p => p.stack / 4)).getD 0
  let ls := (lines off bs).map (fun l => (⟨half, pid, l.1, l.2, record⟩ : PendLine))
  { s with kln := { s.kln with pend := s.kln.pend ++ ls } }

/-- Lines that a piece of a page spans. -/
def lineCount (off len : Nat) : Nat := ceilDiv (off % 64 + len) 64

/-- A page that takes bytes now: it has a frame, or it is ZERO and a frame is free (R125). -/
def State.takesNow (s : State) (pid : Nat) (p : Page) : Bool :=
  p.st.framed || (p.st == .zero && !s.lined pid && decide (0 < s.framesFree p.stack))

/-- Writes bytes into one page: into its frame, or through the pending-write table with a demand (R124, R125). `pid` is already the writer's own; `fresh`: the writer has not touched it yet (R110). -/
def State.writePage (s : State) (pid off : Nat) (bs : List Byte) (sp : Span) (cls : Nat) (fresh : Bool := true) : State :=
  match s.pages.get? pid with
  | none => s
  | some p =>
    if s.takesNow pid p then s.pokePage pid off bs sp.seq sp.tenant fresh
    else
      let s1 := if fresh then s.count pid else s
      (s1.hold pid off bs sp.record).demand pid .demand cls

/-- Writes a span's bytes page by page. A page that cannot be had keeps its contents: the callers check room first. -/
def State.writeSpan (s : State) (sp : Span) (bs : List Byte) (cls : Nat) (seen : List Nat := []) : State :=
  (chunks sp.off sp.len).foldl (fun t c =>
    match t.ownPage sp.back c.1 seen with
    | none => t
    | some (pid, t1) =>
      t1.writePage pid c.2.1 ((bs.drop (c.1 * 65536 + c.2.1 - sp.off)).take c.2.2) sp cls (!seen.contains pid)) s

/-- The pieces of a span that a write copies first (R123). -/
def State.spanCopies (s : State) (sp : Span) : List (Nat × Nat × Nat) :=
  (chunks sp.off sp.len).filter fun c => match sp.back, s.pageAt sp.back c.1 with
    | .ver v, some pid => s.shared v pid
    | _, _ => false

/-- Frames that the copies of a write need on a stack. -/
def State.copiesOn (s : State) (sp : Span) (k : Nat) : Nat := ((s.spanCopies sp).filter (fun c => s.stackOf sp.back c.1 == k)).length

/-- Pieces of a span on a stack whose lines wait in the pending-write table: pages in kiln, and ZERO pages past the free frames (R124, R125). -/
def State.tableChunks (s : State) (sp : Span) (k : Nat) : List (Nat × Nat × Nat) :=
  let mine := (chunks sp.off sp.len).filter (fun c => s.stackOf sp.back c.1 == k)
  let st := fun (c : Nat × Nat × Nat) => match (s.pageAt sp.back c.1).bind s.pages.get? with
    | some p => p.st
    | none => PageState.zero
  let copied := s.spanCopies sp
  let away := mine.filter (fun c => !copied.contains c && !(st c).framed && st c != .zero)
  let zero := mine.filter (fun c => !copied.contains c && st c == .zero)
  away ++ zero.drop (s.framesFree k - s.copiesOn sp k)

/-- R112, R123: stacks on which a write's copies find too few free frames, one for each copy. -/
def State.framesWanted (s : State) (sp : Span) : List Nat :=
  (List.range 8).flatMap (fun k => if s.framesFree k < s.copiesOn sp k then List.replicate (s.copiesOn sp k) k else [])

/-- R124: every line of the span that has no frame finds room in its hub half's pending-write table. -/
def State.pendRoom (s : State) (sp : Span) : Bool :=
  (List.range 2).all fun half =>
    let ls := ((List.range 4).flatMap (fun i => s.tableChunks sp (4 * half + i))).map (fun c => lineCount c.2.1 c.2.2)
    ls.isEmpty || decide (s.pendUsed half + ls.sum ≤ Config.pendLines)

/-- The write need not wait: its lines find room (R124), and its copies find frames (R123). -/
def State.spanRoom (s : State) (sp : Span) : Bool := s.pendRoom sp && (s.framesWanted sp).isEmpty

/-- Page and lines of each piece of a span that has a frame: what its steep requests ask for (R313). -/
def State.spanAsks (s : State) (sp : Span) : List (Nat × Nat) :=
  (chunks sp.off sp.len).filterMap fun c => (s.pageAt sp.back c.1).bind fun pid =>
    match s.pages.get? pid with
    | some p => if p.st.framed then some (pid, lineCount c.2.1 c.2.2) else none
    | none => none

/-- Page and lines of each piece of a span. -/
def State.spanNeeds (s : State) (sp : Span) : List (Nat × Nat) :=
  (chunks sp.off sp.len).filterMap fun c => (s.pageAt sp.back c.1).map (fun pid => (pid, lineCount c.2.1 c.2.2))

/-- n free bytes (log 2). -/
def State.freeBytes (s : State) (n : Nat) : List Byte × State :=
  ((List.range n).map (fun i => Config.freeByte (s.freeCtr + i)), { s with freeCtr := s.freeCtr + n })

/-- A range whose contents the manual leaves unspecified takes free bytes. -/
def State.scramble (s : State) (sp : Span) : State :=
  let (bs, s1) := s.freeBytes sp.len
  s1.writeSpan sp bs 7

/-- Fails an operation during its run: its target range is unspecified (R166, R183, R209, R234, R235). -/
def State.failRun (s : State) (o : Op) (st : Status) (at' : Nat) : State :=
  let s1 := match o.target with
    | some sp => s.scramble sp
    | none => s
  s1.failAt { o with target := none } st at'

/-- The operation's checks have passed, and it waits. -/
def State.setBegun (s : State) (id : Nat) : State := { s with ops := s.ops.map (fun (o : Op) => if o.id = id then { o with begun := true } else o) }

/-! ### Waiting for pages (R125, R127, R128) -/

/-- R127: why a page that is in kiln cannot be had at all: its record has failed. -/
def State.recordTrouble (s : State) (pid : Nat) : Option Status :=
  match s.pages.get? pid with
  | none => none
  | some p => if p.st = .kiln then s.recordStatus p else none

/-- R127, R171 step 1: why a page cannot be read: its record has failed, or its frame is uncorrectable. -/
def State.trouble (s : State) (pid : Nat) : Option Status :=
  match s.pages.get? pid with
  | none => none
  | some p => if p.st.framed && p.frameBad then some .media else s.recordTrouble pid

/-- Why the operation cannot have a page: a fetch for it failed, or the record is marked failed (R127). -/
def State.troubleOf (s : State) (o : Op) (pid : Nat) : Option Status :=
  match o.bad.get? pid with
  | some st => some st
  | none => s.trouble pid

/-- The page's bytes are at hand for the operation. -/
def State.ready (s : State) (o : Op) (pid : Nat) : Bool :=
  o.served.contains pid || (match s.pages.get? pid with
    | some p => s.atHand pid p
    | none => true)

/-- R110, R125, R313: an operation reads pages at hand: counts each that it has not yet touched, and asks for the lines of each framed page that it has not yet asked for. -/
def State.touchAll (s : State) (o : Op) (asks : List (Nat × Nat)) : State × Op :=
  let pids := (asks.map (·.1)).eraseDups
  let new := asks.filter (fun a => !o.asked.contains a.1 && (match s.pages.get? a.1 with
    | some p => p.st.framed
    | none => false))
  let o1 := { o with
    touched := o.touched ++ pids.filter (fun p => !o.touched.contains p)
    asked := o.asked ++ (new.map (·.1)).eraseDups }
  let s1 := (pids.foldl (fun t p => t.touchRead p (!o.touched.contains p)) s).setOp o1
  let (m, cls) := s.opMaster o
  let s2 := s1.pageReqs (.op o.id) m cls false new
  (s2, (s2.op? o.id).getD o1)

/-- One page that an operation waits for. -/
def State.waitFor (s : State) (id cls pid : Nat) : State :=
  match s.pages.get? pid, s.op? id with
  | some p, some o =>
    let kiln := p.st = .kiln ∨ p.st = .steeping
    let seen := o.touched.contains pid
    let o1 := { o with
      waits := o.waits ++ [pid]
      touched := if seen then o.touched else o.touched ++ [pid]
      kilnTouched := o.kilnTouched || decide kiln
      kilnPages := o.kilnPages + b2n (decide kiln) }
    let s1 := (s.setOp o1).stallOp id (if kiln then .kiln else .moveLock)
    (if seen then s1 else s1.count pid).demand pid .demand cls
  | _, _ => s

/-- R330: the steep reads of a fast slot's call are held in a refresh gap. -/
def State.gapHolds (s : State) (o : Op) (asks : List (Nat × Nat)) : Bool :=
  s.stp.inGap && asks.any (fun a => a.2 != 0 && !o.asked.contains a.1) && (match (s.opMaster o).1 with
    | .fast _ => true
    | _ => false)

/-- Runs `k` when every page can be read; else fails at the first that never can, or demands those that are missing and waits. `asks`: each page and how many of its lines the operation reads; `bad` says how the failure of a page is reported. -/
def State.await (s : State) (o : Op) (cls : Nat) (asks : List (Nat × Nat)) (bad : Nat → Status → State) (k : State → Op → State) : State :=
  let pids := asks.map (·.1)
  match pids.find? (fun p => (s.troubleOf o p).isSome) with
  | some p => bad p ((s.troubleOf o p).getD .media)
  | none =>
    let missing := (pids.filter (fun p => !s.ready o p)).eraseDups
    if missing.isEmpty then
      let t := s.endStall o.id
      let o1 := { o with stalled := none, stallNs := ((t.op? o.id).getD o).stallNs }
      if t.gapHolds o1 asks then (t.setOp { o1 with begun := true }).stallOp o.id .refresh
      else
        let (s1, o2) := t.touchAll o1 asks
        k s1 o2
    else
      let s1 := s.setOp { o with begun := true, waits := o.waits.filter missing.contains }
      (missing.filter (fun p => !o.waits.contains p)).foldl (fun t p => t.waitFor o.id cls p) s1

/-- R172, R343: a tile fails what a mover checks of it: CRC, TENANT, VERSION. -/
def State.tileWrong (s : State) (sp : Span) (pid tile : Nat) : Bool :=
  let g := s.tag pid tile
  g.crc != s.tileCrc pid tile || g.tenant != sp.tenant || decide (sp.seq < g.version)

/-- R343: a tile of the range carries another tenant's tag. -/
def State.foreignTag (s : State) (pid off len tenant : Nat) : Bool := (tilesOf off len).any (fun i => (s.tag pid i).tenant != tenant)

/-- R343: a tile of the span carries another tenant's tag. -/
def State.spanForeign (s : State) (sp : Span) : Bool :=
  (chunks sp.off sp.len).any (fun c => match s.pageAt sp.back c.1 with
    | some pid => s.foreignTag pid c.2.1 c.2.2 sp.tenant
    | none => false)

/-- The first tile of a piece of a range that fails, as the offset in the range of the first line it spoils. -/
def State.pieceWrong (s : State) (sp : Span) (c : Nat × Nat × Nat) : Option Nat :=
  (s.pageAt sp.back c.1).bind fun pid =>
    ((tilesOf c.2.1 c.2.2).find? (s.tileWrong sp pid)).map (fun i => (c.1 * 65536 + 4096 * i - sp.off) / 64 * 64)

/-- The first tile of a range that fails. -/
def State.spanWrong (s : State) (sp : Span) : Option Nat := (chunks sp.off sp.len).findSome? (s.pieceWrong sp)

/-- R235: offset of the first line of the range that lies on a page. -/
def State.lineOf (s : State) (sp : Span) (pid : Nat) : Nat :=
  match (chunks sp.off sp.len).find? (fun c => s.pageAt sp.back c.1 == some pid) with
  | some c => (c.1 * 65536 + c.2.1 - sp.off) / 64 * 64
  | none => 0

/-- The lowest line of a range that cannot be read, and why (R171, R235): only pages at hand have their tiles checked. -/
def State.spanTrouble (s : State) (o : Op) (sp : Span) : Option (Nat × Status) :=
  (chunks sp.off sp.len).findSome? fun c =>
    (s.pageAt sp.back c.1).bind fun pid => match s.troubleOf o pid with
      | some st => some (s.lineOf sp pid, st)
      | none => if s.ready o pid then (s.pieceWrong sp c).map (fun n => (n, .integrity)) else none

/-- Adds 1 to the counter of a page that nothing has written (R125, row ZERO/Read). -/
def State.bumpZero (s : State) (b : Backing) (i : Nat) : State :=
  match b with
  | .group g => match s.pool.groups.get? g with
    | some q => { s with pool := { s.pool with groups := s.pool.groups.set g { q with zeroCtr := q.zeroCtr.set i (min 255 (q.zeroCtr.get i 0 + 1)) } } }
    | none => s
  | .ver v => match s.vers.get? v with
    | some w => { s with vers := s.vers.set v { w with zeroCtr := w.zeroCtr.set i (min 255 (w.zeroCtr.get i 0 + 1)) } }
    | none => s

/-- The pages of a span that nothing has written, by index. -/
def State.zeroPages (s : State) (sp : Span) : List Nat := ((chunks sp.off sp.len).filter (fun c => (s.pageAt sp.back c.1).isNone)).map (·.1)

/-- An operation reads the pages of a span that nothing has written: each counts once for it (R110, R125). -/
def State.touchZero (s : State) (o : Op) (sp : Span) : State × Op :=
  let new := (s.zeroPages sp).filter (fun i => !o.zeroSeen.contains (sp.back, i))
  if new.isEmpty then (s, o)
  else
    let o1 := { o with zeroSeen := o.zeroSeen ++ new.map (fun i => (sp.back, i)) }
    ((new.foldl (fun t i => t.bumpZero sp.back i) s).setOp o1, o1)

/-- Pages that a write of a span must wait for, with the lines it reads of each: the shared page it copies whole, its own page while a copy runs (R123), and a page whose record has failed (R127). -/
def State.writeDeps (s : State) (sp : Span) : List (Nat × Nat) :=
  ((s.spanPages sp).filter (fun pid => match sp.back, s.pages.get? pid with
    | .ver v, some p => s.shared v pid || p.copying || (s.recordTrouble pid).isSome
    | .group _, some p => p.copying || (s.recordTrouble pid).isSome
    | _, none => false)).map (fun pid => (pid, match sp.back with
      | .ver v => if s.shared v pid then 1024 else 0
      | .group _ => 0))

/-! ### DMA (R220, R295 to R299) -/

/-- R296: pieces of at most `limit` bytes that cross no 4 KiB boundary. -/
def splitReq (limit : Nat) : Nat → Nat → Nat → List (Nat × Nat)
  | 0, _, _ => []
  | fuel + 1, addr, len =>
    if len = 0 then []
    else
      let n := min len (min (max 1 limit) (4096 - addr % 4096))
      (addr, n) :: splitReq limit fuel (addr + n) (len - n)

/-- R295: the tags of a function. -/
def Port.tagRange (q : Port) : List Nat :=
  if q.tagBits = 14 then List.range 2048
  else if q.tagBits = 10 then (List.range 768).map (256 + ·)
  else List.range 256

/-- Tags of a function that requests hold. -/
def State.tagsUsed (s : State) (port : Nat) : List Nat :=
  s.ops.flatMap (fun o => (o.reads.filter (fun r => r.port == port && decide (r.got.length < r.len))).filterMap (·.tag))

/-- R276, R285: the function may issue requests. -/
def State.mayRequest (s : State) (port : Nat) : Bool :=
  let q := s.port port
  q.bme && !q.d3 && !q.flrBusy && q.width != 0

/-- Gives free tags to the requests that lack one, oldest operation first; each that still lacks one waits (R295). -/
def State.issueReads (s : State) (port : Nat) : State :=
  let step := fun (t : State) (o : Op) =>
    let (t1, rs) := o.reads.foldl (fun (a : State × List DmaRead) r =>
      if r.port = port ∧ r.tag.isNone ∧ r.got.length < r.len ∧ a.1.mayRequest port then
        let used := a.1.tagsUsed port ++ (a.2.filter (fun q => decide (q.got.length < q.len))).filterMap (·.tag)
        match (t.port port).tagRange.find? (fun g => !used.contains g && ((t.port port).retired.get? g).isNone) with
        | some g => (if r.ack then a.1 else (a.1.leaveL1 port).emit (.dmaRead port g r.addr r.len r.attr), a.2 ++ [{ r with tag := some g, issuedAt := a.1.tim.clock }])
        | none => (a.1, a.2 ++ [r])
      else (a.1, a.2 ++ [r])) (t, [])
    match t1.op? o.id with
    | some o1 =>
      let t2 := t1.setOp { o1 with reads := rs }
      if o1.waits.isEmpty ∧ rs.all (fun r => r.tag.isSome) then t2.endStall o.id else t2
    | none => t1
  s.ops.foldl step s

/-- Bytes that have arrived for an operand. -/
def Op.part (o : Op) (n : Nat) : List Byte := (o.reads.filter (fun r => r.part == n)).flatMap (·.got)

def Op.partDone (o : Op) (n : Nat) : Bool := (o.reads.filter (fun r => r.part == n)).all (fun r => decide (r.len ≤ r.got.length))

/-- The lowest failing read of an operand: its offset from the operand's first byte, and why (R220). -/
def Op.partBad (o : Op) (n addr : Nat) : Option (Nat × Status) :=
  (o.reads.filter (fun r => r.part == n)).findSome? (fun r => r.bad.map (fun st => (r.addr - addr, st)))

/-- Runs `k` when the named operands (part, address, bytes) of partner memory have been answered; asks for those that were not asked for. With no right to issue, the operation ends HALTED (R276). -/
def State.needDma (s : State) (o : Op) (parts : List (Nat × Nat × Nat)) (k : State → Op → State) (member : Option Nat := none) : State :=
  let want := parts.filter (fun p => p.2.2 != 0 && !(o.reads.any (fun r => r.part == p.1)))
  if want.isEmpty then (if parts.all (fun p => o.partDone p.1) then k s o else s)
  else if !s.mayRequest o.port then s.failRun o .halted 0
  else
    let limit := (s.port o.port).mrrs
    let attr : ReqAttr := { cls := (s.opMaster o).2, relaxed := (s.port o.port).relaxed, member := member }
    let new := want.flatMap (fun p => (splitReq limit (p.2.2 + 1) p.2.1 p.2.2).map
      (fun q => ({ port := o.port, attr := attr, tag := none, addr := q.1, len := q.2, part := p.1 } : DmaRead)))
    let s1 := (s.setOp { o with begun := true, reads := o.reads ++ new }).issueReads o.port
    match s1.op? o.id with
    | some o1 => if o1.reads.any (fun r => r.tag.isNone) then s1.stallOp o.id .regulation else s1
    | none => s1

/-- Writes bytes to partner or member memory in requests of at most Max Payload Size (R296). -/
def State.dmaOut (s : State) (attr : ReqAttr) (port addr : Nat) (bs : List Byte) : State :=
  (splitReq (s.port port).mps (bs.length + 1) addr bs.length).foldl
    (fun t q => t.send port (.dmaWrite port q.1 ((bs.drop (q.1 - addr)).take q.2) attr)) s

/-- R298: a data write carries the Relaxed Ordering attribute when Enable Relaxed Ordering is set. -/
def State.dmaWrite (s : State) (cls port addr : Nat) (bs : List Byte) (member : Option Nat := none) : State :=
  s.dmaOut { cls := cls, relaxed := (s.port port).relaxed, member := member } port addr bs

end Sys2Proof.Machine
end

