-- ==== Sys2Proof/Machine/Layout.lean ====
section
/-! DEFINITION. Where a context's tiles, picots and elements lie (02_tiles_picots_numerics.md R30 to R40), the tile checks of R35 and R42, and the reads of tiles, keys, values and picots. -/

namespace Sys2Proof.Machine

/-- Bytes of a stored element of a KFMT or VFMT code (R30, R78). -/
def fmtSize (f : Nat) : Nat := if f = 4 then 2 else 1

def fmtScaled (f : Nat) : Bool := f == 2 || f == 3

def fmtElem (f : Nat) : Float.Fmt :=
  match f with
  | 0 | 2 => .e4m3
  | 1 | 3 => .e5m2
  | _ => .bf16

/-- FORMAT of a K or V tile (R34). -/
def tileFormat (f : Nat) : Nat := f + 1

/-- FORMAT of a picot tile, by KFMT (R34, R38). -/
def picotFormat (f : Nat) : Nat := if f = 0 then 0x11 else if f = 1 then 0x12 else 0x15

def picotElem (f : Nat) : Float.Fmt := if f = 0 then .e4m3 else if f = 1 then .e5m2 else .bf16

/-- HDIM code of a head dim (R33). -/
def hdCode (hd : Nat) : Nat := if hd = 64 then 0 else if hd = 128 then 1 else 2

/-- Positions per tile of a kind (R31). -/
def Shape.kPos (h : Shape) : Nat := 4096 / (h.hd * fmtSize h.kfmt)
def Shape.vPos (h : Shape) : Nat := 4096 / (h.hd * fmtSize h.vfmt)
def Shape.kTiles (h : Shape) : Nat := 64 / h.kPos
def Shape.vTiles (h : Shape) : Nat := 64 / h.vPos
/-- Blocks per page (R31). -/
def Shape.perPage (h : Shape) : Nat := 16 / (h.kTiles + h.vTiles)
/-- R39: bytes of a picot record, records per tile, tiles and pages of a parent's 64 records. -/
def Shape.recBytes (h : Shape) : Nat := 2 * h.hd * (picotElem h.kfmt).size
def Shape.perTile (h : Shape) : Nat := 4096 / h.recBytes
def Shape.parentTiles (h : Shape) : Nat := 64 / h.perTile
def Shape.parentsPerPage (h : Shape) : Nat := 16 / h.parentTiles

/-- A tile's place in a version: page number and tile in the page. -/
structure TilePos where
  page : Nat
  tile : Nat
  deriving DecidableEq, Repr

/-- R40: a page of the first three regions. -/
def regionPage (h : Shape) (base q layer head stack : Nat) : Nat := base / 65536 + ((q * h.layers + layer) * h.kvh + head) * 8 + stack

/-- R31, R37, R40: tile i of a block: its K tiles first, then its V tiles. -/
def blockTile (h : Shape) (layer head b i : Nat) : TilePos :=
  let n := h.perPage
  ⟨regionPage h 0 (b / 8 / n) layer head ((b + head) % 8), b / 8 % n * (h.kTiles + h.vTiles) + i⟩

/-- First byte of the level-1 and level-2 regions of R40. -/
def levelBase (level : Nat) : Nat := if level = 1 then 0x0F0000000000 else 0x0FF000000000

/-- R39, R40: tile t of the 64 records under a parent (superblock for level 1, hyperblock for level 2); for level 3, tile t of the list. -/
def picotTile (h : Shape) (level layer head parent t : Nat) : TilePos :=
  if level = 3 then ⟨l3Page + (layer * h.kvh + head) * 16 + t / 16, t % 16⟩
  else
    let n := h.parentsPerPage
    ⟨regionPage h (levelBase level) (parent / 8 / n) layer head ((parent + head) % 8), parent / 8 % n * h.parentTiles + t⟩

/-- First page past a region (R40). -/
def kvEnd : Nat := 0x0F0000000000 / 65536

/-- How many of the positions of a context of length len a tile starting at `first` with `cap` places holds. -/
def held (len first cap : Nat) : Nat := min cap (len - first)

/-- Numbers of blocks, superblocks and hyperblocks that hold positions (R36). -/
def nBlocks (len : Nat) : Nat := ceilDiv len 64
def nSuper (len : Nat) : Nat := ceilDiv len 4096
def nHyper (len : Nat) : Nat := ceilDiv len 262144

/-- What R35 requires of a tile. -/
structure TileWant where
  pos : TilePos
  format : Nat
  level : Nat
  kind : Nat
  valid : Nat
  scaled : Bool
  elem : Float.Fmt
  deriving DecidableEq, Repr

/-- The context that a call acts on. -/
structure Ctx where
  ver : Nat
  seq : Nat
  tenant : Nat
  shape : Shape
  layer : Nat
  len : Nat
  deriving DecidableEq, Repr

/-- A K tile (kind 0) or V tile (kind 1) of a block. -/
def Ctx.kvWant (c : Ctx) (head b kind i : Nat) : TileWant :=
  let h := c.shape
  let f := if kind = 0 then h.kfmt else h.vfmt
  let cap := if kind = 0 then h.kPos else h.vPos
  { pos := blockTile h c.layer head b (if kind = 0 then i else h.kTiles + i)
    format := tileFormat f, level := 0, kind := kind
    valid := held c.len (b * 64 + i * cap) cap, scaled := fmtScaled f, elem := fmtElem f }

/-- A picot tile. -/
def Ctx.picotWant (c : Ctx) (level head parent t : Nat) : TileWant :=
  let h := c.shape
  let n := if level = 1 then nBlocks c.len else if level = 2 then nSuper c.len else nHyper c.len
  let first := if level = 3 then t * h.perTile else parent * 64 + t * h.perTile
  { pos := picotTile h level c.layer head parent t
    format := picotFormat h.kfmt, level := level, kind := 0
    valid := held n first h.perTile, scaled := false, elem := picotElem h.kfmt }

/-- The tiles of a block that hold positions. -/
def Ctx.kvTiles (c : Ctx) (head b kind : Nat) : List TileWant :=
  let n := if kind = 0 then c.shape.kTiles else c.shape.vTiles
  ((List.range n).map (c.kvWant head b kind)).filter (fun w => w.valid != 0)

/-- The picot tiles under a parent that hold records. -/
def Ctx.picotTiles (c : Ctx) (level head parent : Nat) : List TileWant :=
  let n := if level = 3 then ceilDiv (nHyper c.len) c.shape.perTile else c.shape.parentTiles
  ((List.range n).map (c.picotWant level head parent)).filter (fun w => w.valid != 0)

/-- Elements of a byte list in a format. -/
def elems (f : Float.Fmt) (bs : List Byte) : List Nat :=
  let z := f.size
  (List.range (bs.length / z)).map (fun i => leNat ((bs.drop (i * z)).take z))

/-- The page of a version that backs a tile. -/
def State.tilePage (s : State) (v : Nat) (t : TilePos) : Option Nat := s.pageAt (.ver v) t.page

/-- A tile's payload; zeros where the version has no page. -/
def State.tileBytes (s : State) (v : Nat) (t : TilePos) : List Byte :=
  match s.tilePage v t with
  | some pid => s.pageBytes pid (4096 * t.tile) 4096
  | none => List.replicate 4096 0

def State.tileTag (s : State) (v : Nat) (t : TilePos) : Tag :=
  match s.tilePage v t with
  | some pid => s.tag pid t.tile
  | none => {}

/-- R42: no stored element is NaN or infinite. -/
def finiteElems (f : Float.Fmt) (bs : List Byte) : Bool :=
  (elems f bs).all (fun n => match Float.elem f n with
    | .fin _ => true
    | _ => false)

/-- R34, R35, R42, R44: the tile may be used. -/
def State.tileOk (s : State) (c : Ctx) (w : TileWant) : Bool :=
  match s.tilePage c.ver w.pos with
  | none => false
  | some pid =>
    let g := s.tag pid w.pos.tile
    let bs := s.tileBytes c.ver w.pos
    g.crc == Crc.crc32c bs && g.format == w.format && g.hdim == hdCode c.shape.hd && g.level == w.level
      && g.kind == w.kind && g.tenant == c.tenant && g.valid == w.valid && decide (g.version ≤ c.seq)
      && (if w.scaled then (Float.scaleExp g.scale).isSome else g.scale == 0) && finiteElems w.elem bs

/-- R45: expanded values of n elements at a byte offset of a tile. -/
def State.vecAt (s : State) (v : Nat) (t : TilePos) (f : Float.Fmt) (scaled : Bool) (off n : Nat) : List Float.F32 :=
  let e := if scaled then (Float.scaleExp (s.tileTag v t).scale).getD 0 else 0
  let bs := match s.tilePage v t with
    | some pid => s.pageBytes pid (4096 * t.tile + off) (n * f.size)
    | none => List.replicate (n * f.size) 0
  (elems f bs).map (fun x => (Float.expanded f e x).getD 0)

/-- The expanded key or value vector of a position (R30, R31, R45). -/
def State.kvVec (s : State) (c : Ctx) (head kind p : Nat) : List Float.F32 :=
  let h := c.shape
  let cap := if kind = 0 then h.kPos else h.vPos
  let f := if kind = 0 then h.kfmt else h.vfmt
  let w := c.kvWant head (p / 64) kind (p % 64 / cap)
  s.vecAt c.ver w.pos (fmtElem f) (fmtScaled f) (p % cap * h.hd * fmtSize f) h.hd

/-- The maximum and minimum elements of a picot (R38). -/
def State.picot (s : State) (c : Ctx) (level head unit : Nat) : List Float.F32 × List Float.F32 :=
  let h := c.shape
  let r := if level = 3 then unit else unit % 64
  let w := c.picotWant level head (unit / 64) (r / h.perTile)
  let xs := s.vecAt c.ver w.pos (picotElem h.kfmt) false (r % h.perTile * h.recBytes) (2 * h.hd)
  (xs.take h.hd, xs.drop h.hd)

/-! ### Writing tiles -/

/-- Writes bytes into a tile of the writer's own page and sets the fields of its tag; the CRC follows in `sealTiles`. `seen`: pages that the call has touched (R110). -/
def State.pokeTile (s : State) (c : Ctx) (w : TileWant) (off : Nat) (bs : List Byte) (scale : Option Nat) (seen : List Nat) : State :=
  match s.ownPage (.ver c.ver) w.pos.page seen with
  | none => s
  | some (pid, s1) =>
    let s2 := match s1.pages.get? pid with
      | some p => if p.st = PageState.zero then s1.setPage pid { p with st := .dirty, frame := s1.freeFrame p.stack } else s1
      | none => s1
    let old := s2.tag pid w.pos.tile
    let g : Tag := { old with
      format := w.format, level := w.level, kind := w.kind, hdim := hdCode c.shape.hd, valid := w.valid
      scale := scale.getD old.scale, tenant := c.tenant, version := c.seq }
    { s2 with
      mem := s2.mem.write (pageAddr pid (4096 * w.pos.tile + off)) bs
      tags := s2.tags.set (pid * 16 + w.pos.tile) g }

/-- Touches the pages of the tiles a call wrote (R110, R125). `seen`: pages that it has touched already. -/
def State.touchTiles (s : State) (v : Nat) (ts : List TilePos) (seen : List Nat) : State :=
  ((ts.filterMap (s.tilePage v)).eraseDups).foldl (fun t pid => t.touchWrite pid (!seen.contains pid)) s

/-- R90: the CRCs of the tiles a call wrote whole, from their contents. -/
def State.sealWhole (s : State) (v : Nat) (ts : List TilePos) (seen : List Nat) : State :=
  (ts.foldl (fun t p => match t.tilePage v p with
    | some pid => { t with tags := t.tags.set (pid * 16 + p.tile) { t.tag pid p.tile with crc := t.tileCrc pid p.tile } }
    | none => t) s).touchTiles v ts seen

/-- Renews the CRCs of the tiles a call wrote, from their contents before and after (R169 step 1), and touches their pages. -/
def State.sealTiles (s before : State) (v : Nat) (ts : List TilePos) (seen : List Nat) : State :=
  let s1 := ts.foldl (fun t p => match t.tilePage v p with
    | some pid =>
      let old := match before.tilePage v p with
        | some b => before.tileCrc b p.tile
        | none => zeroTileCrc
      let g := t.tag pid p.tile
      { t with tags := t.tags.set (pid * 16 + p.tile) { g with crc := g.crc ^^^ old ^^^ t.tileCrc pid p.tile } }
    | none => t) s
  s1.touchTiles v ts seen

end Sys2Proof.Machine
end

