-- ==== Sys2Proof/Machine/Attend.lean ====
section
/-! DEFINITION. Attention over a slot's context: queries (R48), bounds and scores (R50, R51), selection (R53, R54, R100, R101), outputs (R57 to R59), the bytes a call touches (R103), and the appending and rebuilding of positions and picots (R38, R41 to R44, R81, R82, R90). -/

namespace Sys2Proof.Machine

/-- Effective parameters of one call (R78). -/
structure CallParams where
  mode : Nat
  k : Nat
  nh : Nat
  ns : Nat
  nb : Nat
  deriving DecidableEq, Repr

/-- R78: an effective call parameter set; none when a value is UNSUPPORTED. -/
def callParams (h : Shape) (mode k nh ns nb : Nat) : Option CallParams :=
  let k' := if k = 0 then h.k else k
  let slotNb := if h.nb = 0 then k' else h.nb
  let nb' := if nb = 0 then slotNb else nb
  if 1024 < k ∨ 64 < nh ∨ 256 < ns ∨ 4096 < nb ∨ nb' < k' then none
  else some ⟨if mode = 3 then h.mode else mode, k', if nh = 0 then h.nh else nh, if ns = 0 then h.ns else ns, nb'⟩

/-! ### Queries and selection -/

/-- R48: a query head's elements, subnormals flushed; none when invalid. -/
def queryHead (bs : List Byte) : Option (List Float.F32) :=
  (elems .bf16 bs).mapM (fun n => match Float.elem .bf16 n with
    | .fin x => some (if Float.subnormal .bf16 n then BitVec.ofNat 32 (Float.signBit x.neg) else BitVec.ofNat 32 (n * 65536))
    | _ => none)

/-- All query heads in order (R84). -/
def queryHeads (h : Shape) (bs : List Byte) : List (Option (List Float.F32)) :=
  (List.range (h.kvh * h.group)).map (fun j => queryHead ((bs.drop (j * h.hd * 2)).take (h.hd * 2)))

/-- G(h): the valid query heads of a KV head (R50). -/
def groupOf (h : Shape) (qs : List (Option (List Float.F32))) (head : Nat) : List (List Float.F32) :=
  ((qs.drop (head * h.group)).take h.group).filterMap id

def maxOf (l : List Float.F32) : Float.F32 :=
  match l with
  | [] => Float.negMaxFinite
  | a :: t => t.foldl Float.max a

/-- R50: the score of a block. -/
def State.score (s : State) (c : Ctx) (head : Nat) (g : List (List Float.F32)) (b : Nat) : Float.F32 :=
  maxOf ((List.range (min 64 (c.len - b * 64))).flatMap fun i =>
    let k := s.kvVec c head 0 (b * 64 + i)
    g.map (fun q => Float.dot q k))

/-- R51: the bound of a picot. -/
def State.boundOf (s : State) (c : Ctx) (head level : Nat) (g : List (List Float.F32)) (unit : Nat) : Float.F32 :=
  let (mx, mn) := s.picot c level head unit
  maxOf (g.map (fun q => Float.bound q mx mn))

/-- R53: the first and past-the-last positions outside sink and window. -/
def Ctx.middle (c : Ctx) : Nat × Nat := (min c.shape.sink c.len, c.len - c.shape.window)

/-- R53: the candidate blocks, first and past the last. -/
def Ctx.candidates (c : Ctx) : Nat × Nat :=
  let (lo, hi) := c.middle
  if lo < hi then (lo / 64, (hi - 1) / 64 + 1) else (0, 0)

/-- Units of 64^n blocks, from `a`, that hold a candidate. -/
def Ctx.units (c : Ctx) (size : Nat) : List Nat :=
  let (lo, hi) := c.candidates
  if lo < hi then (List.range ((hi - 1) / size + 1 - lo / size)).map (lo / size + ·) else []

/-- A ranked list: number and value. -/
abbrev Ranked := List (Nat × Float.F32)

/-- R53: a before b. -/
def before (a b : Nat × Float.F32) : Bool :=
  decide (Float.key b.2 < Float.key a.2) || (a.2 == b.2 && decide (a.1 ≤ b.1))

def insertRanked (x : Nat × Float.F32) : Ranked → Ranked
  | [] => [x]
  | y :: ys => if before x y then x :: y :: ys else y :: insertRanked x ys

def rank (l : Ranked) : Ranked := l.foldr insertRanked []

/-- What a call has done for one KV head. -/
structure Sel where
  x3 : List Nat := []
  x2 : List Nat := []
  visited : Ranked := []
  deriving DecidableEq, Repr

/-- A frontier picot (R54): level, unit number, first block, bound. -/
structure Frontier where
  level : Nat
  unit : Nat
  first : Nat
  bound : Float.F32
  deriving DecidableEq, Repr

/-- R54: the frontier picots of a head. -/
def State.frontier (s : State) (c : Ctx) (head : Nat) (g : List (List Float.F32)) (x : Sel) : List Frontier :=
  let f := fun level size u => (⟨level, u, u * size, s.boundOf c head level g u⟩ : Frontier)
  let y := (c.units 4096).filter (fun u => !x.x3.contains u)
  let z := (c.units 64).filter (fun u => x.x3.contains (u / 64) && !x.x2.contains u)
  let b := (c.units 1).filter (fun u => x.x2.contains (u / 64) && !(x.visited.any (fun v => v.1 == u)))
  y.map (f 3 4096) ++ z.map (f 2 64) ++ b.map (f 1 1)

/-- R100: the frontier picot to work on: highest bound, then lowest first block, then highest level. -/
def worse (a b : Frontier) : Bool :=
  if a.bound = b.bound then
    (if a.first = b.first then decide (b.level < a.level) else decide (a.first < b.first))
  else decide (Float.key b.bound < Float.key a.bound)

def bestFrontier (l : List Frontier) : Option Frontier :=
  match l with
  | [] => none
  | a :: t => some (t.foldl (fun m f => if worse f m then f else m) a)

/-- R54: F, or −0x7F7F_FFFF with no frontier (R85). -/
def frontierBound (l : List Frontier) : Float.F32 := maxOf (l.map (·.bound))

/-- R53: the selected blocks. -/
def Sel.selected (x : Sel) (k : Nat) : Ranked := x.visited.take k

/-- R54. -/
def certified (x : Sel) (k : Nat) (l : List Frontier) : Bool :=
  l.isEmpty || (match (x.selected k)[k - 1]? with
    | some v => decide (Float.key (frontierBound l) < Float.key v.2)
    | none => false)

/-- R100, the loop of EXACT_TOPK. -/
def State.exact (s : State) (c : Ctx) (head : Nat) (g : List (List Float.F32)) (k : Nat) : Nat → Sel → Sel
  | 0, x => x
  | n + 1, x =>
    let l := s.frontier c head g x
    if certified x k l then x
    else
      match bestFrontier l with
      | none => x
      | some f =>
        let x' := if f.level = 3 then { x with x3 := x.x3 ++ [f.unit] }
          else if f.level = 2 then { x with x2 := x.x2 ++ [f.unit] }
          else { x with visited := insertRanked (f.unit, s.score c head g f.unit) x.visited }
        s.exact c head g k n x'

/-- Every page of some tiles counts as resident for a RESIDENT_ONLY call (R101). -/
def State.tilesResident (s : State) (c : Ctx) (away : List Nat) (ws : List TileWant) : Bool :=
  ws.all (fun w => match s.tilePage c.ver w.pos with
    | some pid => !away.contains pid
    | none => true)

/-- R100. `away` lists the pages sampled as not resident; it is read in RESIDENT_ONLY mode alone. -/
def State.select (s : State) (c : Ctx) (pr : CallParams) (away : List Nat) (head : Nat) (g : List (List Float.F32)) : Sel :=
  let ro := pr.mode == 2
  let ranked := fun level us => rank (us.map (fun u => (u, s.boundOf c head level g u)))
  let x3 := ((ranked 3 (c.units 4096)).take pr.nh).map (·.1)
  let c2 := (c.units 64).filter (fun u => x3.contains (u / 64) && (!ro || s.tilesResident c away (c.picotTiles 1 head u)))
  let x2 := ((ranked 2 c2).take pr.ns).map (·.1)
  let c1 := (c.units 1).filter (fun b => x2.contains (b / 64)
    && (!ro || s.tilesResident c away (c.kvTiles head b 0 ++ c.kvTiles head b 1)))
  let vis := ((ranked 1 c1).take pr.nb).map (fun b => (b.1, s.score c head g b.1))
  let x : Sel := ⟨x3, x2, rank vis⟩
  if pr.mode = 0 then s.exact c head g pr.k ((c.units 4096).length + (c.units 64).length + (c.units 1).length) x else x

/-! ### What a call reads -/

/-- The blocks that hold sink or window positions. -/
def Ctx.sinkBlocks (c : Ctx) : List Nat := List.range (ceilDiv (min c.shape.sink c.len) 64)
def Ctx.windowBlocks (c : Ctx) : List Nat :=
  let lo := (c.len - c.shape.window) / 64
  if c.len - c.shape.window < c.len then (List.range (nBlocks c.len - lo)).map (lo + ·) else []

/-- R58: the positions of P in one block. -/
def Ctx.positions (c : Ctx) (selected : List Nat) (b : Nat) : List Nat :=
  let (lo, hi) := c.middle
  ((List.range (min 64 (c.len - b * 64))).map (b * 64 + ·)).filter
    (fun p => selected.contains b || decide (p < lo) || decide (hi ≤ p))

/-- K and V tiles of a block that hold some of its positions. -/
def Ctx.tilesWith (c : Ctx) (head b : Nat) (ps : List Nat) : List TileWant :=
  (c.kvTiles head b 0).filter (fun w => ps.any (fun p => (c.kvWant head b 0 (p % 64 / c.shape.kPos)).pos == w.pos))
    ++ (c.kvTiles head b 1).filter (fun w => ps.any (fun p => (c.kvWant head b 1 (p % 64 / c.shape.vPos)).pos == w.pos))

/-- K and V tiles of a block with the sink or window positions it holds. -/
def Ctx.edgeTiles (c : Ctx) (head b : Nat) : List TileWant := c.tilesWith head b (c.positions [] b)

/-- The sink tiles of a head (R68). -/
def Ctx.sinkTiles (c : Ctx) (head : Nat) : List TileWant :=
  c.sinkBlocks.flatMap (fun b => c.tilesWith head b (((List.range 64).map (b * 64 + ·)).filter (fun p => decide (p < min c.shape.sink c.len))))

/-- R68: the slot's SRAM share holds the tile. -/
def Ctx.inSram (c : Ctx) (sl : Slot) (head : Nat) (w : TileWant) : Bool :=
  (w.level == 3 && decide (c.layer < sl.sramLayers)) || (sl.sramSink && (c.sinkTiles head).contains w)

/-- R102: what a call reads for one KV head in every mode. -/
def Ctx.baseTiles (c : Ctx) (head : Nat) (x3 : List Nat) : List TileWant :=
  (c.picotTiles 3 head 0 ++ x3.flatMap (c.picotTiles 2 head) ++ c.sinkBlocks.flatMap (c.edgeTiles head)
    ++ c.windowBlocks.flatMap (c.edgeTiles head)).eraseDups

/-- R102, R103: the tiles that a call uses for one KV head. -/
def Ctx.touched (c : Ctx) (k head : Nat) (x : Sel) : List TileWant :=
  (c.baseTiles head x.x3 ++ x.x2.flatMap (c.picotTiles 1 head)
    ++ x.visited.flatMap (fun v => c.kvTiles head v.1 0) ++ (x.selected k).flatMap (fun v => c.kvTiles head v.1 1)).eraseDups

/-- R103: the tiles of B for one KV head: those that it uses, but for what the SRAM share holds of its level-3 picots and of its sink and window positions. A K tile of a visited block and a V tile of a selected one counts wherever it is read. -/
def Ctx.counted (c : Ctx) (sl : Slot) (k head : Nat) (x : Sel) : List TileWant :=
  let walked := x.visited.flatMap (fun v => c.kvTiles head v.1 0) ++ (x.selected k).flatMap (fun v => c.kvTiles head v.1 1)
  (c.touched k head x).filter (fun w => !c.inSram sl head w || walked.contains w)

/-! ### Outputs -/

/-- R58 steps 1 to 4 for one query head. -/
def State.headPartial (s : State) (c : Ctx) (head : Nat) (q : List Float.F32) (selected : List Nat) : Option Float.Partial :=
  let blocks := ((c.sinkBlocks ++ c.windowBlocks ++ selected).eraseDups).mergeSort (fun a b => decide (a ≤ b))
  let unit := fun b => (c.positions selected b).foldl (fun acc p =>
    Float.merge acc (some ⟨Float.dot q (s.kvVec c head 0 p), Float.one, s.kvVec c head 1 p⟩)) none
  let die := fun n => (blocks.filter (fun b => (b + head) % 8 == n)).foldl (fun acc b => Float.merge acc (unit b)) none
  (List.range 8).foldl (fun acc n => Float.merge acc (die n)) none

/-- R59: a head's outputs and log-sum-exp. -/
def headOutput (h : Shape) (valid : Bool) (r : Option Float.Partial) : List Byte × Float.F32 :=
  let fmt := if h.outfmt = 0 then Float.Fmt.fp32 else .bf16
  let out := fun n => leBytes n fmt.size
  if !valid then ((List.range h.hd).flatMap (fun _ => out (Float.canonicalNan fmt)), 0x7FC00000)
  else
    match r with
    | none => (List.replicate (h.hd * fmt.size) 0, Float.negMaxFinite)
    | some p => (p.a.flatMap (fun a => out (Float.narrow fmt (Float.div a p.l))), Float.add p.m (Float.lnS p.l))

/-- The whole of an ATTEND's results (R59, R85, R97, R103). -/
structure AttendResult where
  outputs : List Byte
  lse : List Byte
  cert : Bool
  dw1 : Nat
  dw2 : Nat
  dw3 : Nat
  visited : Nat
  /-- Tiles that it uses, each checked under R35. -/
  tiles : List TileWant
  /-- Those that it reads from steep: all but what the SRAM share holds (R68). -/
  steep : List TileWant
  /-- Those that B counts (R103). -/
  counted : List TileWant
  deriving DecidableEq, Repr

/-- Runs an ATTEND on the contents of a context. -/
def State.attendAll (s : State) (c : Ctx) (sl : Slot) (pr : CallParams) (away : List Nat) (query : List Byte) : AttendResult :=
  let h := c.shape
  let qs := queryHeads h query
  let live := (List.range h.kvh).filter (fun hd => !(groupOf h qs hd).isEmpty)
  let sels : List (Nat × Sel × List Frontier) := live.map (fun hd =>
    let g := groupOf h qs hd
    let x := s.select c pr away hd g
    (hd, x, s.frontier c hd g x))
  let report := sels.map (fun e => (e.1, certified e.2.1 pr.k e.2.2, frontierBound e.2.2, e.2.1))
  let bad := report.filter (fun r => !r.2.1)
  let pool := if bad.isEmpty then report else bad
  let pick := pool.foldl (fun (a : Option (Nat × Bool × Float.F32 × Sel)) r => match a with
    | none => some r
    | some m => if Float.key m.2.2.1 < Float.key r.2.2.1 then some r else a) none
  let kth := fun (x : Sel) => match (x.selected pr.k)[pr.k - 1]? with
    | some v => v.2
    | none => Float.negMaxFinite
  let res := (List.range (h.kvh * h.group)).map fun j =>
    let hd := j / h.group
    match qs.getD j none with
    | none => headOutput h false none
    | some q =>
      let pickOf := fun (e : Nat × Sel × List Frontier) => (e.2.1.selected pr.k).map Prod.fst
      let mine := sels.find? (fun (e : Nat × Sel × List Frontier) => e.1 == hd)
      let sel : List Nat := (mine.map pickOf).getD []
      headOutput h true (s.headPartial c hd q sel)
  { outputs := res.flatMap (·.1)
    lse := res.flatMap (fun r => leBytes r.2.toNat 4)
    cert := bad.isEmpty
    dw1 := match pick with
      | some r => bad.length + r.1 * 65536
      | none => 0
    dw2 := match pick with
      | some r => r.2.2.1.toNat
      | none => 0
    dw3 := match pick with
      | some r => (kth r.2.2.2).toNat
      | none => 0
    visited := (sels.map (fun e => e.2.1.visited.length)).sum
    tiles := (sels.flatMap (fun e => c.touched pr.k e.1 e.2.1)).eraseDups
    steep := (sels.flatMap (fun e => (c.touched pr.k e.1 e.2.1).filter (fun w => !c.inSram sl e.1 w))).eraseDups
    counted := (sels.flatMap (fun e => c.counted sl pr.k e.1 e.2.1)).eraseDups }

/-- R101, R102: the tiles that a call reads in every mode, of every head with a non-empty group, but for those in SRAM. -/
def State.attendBase (s : State) (c : Ctx) (sl : Slot) (pr : CallParams) (query : List Byte) : List TileWant :=
  let qs := queryHeads c.shape query
  ((List.range c.shape.kvh).flatMap fun hd =>
    let g := groupOf c.shape qs hd
    if g.isEmpty then [] else (c.baseTiles hd (s.select c pr [] hd g).x3).filter (fun w => !c.inSram sl hd w)).eraseDups

/-- B of R103, in bytes. -/
def AttendResult.bytes (r : AttendResult) : Nat := r.counted.length * 4096

/-- R104, R106: the envelope of a fast call, in units of 10 ps: 0.30 µs + B ÷ 3.6 TB/s + 0.41 µs. -/
def envelope (b : Nat) : Nat := 71000 + ceilDiv (b * 100) 3600

/-- The pages of some tiles. -/
def State.tilePages (s : State) (v : Nat) (ws : List TileWant) : List Nat := (ws.filterMap (fun w => s.tilePage v w.pos)).eraseDups

/-- The pages of some tiles, with the lines of the tiles on each (R313). -/
def State.tileAsks (s : State) (v : Nat) (ws : List TileWant) : List (Nat × Nat) :=
  let pids := ws.filterMap (fun w => s.tilePage v w.pos)
  pids.eraseDups.map (fun p => (p, 64 * pids.count p))

/-- R35, R91 row 13: some tile on a page that can be read fails its check. -/
def State.tilesBad (s : State) (c : Ctx) (ws : List TileWant) : Bool :=
  ws.any (fun w => (match s.tilePage c.ver w.pos with
    | some pid => (s.trouble pid).isNone
    | none => true) && !s.tileOk c w)

/-! ### Append -/

/-- Source of an APPEND: bytes of one layer's sections, of the scales (R81). -/
structure Source where
  bf16 : Bool
  data : List Byte
  scales : List Byte
  deriving DecidableEq, Repr

/-- Element bytes of a kind in the source. -/
def Source.size (src : Source) (fmt : Nat) : Nat := if src.bf16 then 2 else fmtSize fmt

/-- R81: bytes of the sections of n layers with count positions. -/
def sectionBytes (h : Shape) (bf16 : Bool) (count : Nat) : Nat :=
  let z := fun f => if bf16 then 2 else fmtSize f
  count * h.kvh * h.hd * (z h.kfmt + z h.vfmt)

def scaleBytes (h : Shape) (layers : Nat) : Nat :=
  if fmtScaled h.kfmt || fmtScaled h.vfmt then 4 * h.kvh * layers else 0

/-- The source elements of one position and head. `li` counts layers from the first. -/
def Source.row (src : Source) (h : Shape) (count li head kind p : Nat) : List Nat :=
  let zk := src.size h.kfmt
  let zv := src.size h.vfmt
  let z := if kind = 0 then zk else zv
  let layer := count * h.kvh * h.hd * (zk + zv)
  let first := li * layer + (if kind = 0 then 0 else count * h.kvh * h.hd * zk)
  let off := first + (p * h.kvh + head) * h.hd * z
  let f := if src.bf16 then Float.Fmt.bf16 else fmtElem (if kind = 0 then h.kfmt else h.vfmt)
  elems f ((src.data.drop off).take (h.hd * z))

/-- The scale the source gives a kind of a layer and head. -/
def Source.scale (src : Source) (h : Shape) (li head kind : Nat) : Nat :=
  let f := if kind = 0 then h.kfmt else h.vfmt
  if fmtScaled f then leNat ((src.scales.drop ((li * h.kvh + head) * 4 + 2 * kind)).take 2) else 0

/-- R44: every scale is legal, and equal to that of a tile already started. -/
def State.scalesOk (s : State) (c : Ctx) (src : Source) (li : Nat) : Bool :=
  (List.range c.shape.kvh).all fun head => [0, 1].all fun kind =>
    let f := if kind = 0 then c.shape.kfmt else c.shape.vfmt
    let cap := if kind = 0 then c.shape.kPos else c.shape.vPos
    let sc := src.scale c.shape li head kind
    !fmtScaled f || ((Float.scaleExp sc).isSome && (c.len % cap == 0 ||
      (s.tileTag c.ver (c.kvWant head (c.len / 64) kind (c.len % 64 / cap)).pos).scale == sc))

/-- Bytes of stored elements. -/
def elemBytes (f : Float.Fmt) (ns : List Nat) : List Byte := ns.flatMap (fun n => leBytes n f.size)

/-- The element of a picot for a stored key element (R38). -/
def picotOf (h : Shape) (scale n : Nat) : Nat :=
  if fmtScaled h.kfmt then
    Float.narrow .bf16 ((Float.expanded (fmtElem h.kfmt) ((Float.scaleExp scale).getD 0) n).getD 0)
  else n

/-- R38: the larger and the smaller of two picot elements. -/
def picotMax (f : Float.Fmt) (a b : Nat) : Nat :=
  if Float.key ((Float.expanded f 0 a).getD 0) < Float.key ((Float.expanded f 0 b).getD 0) then b else a
def picotMin (f : Float.Fmt) (a b : Nat) : Nat :=
  if Float.key ((Float.expanded f 0 b).getD 0) < Float.key ((Float.expanded f 0 a).getD 0) then b else a

/-- Adds one key to the picot of a level that covers position p (R38, R41). `c.len` is p + 1. -/
def State.addPicot (s : State) (c : Ctx) (head level p : Nat) (keys seen : List Nat) : State :=
  let h := c.shape
  let size := if level = 1 then 64 else if level = 2 then 4096 else 262144
  let unit := p / size
  let r := if level = 3 then unit else unit % 64
  let w := c.picotWant level head (if level = 3 then 0 else unit / 64) (r / h.perTile)
  let f := picotElem h.kfmt
  let off := r % h.perTile * h.recBytes
  let old := elems f ((s.tileBytes c.ver w.pos).drop off |>.take h.recBytes)
  let new := if p % size = 0 then keys ++ keys
    else List.zipWith (picotMax f) (old.take h.hd) keys ++ List.zipWith (picotMin f) (old.drop h.hd) keys
  s.pokeTile c w off (elemBytes f new) none seen

/-- R43: the elements that a kind of a position and head stores, each with whether it was replaced or saturated. -/
def Source.stored (src : Source) (h : Shape) (count li head kind i : Nat) : List (Nat × Bool) :=
  let f := fmtElem (if kind = 0 then h.kfmt else h.vfmt)
  (src.row h count li head kind i).map
    (Float.store f (if src.bf16 then Float.Fmt.bf16 else f) ((Float.scaleExp (src.scale h li head kind)).getD 0))

/-- Stores one position of one head. Answers how many elements were replaced or saturated. -/
def State.addPosition (s : State) (c : Ctx) (src : Source) (count li head i : Nat) (seen : List Nat) : Nat × State :=
  let h := c.shape
  let p := c.len - 1
  let kind := fun (t : State) (kd : Nat) =>
    let f := if kd = 0 then h.kfmt else h.vfmt
    let cap := if kd = 0 then h.kPos else h.vPos
    let st := src.stored h count li head kd i
    let w := c.kvWant head (p / 64) kd (p % 64 / cap)
    let ns := st.map (·.1)
    ((st.filter (·.2)).length, ns, t.pokeTile c w (p % cap * h.hd * fmtSize f) (elemBytes (fmtElem f) ns) (some (src.scale h li head kd)) seen)
  let (n0, ks, s1) := kind s 0
  let (n1, _, s2) := kind s1 1
  let keys := ks.map (picotOf h (src.scale h li head 0))
  (n0 + n1, [1, 2, 3].foldl (fun t l => t.addPicot c head l p keys seen) s2)

/-- A run of bytes in a tile: tile, first byte, how many. -/
structure TileRun where
  pos : TilePos
  off : Nat
  len : Nat
  deriving DecidableEq, Repr

/-- What an append of position p of a head writes: its row of a K and a V tile, and the record of each level's picot. -/
def Ctx.runsAt (c : Ctx) (head p : Nat) : List TileRun :=
  let h := c.shape
  let pic := fun level size =>
    let u := p / size
    let r := if level = 3 then u else u % 64
    (⟨(c.picotWant level head (if level = 3 then 0 else u / 64) (r / h.perTile)).pos, r % h.perTile * h.recBytes, h.recBytes⟩ : TileRun)
  let row := fun kind cap f =>
    (⟨(c.kvWant head (p / 64) kind (p % 64 / cap)).pos, p % cap * h.hd * fmtSize f, h.hd * fmtSize f⟩ : TileRun)
  [row 0 h.kPos h.kfmt, row 1 h.vPos h.vfmt, pic 1 64, pic 2 4096, pic 3 262144]

/-- The tiles of a context that lie at position p of a head, picots included. -/
def Ctx.tilesAt (c : Ctx) (head p : Nat) : List TilePos := (c.runsAt head p).map (·.pos)

/-- What an append of count positions to a layer writes. -/
def Ctx.appendRuns (c : Ctx) (count : Nat) : List TileRun :=
  (List.range c.shape.kvh).flatMap fun head => (List.range count).flatMap fun i => c.runsAt head (c.len + i)

/-- Place of a run's first byte in the version (R40). -/
def TileRun.place (r : TileRun) : Nat := r.pos.page * 65536 + r.pos.tile * 4096 + r.off

/-- R401: the bytes of some runs of a version, in address order, each once. -/
def State.runBytes (s : State) (v : Nat) (rs : List TileRun) : List Byte :=
  ((rs.eraseDups).mergeSort (fun a b => decide (a.place ≤ b.place))).flatMap (fun r => ((s.tileBytes v r.pos).drop r.off).take r.len)

/-- The tiles that an append of count positions to a layer writes. -/
def Ctx.appendTiles (c : Ctx) (count : Nat) : List TilePos :=
  ((List.range c.shape.kvh).flatMap fun head => (List.range count).flatMap fun i => c.tilesAt head (c.len + i)).eraseDups

/-- The tiles already started that an append reads and checks (R35): tail tiles and the picots it continues. -/
def Ctx.appendReads (c : Ctx) : List TileWant :=
  let h := c.shape
  (List.range h.kvh).flatMap fun head =>
    let p := c.len
    let pic := fun level size =>
      let u := p / size
      c.picotWant level head (if level = 3 then 0 else u / 64) ((if level = 3 then u else u % 64) / h.perTile)
    let kv := [c.kvWant head (p / 64) 0 (p % 64 / h.kPos), c.kvWant head (p / 64) 1 (p % 64 / h.vPos)]
    (kv ++ [pic 1 64, pic 2 4096, pic 3 262144]).filter (fun w => w.valid != 0)

/-- Pages and lines that an append writes: a position's row of each K and V tile, and a record of each picot tile (R313). -/
def State.appendAsks (s : State) (c : Ctx) (count : Nat) : List (Nat × Nat) :=
  let all := (c.appendRuns count).filterMap (fun r => (s.tilePage c.ver r.pos).map (fun p => (p, ceilDiv r.len 64)))
  ((all.map (·.1)).eraseDups).map (fun p => (p, min 1024 (((all.filter (fun a => a.1 == p)).map (·.2)).sum)))

/-- Appends count positions to one layer. -/
def State.appendLayer (s : State) (c : Ctx) (src : Source) (count li : Nat) (seen : List Nat) : Nat × State :=
  let (n, s1) := (List.range count).foldl (fun (a : Nat × State) i =>
    (List.range c.shape.kvh).foldl (fun (a : Nat × State) head =>
      let (k, t) := a.2.addPosition { c with len := c.len + i + 1 } src count li head i seen
      (a.1 + k, t)) a) (0, s)
  (n, s1.sealTiles s c.ver (c.appendTiles count).eraseDups seen)

/-! ### Rebuild -/

/-- Recomputes the picot record of one unit from the K tiles (R41, R90). -/
def State.rebuildUnit (s : State) (c : Ctx) (head level unit : Nat) (seen : List Nat) : State :=
  let h := c.shape
  let size := if level = 1 then 64 else if level = 2 then 4096 else 262144
  let ps := (List.range (min size (c.len - unit * size))).map (unit * size + ·)
  let key := fun p =>
    let w := c.kvWant head (p / 64) 0 (p % 64 / h.kPos)
    let sc := (s.tileTag c.ver w.pos).scale
    (elems (fmtElem h.kfmt) (((s.tileBytes c.ver w.pos).drop (p % h.kPos * h.hd * fmtSize h.kfmt)).take (h.hd * fmtSize h.kfmt))).map
      (picotOf h sc)
  let f := picotElem h.kfmt
  let fold := fun op => match ps with
    | [] => []
    | p :: t => t.foldl (fun a q => List.zipWith op a (key q)) (key p)
  let r := if level = 3 then unit else unit % 64
  let w := c.picotWant level head (if level = 3 then 0 else unit / 64) (r / h.perTile)
  s.pokeTile c w (r % h.perTile * h.recBytes) (elemBytes f (fold (picotMax f) ++ fold (picotMin f))) none seen

/-- The picot tiles of a layer, as parents and tiles. -/
def Ctx.allPicots (c : Ctx) : List TileWant :=
  (List.range c.shape.kvh).flatMap fun head =>
    (List.range (nSuper c.len)).flatMap (c.picotTiles 1 head) ++ (List.range (nHyper c.len)).flatMap (c.picotTiles 2 head)
      ++ (if c.len = 0 then [] else c.picotTiles 3 head 0)

def Ctx.allKeys (c : Ctx) : List TileWant :=
  (List.range c.shape.kvh).flatMap fun head => (List.range (nBlocks c.len)).flatMap (fun b => c.kvTiles head b 0)

/-- Rewrites every picot tile of a layer: the whole tile, whatever it held. -/
def State.rebuildLayer (s : State) (c : Ctx) (seen : List Nat) : State :=
  let s := c.allPicots.foldl (fun t w => t.pokeTile c w 0 (List.replicate 4096 0) (some 0) seen) s
  let s1 := (List.range c.shape.kvh).foldl (fun t head =>
    let t1 := (List.range (nBlocks c.len)).foldl (fun t b => t.rebuildUnit c head 1 b seen) t
    let t2 := (List.range (nSuper c.len)).foldl (fun t u => t.rebuildUnit c head 2 u seen) t1
    (List.range (nHyper c.len)).foldl (fun t y => t.rebuildUnit c head 3 y seen) t2) s
  s1.sealWhole c.ver (c.allPicots.map (·.pos)).eraseDups seen

/-! ### Regions -/

/-- Every page of the tiles lies inside its region (R40). -/
def inRegion (t : TilePos) : Bool :=
  decide (t.page < kvEnd) || (decide (levelBase 1 / 65536 ≤ t.page) && decide (t.page < levelBase 2 / 65536))
    || (decide (levelBase 2 / 65536 ≤ t.page) && decide (t.page < l3Page)) || (decide (l3Page ≤ t.page) && decide (t.page < 268435456))

/-- R40: an append to a layer needs no page past the end of the K and V region: the last block's page lies in it for every head. -/
def Ctx.appendFits (c : Ctx) (count : Nat) : Bool :=
  (List.range c.shape.kvh).all fun head => (List.range (min 8 count)).all fun i =>
    (blockTile c.shape c.layer head ((c.len + count - 1) / 64 - i) 0).page < kvEnd

end Sys2Proof.Machine
end

