-- ==== Sys2Proof/Machine/Geometry.lean ====
section
/-! DEFINITION. The geometry table (14_register_map.md R412), KLN_WEAR (R136), and the counters and CONFIG snapshots of the replay journal (13_time_faults_journal.md R395, R399). -/

namespace Sys2Proof.Machine

/-- A word whose bit n is set where `f n` holds. -/
def maskOf (n : Nat) (f : Nat → Bool) : Nat := ((List.range n).map (fun i => b2n (f i) * 2 ^ i)).sum

/-- Kiln stacks in service. -/
def State.kilnCount (s : State) : Nat := ((List.range 16).filter s.kilnPresent).length

/-- Clusters in service (R412). -/
def State.clusters (s : State) : Nat := if s.hasArray then 640 - (s.geo.clOff.map (·.2)).sum else 0

/-- The word of the geometry table at an offset (R412); a unit that the variant lacks reads 0 (R4). -/
def State.geoWord (s : State) (off : Nat) : Nat :=
  let a := fun (n : Nat) => if s.hasArray then n else 0
  match off with
  | 0x000 => 0x0001005C
  | 0x004 => s.geo.gen
  | 0x008 => 0x00000802
  | 0x00C => 0x006000FF
  | 0x010 => maskOf 16 s.kilnPresent * 65536 + 0x8000
  | 0x014 => s.kilnCount * 1792
  | 0x018 => s.poolGib
  | 0x01C => s.clusters * 65536 + a 0x200
  | 0x020 => a 0x1000044C
  | 0x024 => a 0x06000100
  | 0x028 => a 0x1040FFFC
  | 0x02C => maskOf 28 (fun p => !s.geo.pOffline.contains p)
  | 0x030 => 0x04001000
  | 0x034 => 0x00040000
  | 0x038 => 0x00100000
  | 0x03C => 0x040003FA
  | 0x040 => 0x40000C00
  | 0x044 => 0x00405000
  | 0x048 => 0x4C2C55F0
  | 0x04C => if s.hasArray then 0x3E80 else 0x07D0
  | 0x050 => 0x40
  | 0x054 => a ((List.range 8).map (fun b => s.geo.clOff.get b 0 * 16 ^ b)).sum
  | 0x058 => b2n s.geo.stewardH1 * 2 + b2n s.geo.arbiterH1
  | _ => 0

/-- The bytes that the table defines. -/
def State.geoBytes (s : State) : List Byte := wordBytes ((List.range 23).map (fun i => s.geoWord (4 * i)))

/-- KLN_WEAR (R136); shedding stage 2 keeps the last value (R393). -/
def State.klnWear (s : State) : Word :=
  match s.kln.published with
  | some p => p.1
  | none => w32 (wearUsed s.kln.writtenBytes + 65536 * b2n (decide (8000 ≤ wearUsed s.kln.writtenBytes))
      + 131072 * b2n (decide (10000 ≤ wearUsed s.kln.writtenBytes)))

/-- The counters of R395, in its order. -/
def State.counterList (s : State) : List Nat :=
  ((List.range 5).flatMap (fun c => [(s.kln.stalls.get c {}).ns, (s.kln.stalls.get c {}).cnt]))
    ++ [s.kln.poisonCnt, s.kln.dlpathCnt, s.grs.corruptCnt, s.grs.viewPoisonCnt, s.pool.refusedCnt, s.pool.peerUrCnt]
    ++ ((List.range 28).flatMap (fun p => [(s.port p).memMiss, (s.port p).ideRefuse]))
    ++ (s.parts.flatMap (fun p => [p.1] ++ (List.range 5).map (fun r => (p.2.ring r).badTail) ++ [p.2.norec, p.2.dbDrops, p.2.bobDrops]))
    ++ [s.pwr.parkedRefuse, s.tim.rejectCnt, s.jrn.lost]

/-- The counters as CONFIG records show them (R393). -/
def State.shownCounters (s : State) : List Nat :=
  match s.kln.published with
  | some p => p.2
  | none => s.counterList

/-- Shape and parameters of a slot, as numbers. -/
def shapeList (h : Shape) : List Nat :=
  [h.layers, h.kvh, h.group, h.hd, h.kfmt, h.vfmt, h.outfmt, h.sink, h.window, h.mode, h.k, h.nh, h.ns, h.nb]

/-- Body of a CONFIG record (R399): geometry table, FW_MAJOR, slot parameters, loaded-table CRCs, reservations, counters. The order of its parts is the model's (log 8). -/
def State.configBody (s : State) : List Byte :=
  s.geoBytes ++ leBytes s.rst.fw.1 4
    ++ wordBytes ((s.slots.filter (fun e => e.2.bound)).flatMap (fun e => e.1 :: shapeList e.2.shape))
    ++ wordBytes (s.grs.tables.flatMap (fun t => [t.tenant, t.slot, Crc.crc32c t.image]))
    ++ wordBytes (s.qos.resv.flatMap (fun e => [e.1, e.2.toNat]))
    ++ s.shownCounters.flatMap (fun n => leBytes n 8)

/-- R396, R399: records a CONFIG snapshot while recording is on. -/
def State.snapshot (s : State) : State := if s.recording then s.journal 0x04 s.configBody else s

end Sys2Proof.Machine
end

