-- ==== Sys2Proof/Machine/Mgmt.lean ====
section
/-! DEFINITION. How a management command is answered (R179, R336, R361, R393, R394, R436) and the outcome every meaning ends in. -/

namespace Sys2Proof.Machine

/-- The outcome of a command. -/
abbrev Res := Host.Outcome State Fault Refusal

/-- A Success reply. -/
def State.success (s : State) (payload : List Nat) : State := s.emit (.mgmt "Success" none payload)

/-- A refusal: Invalid Input with a status in the first payload byte (R179). -/
def State.refuse (s : State) (st : Status) : State := s.emit (.mgmt "Invalid Input" (some st) [])

/-- BUSY, with the retry-after of payload bytes 1 and 2 where the rule gives one (R361, R393, R394, R436). -/
def State.busy (s : State) (retry : List Nat) : State := s.emit (.mgmt "Invalid Input" (some .busy) retry)

/-- A reply without effect: Unsupported, Invalid Security State. -/
def State.answer (s : State) (code : String) (payload : List Nat) : State := s.emit (.mgmt code none payload)

/-- R336: the session is open and authenticated under the current owner anchor. -/
def State.authorised (s : State) (ses : Nat) : Bool :=
  match s.sec.sessions.get? ses, s.store.anchor with
  | some r, some a => r == a
  | _, _ => false

/-- What kind a management command is, for the rules that refuse some of them. -/
inductive MgmtKind where
  /-- FAULT_GET: answered in every stage of shedding (R393). -/
  | faultGet
  /-- FAULT_CLEAR and REG_READ: answered before READY too (R436). -/
  | early
  /-- A command that changes pool, tenancy or regulation state (R361). -/
  | poolState
  | other
  deriving DecidableEq, Repr

/-- R367, R436: the management endpoint answers: firmware runs, and no debug session holds it. -/
def State.endpointUp (s : State) : Bool :=
  match s.rst.stage with
  | .up => true
  | .recovery => true
  | .bringup n => decide (4 ≤ n)
  | _ => false

/-- R396: a management command that changed the state is recorded, with a CONFIG snapshot (SNAP_MS of JRN_CTL). Replies, latches and the free-value counter are no such change. -/
def State.recordCommand (s before : State) (opcode : Nat) (params : List Byte) : State :=
  if !s.recording then s
  else if { s with outs := before.outs, freeCtr := before.freeCtr, latches := before.latches } = before then s
  else (s.journal 0x07 (leBytes opcode 2 ++ params.take 64)).snapshot

/-- R353, R359: a command wakes the device, but for those that need no sleeping unit: FAULT_GET, FAULT_CLEAR, PHASE_SET, and the reads and writes of registers. -/
def State.awakenFor (s : State) (opcode : Nat) : State := if [0xC610, 0xC611, 0xC630, 0xC640, 0xC641].contains opcode then s else s.awaken

/-- R394: a steward takeover runs, and its 300 ms have not passed. -/
def State.takingOver (s : State) : Bool := s.stew.takeover && decide (s.tim.clock < s.stew.since + 300 * Config.msNs)

/-- Runs a management command: no answer before firmware runs, Invalid Security State outside an owner session, BUSY where R361, R393, R394 and R436 say so, else `k`; a command that changes the state is journaled (R396). -/
def State.mgmt (s : State) (ses : Nat) (kind : MgmtKind) (opcode : Nat) (params : List Byte) (k : State → State) : State :=
  if !s.endpointUp then s
  else if !s.authorised ses then s.answer "Invalid Security State" []
  else if s.takingOver then s.busy [300]
  else if s.rst.stage != .up ∧ kind ≠ .faultGet ∧ kind ≠ .early then
    let (n, s1) := s.fresh
    s1.busy [n]
  else if s.stew.shed = 3 ∧ kind ≠ .faultGet then
    let (n, s1) := s.fresh
    s1.busy [n]
  else if (s.pwr.state = .parked ∨ s.pwr.state = .leaving ∨ s.pwr.state = .entering) ∧ kind = .poolState then s.busy []
  else
    (k (s.awakenFor opcode)).recordCommand (s.awakenFor opcode) opcode params

end Sys2Proof.Machine
end

