-- ==== Sys2Proof/Machine/Ends.lean ====
section
/-! DEFINITION. How operations end before their own end: the pins that a PIN takes back (R119, R140), the sessions of the data port (07_movers_and_data_port.md R239 to R244), and those that wait on pages that end (R126). -/

namespace Sys2Proof.Machine

/-- Takes back the pins of a PIN (R119, R140). -/
def State.dropPins (s : State) (o : Op) : State :=
  if o.opcode ≠ 0x31 then s
  else
    o.pinned.foldl (fun t pid => match t.pages.get? pid with
      | some p => t.setPage pid { p with pins := p.pins - 1 }
      | none => t) s

def State.setSession (s : State) (partner : Nat) (q : Session) : State := s.setPart partner { s.part partner with dp := q }

/-- The lines that a partner's session left in the write-combining buffers. -/
def State.dropLines (s : State) (partner : Nat) : State :=
  { s with ports := s.ports.map (fun (p : Nat × Port) => (p.1, { p.2 with wcb := p.2.wcb.filter (fun l => l.1 != partner) })) }

/-- R239: bytes that a session has moved: those written or taken, or those read. -/
def Session.moved (q : Session) : Nat := if q.dir then q.pos else q.done

/-- R243: a window read that will have no data is answered with poison and counted (R129). -/
def State.poisonWindow (s : State) (partner : Nat) : State :=
  { s with kln := { s.kln with poisonCnt := inc32 s.kln.poisonCnt } }.emit (.windowPoison partner)

/-- R243: answers the waiting reads of a session whose data is ready; POS passes what they read. -/
def State.serveReads (s : State) (partner : Nat) (data : Nat → Nat → List Byte) : State :=
  let q := (s.part partner).dp
  let ready := q.waiting.filter (fun r => decide (r.off + r.len ≤ q.done))
  let s1 := if ready.isEmpty then s else s.setSession partner { q with
    pos := ready.foldl (fun p r => max p (r.off + r.len)) q.pos, waiting := q.waiting.filter (fun r => !ready.contains r), lastAccess := s.tim.clock }
  ready.foldl (fun t r => t.emit (.windowData partner (data r.off r.len))) s1

/-- Ends an active session (R240, R243, R244): its descriptor and a running consumer complete; unless DONE, the target is unspecified. Reads that still wait are answered with poison. -/
def State.endSession (s : State) (partner : Nat) (st : Status) (cause : Nat) : State :=
  let q := (s.part partner).dp
  if !q.active then s
  else
    let s0 := s.setSession partner { q with active := false, errCause := cause, buf := [], waiting := [] }
    let s1 := q.waiting.foldl (fun t _ => t.poisonWindow partner) s0
    let s2 := s1.dropLines partner
    let s3 := match s2.op? q.op with
      | some o =>
        let t := match o.target with
          | some sp => if st = Status.done then s2 else s2.scramble sp
          | none => s2
        t.finish { (t.op? q.op).getD o with target := none } { status := st, dw1 := q.moved }
      | none => s2
    match q.consumer.bind s3.op? with
    | some c => if st ≠ .done ∧ c.phase = .running then s3.failRun c .aborted 0 else s3
    | none => s3

/-- R126: an operation ends because what it works on does: a PIN takes its counts back, a session ends with its descriptor. -/
def State.endFor (s : State) (o : Op) (st : Status) : State :=
  if o.opcode = 0x31 then (s.dropPins o).fail o st
  else if o.opcode = 0x70 ∧ o.mailbox.isNone ∧ (s.part o.partner).dp.active ∧ (s.part o.partner).dp.op = o.id then s.endSession o.partner st 0
  else if o.isSlotCall then s.fail o st
  else s.failRun o st 0

/-- R126: operations that wait on freed pages end. -/
def State.failWaiters (s : State) (pids : List Nat) (st : Status) : State :=
  ((s.ops.filter (fun o => o.phase == .running && o.waits.any pids.contains)).map (·.id)).foldl
    (fun t id => match t.op? id with
      | some o => if o.phase = .running then t.endFor o st else t
      | none => t) s

end Sys2Proof.Machine
end

