-- ==== Sys2Proof/Machine/Views.lean ====
section
/-! DEFINITION. Decode tables and their references (05_grist.md R153 to R157), blocks of blobs (R162, R163, R171), grist views (R167), and the bytes of an operand wherever it lies: in device memory, in a view, in partner memory (R164, R219, R220). -/

namespace Sys2Proof.Machine

/-! ### Tables -/

def State.tableRec (s : State) (tenant slot : Nat) : Option TableRec := s.grs.tables.find? (fun t => t.tenant == tenant && t.slot == slot)

/-- The table may be named by a descriptor or a view binding (R154, R157). -/
def State.tableLoaded (s : State) (tenant slot : Nat) : Bool :=
  decide (slot < 12) || (match s.tableRec tenant slot with
    | some t => t.st == .loaded
    | none => false)

/-- The table decodes for whoever already holds it (R157). -/
def State.tableOf (s : State) (tenant slot : Nat) : Option Grist.Table :=
  if slot < 12 then some (Grist.romTable slot)
  else if slot < 16 then none
  else (s.tableRec tenant slot).map (fun t => Grist.imageTable t.image)

/-- R155: references held on a tenant's table: by descriptors, live records, views, kilnings that may still code with it, and steepings that decode with it. -/
def State.tableRefs (s : State) (tenant slot : Nat) : Nat :=
  (s.ops.filter (fun o => o.tables.contains (tenant, slot))).length
    + (s.pages.filter (fun p => p.2.tenant == tenant && (match p.2.record with
      | some r => r.tables.contains slot
      | none => false))).length
    + (s.pages.filter (fun p => p.2.tenant == tenant && !p.2.lockFree && p.2.st != .steeping && p.2.coding.contains slot)).length
    + (s.pages.filter (fun p => p.2.tenant == tenant && p.2.st == .steeping && (match p.2.record with
      | some r => r.tables.contains slot
      | none => false))).length
    + (s.pool.recs.filter (fun e => e.2.tenant == tenant && (match e.2.view with
      | some v => bitN v.mask slot
      | none => false))).length

/-- R156: RETIRING tables whose last reference is released are removed, each with a journal record. -/
def State.reapTables (s : State) : State :=
  let gone := s.grs.tables.filter (fun t => t.st == .retiring && s.tableRefs t.tenant t.slot == 0)
  gone.foldl (fun u t => { u with grs := { u.grs with tables := u.grs.tables.filter (· != t) } }.journalEntry (.table t.tenant t.slot)) s

/-- R155: an operation takes references on tables. -/
def State.holdTables (s : State) (o : Op) (tenant : Nat) (slots : List Nat) : State × Op :=
  let o1 := { o with tables := (slots.filter (16 ≤ ·)).map (fun t => (tenant, t)) }
  (s.setOp o1, o1)

/-- R157, R166 row 8: a table named is EMPTY, RETIRING or reserved, and the operation holds no reference. -/
def State.tablesMissing (s : State) (o : Op) (tenant : Nat) (slots : List Nat) : Bool :=
  slots.any (fun t => !s.tableLoaded tenant t && !o.tables.contains (tenant, t))

/-- R155, R168: the tables of a tenant that the coding of a page may use. -/
def State.codingTables (s : State) (pid : Nat) (p : Page) : List Nat :=
  ((List.range 16).filterMap (fun i => ((s.tenants.get? p.tenant).bind (fun t => t.prefs.get? (s.tag pid i).format)).map (·.1))).eraseDups.filter
    (fun n => decide (16 ≤ n) && s.tableLoaded p.tenant n)

/-! ### Blobs -/

/-- Reads n bytes at an offset of a blob. -/
abbrev Reader := Nat → Nat → List Byte

def indexEntry (rd : Reader) (i : Nat) : Nat := leNat (rd (64 + 4 * i) 4) * 16

/-- Where block i lies: start and end (R162). -/
def blockBounds (rd : Reader) (h : Grist.BlobHead) (i : Nat) : Nat × Nat :=
  (indexEntry rd i, if i + 1 = h.n then h.total else indexEntry rd (i + 1))

/-- R163, R145, R150, R171: the expanded block i, with whether it was raw. A block that ends past BLOB_BYTES fails as well, though R163 lists only the gaps of the index (DESIGN CHOICE, log 17). -/
def State.expandBlock (s : State) (rd : Reader) (h : Grist.BlobHead) (tenant i : Nat) : Status ⊕ (Bool × List Byte) :=
  let (a, b) := blockBounds rd h i
  -- no block takes more than 4,112 bytes, so a wider gap fails R163 whatever it holds
  if b ≤ a ∨ 4112 < b - a ∨ h.total < b then .inl .gristCorrupt
  else
    match Grist.parse (rd a (b - a)) with
    | none => .inl .gristCorrupt
    | some blk =>
      if b - a ≠ Grist.up16 (16 + blk.payload.length) ∨ (blk.mode = 1 ∧ !bitN h.mask blk.table) then .inl .gristCorrupt
      else if blk.mode = 0 then .inr (true, blk.payload)
      else
        match s.tableOf tenant blk.table with
        | none => .inl .tableMissing
        | some t => match Grist.decode blk t with
          | none => .inl .gristCorrupt
          | some bs => .inr (false, bs)

/-- Counts one block that failed R171 step 2 or 4. -/
def State.countCorrupt (s : State) (st : Status) : State :=
  if st = .gristCorrupt then { s with grs := { s.grs with corruptCnt := inc32 s.grs.corruptCnt } } else s

/-- The reader of a blob in device memory. -/
def State.spanReader (s : State) (sp : Span) : Reader := fun off len => s.spanBytes { sp with off := sp.off + off, len := len }

/-- A blob to be read: its bytes, why a range of it cannot be had, and whether a tile of a range fails its check. -/
structure BlobSource where
  read : Reader
  bad : Nat → Nat → Option Status
  wrong : Nat → Nat → Bool

/-- What block i uses: the header, its index entries, its bytes. -/
def blockParts (rd : Reader) (h : Grist.BlobHead) (i : Nat) : List (Nat × Nat) :=
  let (a, b) := blockBounds rd h i
  [(0, 64), (64 + 4 * i, if i + 1 = h.n then 4 else 8), (a, min 4112 (b - a))]

/-- R171 for one block of a blob, in its order: what cannot be had, the blob and the block, then the tile checks. -/
def State.blockOf (s : State) (b : BlobSource) (h : Grist.BlobHead) (tenant i : Nat) : Status ⊕ (Bool × List Byte) :=
  let parts := blockParts b.read h i
  match parts.findSome? (fun p => b.bad p.1 p.2) with
  | some st => .inl st
  | none =>
    if (Grist.blobHead (b.read 0 64)).isNone then .inl .gristCorrupt
    else match s.expandBlock b.read h tenant i with
      | .inl st => .inl st
      | .inr r => if parts.any (fun p => b.wrong p.1 p.2) then .inl .integrity else .inr r

/-- A blob in device memory; `bad` says which pages cannot be had, and why. -/
def State.spanSource (s : State) (bad : Nat → Option Status) (sp : Span) : BlobSource :=
  let part := fun (off len : Nat) => { sp with off := sp.off + off, len := len }
  ⟨s.spanReader sp, fun off len => (s.spanPages (part off len)).findSome? bad, fun off len => (s.spanWrong (part off len)).isSome⟩

/-- Pages and lines of some parts of a blob in device memory. -/
def State.partAsks (s : State) (sp : Span) (ps : List (Nat × Nat)) : List (Nat × Nat) :=
  (ps.flatMap (fun p => s.spanNeeds { sp with off := sp.off + p.1, len := p.2 })).eraseDups

/-- The lowest block that failed, and how (R171). -/
def lowestFailing {α : Type} (ex : List (Nat × (Status ⊕ α))) : Option (Nat × Status) :=
  ex.findSome? (fun b => match b.2 with
    | .inl st => some (b.1, st)
    | .inr _ => none)

/-- The blocks that did not fail. -/
def expanded {α : Type} (ex : List (Nat × (Status ⊕ α))) : List α :=
  ex.filterMap (fun b => match b.2 with
    | .inl _ => none
    | .inr a => some a)

/-! ### Grist views (R167) -/

/-- The blob of a view as a span of its extent. -/
def State.viewSpan (s : State) (v : View) : Option Span :=
  (s.pool.recs.get? v.blobRecord).map (fun e => extSpan v.blobRecord e v.blobOffset 0)

/-- The blob's header, as its binding found it. -/
def State.viewHead (s : State) (v : View) (sp : Span) : Grist.BlobHead := (Grist.blobHead (s.spanReader sp 0 64)).getD ⟨v.n, v.mask, 0⟩

/-- Blocks under [off, off + len) of a view. -/
def viewBlocks (v : View) (off len : Nat) : List Nat :=
  if len = 0 then []
  else ((List.range ((off + len - 1) / 4096 - off / 4096 + 1)).map (off / 4096 + ·)).filter (· < v.n)

/-- The view tile that a port's unit still holds (R167). -/
def State.viewCached (s : State) (port record block : Nat) : Option (List Byte) :=
  ((s.grs.cache.get port []).find? (fun t => t.record == record && t.block == block)).map (·.bytes)

/-- R167: a port's unit keeps its 64 most recently expanded view tiles. -/
def State.cacheTiles (s : State) (port record : Nat) (tiles : List (Nat × List Byte)) : State :=
  let old := s.grs.cache.get port []
  let new := tiles.foldl (fun c t => if c.any (fun x => x.record == record && x.block == t.1) then c else (⟨record, t.1, t.2⟩ : ViewTile) :: c) old
  { s with grs := { s.grs with cache := s.grs.cache.set port (new.take 64) } }

/-- Pages of the blob's extent, with their lines, that a read of some view bytes uses, but for the tiles that are `held`. -/
def State.viewAsks (s : State) (v : View) (off len : Nat) (held : Nat → Option (List Byte)) : List (Nat × Nat) :=
  match s.viewSpan v with
  | none => []
  | some sp => s.partAsks sp (((viewBlocks v off len).filter (fun i => (held i).isNone)).flatMap
      (blockParts (s.spanReader sp) (s.viewHead v sp)))

/-- The expanded blocks under some bytes of a view (R167, R171). -/
def State.viewTiles (s : State) (bad : Nat → Option Status) (held : Nat → Option (List Byte)) (e : Ext) (v : View) (off len : Nat) :
    List (Nat × (Status ⊕ List Byte)) :=
  (viewBlocks v off len).map fun i => (i, match held i, s.viewSpan v with
    | some bs, _ => .inr bs
    | none, none => .inl .gristCorrupt
    | none, some sp => match s.blockOf (s.spanSource bad sp) (s.viewHead v sp) e.tenant i with
      | .inl st => .inl st
      | .inr r => .inr r.2)

/-- Bytes of a view from its expanded blocks; those past 4,096 × N read 0. -/
def viewOf (ex : List (Nat × (Status ⊕ List Byte))) (off len : Nat) : List Byte :=
  (List.range len).map fun k => match ex.find? (fun b => b.1 == (off + k) / 4096) with
    | some (_, .inr bs) => bs.getD ((off + k) % 4096) 0
    | _ => 0

/-- A blob inside a grist view, from a view offset on. -/
def State.viewSource (s : State) (bad : Nat → Option Status) (e : Ext) (v : View) (base : Nat) : BlobSource :=
  let ex := fun (off len : Nat) => s.viewTiles bad (fun _ => none) e v (base + off) len
  ⟨fun off len => viewOf (ex off len) (base + off) len, fun off len => (lowestFailing (ex off len)).map (·.2), fun _ _ => false⟩

/-! ### Operands -/

/-- Where an operand lies. -/
inductive Place where
  | dev (sp : Span)
  | view (e : Ext) (v : View) (off len : Nat)
  | dma (addr len : Nat)
  deriving DecidableEq, Repr

/-- The place of a range that begins at an address, by what the address was found to be. -/
def placeAt (found : Option (Nat × Ext × Nat)) (addr len : Nat) : Place :=
  match found with
  | some (r, e, off) => match e.view with
    | some v => .view e v off len
    | none => .dev (extSpan r e off len)
  | none => .dma addr len

def Place.isDma : Place → Bool
  | .dma _ _ => true
  | _ => false

/-- The span of a target in device memory. -/
def Place.span : Place → Option Span
  | .dev sp => some sp
  | _ => none

/-- Runs `k` once every byte of an operand that can be had is at hand (R171, R220, R221). -/
def State.reach (s : State) (o : Op) (cls part : Nat) (p : Place) (k : State → Op → State) : State :=
  match p with
  | .dev sp => s.await o cls ((s.spanNeeds sp).filter (fun a => (s.troubleOf o a.1).isNone)) (fun _ _ => s) fun t o1 =>
      let (t1, o2) := t.touchZero o1 sp
      k t1 o2
  | .dma a n => s.needDma o [(part, a, n)] k
  | .view _ v off len => s.await o cls ((s.viewAsks v off len (fun _ => none)).filter (fun a => (s.troubleOf o a.1).isNone)) (fun _ _ => s) k

/-- The lowest 64-byte line of an operand that cannot be used, as its offset, and why (R171, R172, R220, R235). -/
def State.placeBad (s : State) (o : Op) (part : Nat) : Place → Option (Nat × Status)
  | .dev sp => s.spanTrouble o sp
  | .dma a _ => (o.partBad part a).map (fun b => (b.1 / 64 * 64, b.2))
  | .view e v off len => (lowestFailing (s.viewTiles (s.troubleOf o) (fun _ => none) e v off len)).map
      (fun b => ((max off (4096 * b.1) - off) / 64 * 64, b.2))

/-- The bytes of an operand that is at hand. -/
def State.placeBytes (s : State) (o : Op) (part : Nat) : Place → List Byte
  | .dev sp => s.spanBytes sp
  | .dma _ _ => o.part part
  | .view e v off len => viewOf (s.viewTiles (s.troubleOf o) (fun _ => none) e v off len) off len

/-- A failing block of a view is counted (R171). -/
def State.countPlace (s : State) (p : Place) (st : Status) : State :=
  match p with
  | .view _ _ _ _ => s.countCorrupt st
  | _ => s

/-- Runs `k` with the bytes of an operand (R220, R221); `bad` says how a failure is reported, with the offset of its lowest 64-byte line (R235). -/
def State.withPlace (s : State) (o : Op) (cls part : Nat) (p : Place) (bad : State → Op → Nat → Status → State) (k : State → Op → List Byte → State) : State :=
  s.reach o cls part p fun t o1 =>
    match t.placeBad o1 part p with
    | some (n, st) => bad (t.countPlace p st) o1 n st
    | none => k t o1 (t.placeBytes o1 part p)

/-- Runs `k` with the bytes of two operands; where both fail during the run, the lower line is reported, the first operand's on a tie (R235). -/
def State.withPlaces (s : State) (o : Op) (cls : Nat) (a b : Nat × Place) (bad : State → Op → Nat → Status → State)
    (k : State → Op → List Byte → List Byte → State) : State :=
  s.reach o cls a.1 a.2 fun t o1 => t.reach o1 cls b.1 b.2 fun u o2 =>
    match u.placeBad o2 a.1 a.2, u.placeBad o2 b.1 b.2 with
    | none, none => k u o2 (u.placeBytes o2 a.1 a.2) (u.placeBytes o2 b.1 b.2)
    | some (n, st), none => bad (u.countPlace a.2 st) o2 n st
    | none, some (m, st) => bad (u.countPlace b.2 st) o2 m st
    | some (n, sa), some (m, sb) => if m < n then bad (u.countPlace b.2 sb) o2 m sb else bad (u.countPlace a.2 sa) o2 n sa

/-- An address operand of a descriptor (R166 row 5, R235): in one extent of the partner, or partner memory. -/
def State.addrRange (s : State) (o : Op) (addr : Nat) (write : Bool) : Status ⊕ Option (Nat × Ext × Nat) :=
  match s.locate o.partner addr with
  | none => .inr none
  | some (r, e, off) => match e.refuses o r with
    | some st => .inl st
    | none => if write && !o.begun && s.viewGuard r then .inl .access else .inr (some (r, e, off))

/-- A range passes the end of its extent, or 2^64 (R267). -/
def pastEnd (at' : Option (Nat × Ext × Nat)) (addr len : Nat) : Bool :=
  match at' with
  | some (_, e, off) => decide (e.granules * Config.granuleBytes < off + len)
  | none => decide (2 ^ 64 < addr + len)

end Sys2Proof.Machine
end

