-- ==== Sys2Proof/Machine/Casks.lean ====
section
/-! DEFINITION. Casks, versions and handles (06_pool.md R193 to R205), durable commits (04_steep_and_kiln.md R134, R135) and the cask commands. -/

namespace Sys2Proof.Machine

/-! ### Names and versions -/

/-- R193, R197: the cask that an ID names for a tenant: its own, or one granted under an alias. -/
def State.findCask (s : State) (tenant id : Nat) : Option (Nat × Cask × Option CaskGrant) :=
  match s.casks.find? (fun c => c.2.tenant == tenant && c.2.id == id) with
  | some c => some (c.1, c.2, none)
  | none =>
    s.casks.findSome? (fun c =>
      (c.2.grants.find? (fun g => g.grantee == tenant && g.aliasId == id)).map (fun g => (c.1, c.2, some g)))

/-- The cask that a descriptor's ID names: one that has started finds a cask by an alias revoked since (R197). -/
def State.caskFor (s : State) (o : Op) (id : Nat) : Option (Nat × Cask × Option CaskGrant) :=
  match s.findCask (s.opTenant o) id with
  | some f => some f
  | none => (o.kept.find? (fun g => g.2.aliasId == id)).bind (fun g => (s.casks.get? g.1).map (fun c => (g.1, c, some g.2)))

def State.versionsOf (s : State) (ck : Nat) : List (Nat × Ver) := s.vers.filter (fun v => v.2.cask == ck)

/-- R195: the latest version. -/
def State.latest (s : State) (ck : Nat) : Option (Nat × Ver) :=
  ((s.versionsOf ck).filter (fun v => v.2.st == .committed)).foldl (fun a v => match a with
    | none => some v
    | some m => if m.2.seq < v.2.seq then some v else a) none

/-- R203 row 5: the committed version that a VERSION field names, 0 naming the latest. -/
def State.committedVer (s : State) (ck seq : Nat) : Option (Nat × Ver) :=
  if seq = 0 then s.latest ck
  else (s.versionsOf ck).find? (fun v => v.2.seq == seq && v.2.st == .committed)

/-- Handles open on a version, over all partners. -/
def State.handlesOn (s : State) (v : Nat) : Nat := (s.parts.map (fun p => (p.2.handles.filter (fun h => h.2.ver == v)).length)).sum

def State.handleCount (s : State) : Nat := (s.parts.map (fun p => p.2.handles.length)).sum

def State.handle (s : State) (partner h : Nat) : Option Handle := (s.part partner).handles.get? h

/-- The handle that an operation names, as it stood when the operation started. -/
def State.handleOf (s : State) (o : Op) (h : Nat) : Option Handle :=
  match o.held.get? h with
  | some q => some q
  | none => if o.begun then none else s.handle o.partner h

/-- Handles that a descriptor names (R200, R201, R219, R239). -/
def Op.handleNames (o : Op) : List Nat :=
  let src := if bits (o.dw 1) 27 26 = 1 then [bits (o.dw 1) 25 16] else []
  let dst := if bits (o.dw 1) 11 10 = 1 then [bits (o.dw 1) 9 0] else []
  if o.mailbox.isSome then []
  else match o.opcode with
    | 0x10 => src ++ dst
    | 0x11 => dst
    | 0x12 => if bits (o.dw 1) 31 30 = 1 then dst else src ++ dst
    | 0x13 => if bit (o.dw 7) 19 then src else src ++ dst
    | 0x21 => [bits (o.dw 2) 9 0]
    | 0x22 => [bits (o.dw 2) 9 0]
    | 0x70 => dst
    | _ => []

/-- The version that PIN, UNPIN or PAGE_HINT names (R117, R118). -/
def State.hintVersion (s : State) (o : Op) : List Nat :=
  if o.mailbox.isSome ∨ o.opcode < 0x30 ∨ 0x32 < o.opcode then []
  else match bits (o.dw 1) 1 0 with
    | 1 => (((s.caskFor o (o.q 4)).bind (fun f => (s.versionsOf f.1).find? (fun v => v.2.seq == o.q 6))).map (·.1)).toList
    | 2 => if (s.slot (bits (o.dw 1) 15 8)).bound then [(s.slot (bits (o.dw 1) 15 8)).ver] else []
    | _ => []

/-- The versions that a descriptor names (R198). -/
def State.names (s : State) (o : Op) : List Nat :=
  o.vers ++ (if o.begun then [] else (o.handleNames.filterMap (s.handleOf o)).map (·.ver)) ++ s.hintVersion o

/-- R198: versions that commits fetched and not yet ended take, but for the operation itself. -/
def State.takenVersions (s : State) (id : Nat) : List Nat :=
  (s.ops.filter (fun c => c.mailbox.isNone && c.opcode == 0x21 && c.id != id && c.phase != .finished)).flatMap
    (fun c => ((c.handleNames.filterMap (s.handleOf c)).filter (·.writer)).map (·.ver))

def sixteenTib : Nat := 17592186044416

/-- R193: a cask with no live version and no open handle is deleted. Every open handle is on a live version. -/
def State.reapCask (s : State) (ck : Nat) : State :=
  if (s.versionsOf ck).isEmpty then { s with casks := s.casks.erase ck } else s

/-- R126, R198: a version ends; the pages that no other live version shares are freed, and with their records table references (R156). -/
def State.freeVersion (s : State) (v : Nat) : State :=
  match s.vers.get? v with
  | none => s
  | some w =>
    let own := (w.pages.map (·.2)).filter (fun pid => !s.shared v pid)
    let s1 := s.failWaiters own .versionGone
    let s2 := own.foldl (fun t pid => t.freePage pid) { s1 with vers := s1.vers.erase v }
    s2.reapTables.reapCask w.cask

/-- R198, row "Tenant removed": the version's own pages are scrubbed under R185. -/
def State.scrubVersion (s : State) (v : Nat) : State :=
  match s.vers.get? v with
  | none => s
  | some w => (((w.pages.map (·.2)).filter (fun pid => !s.shared v pid)).foldl (fun t pid => t.zeroFill pid) s).freeVersion v

/-- Opens a writer version (R194, R195, R198). Answers its key. -/
def State.openWriter (s : State) (ck : Nat) (base : Option Nat) (size : Nat) (shape : Option Shape) : Nat × State :=
  let c := s.casks.get ck ⟨0, 0, 0, []⟩
  let pages := ((base.bind s.vers.get?).map (fun b => b.pages)).getD []
  let w : Ver := { cask := ck, seq := c.lastSeq + 1, size := size, base := base, pages := pages, slotShape := shape }
  (s.nextVer, { s with
    casks := s.casks.set ck { c with lastSeq := c.lastSeq + 1 }
    vers := s.vers.set s.nextVer w
    nextVer := s.nextVer + 1 })

/-- Creates an empty cask. -/
def State.newCask (s : State) (tenant id : Nat) : Nat × State :=
  (s.nextCask, { s with casks := s.casks.set s.nextCask { tenant := tenant, id := id }, nextCask := s.nextCask + 1 })

/-- R203 rows 3, 5, 6 and 7 for a writer opened as MODE 1 (`base` some VERSION) or as MODE 2 with CREATE; a resume besides needs a `parked` version (R88). Answers the cask, if it is there, and the base. -/
def State.writerCheck (s : State) (tenant id : Nat) (base : Option Nat) (create : Bool) (size : Nat) (parked : Bool := false) :
    Status ⊕ (Option Nat × Option (Nat × Ver)) :=
  let found := s.findCask tenant id
  let b := found.bind (fun f => base.bind (fun v => s.committedVer f.1 v))
  let small := match b with
    | some w => size != 0 && decide (size < w.2.size)
    | none => false
  match firstOf [
    (decide (sixteenTib < size) || small || (match found with
      | some f => decide (0xFFFFFFFF ≤ f.2.1.lastSeq)
      | none => false), .bounds),
    (found.isNone && !create, .versionGone),
    (base.isSome && b.isNone, .versionGone),
    (parked && (b.bind (·.2.park)).isNone, .unsupported),
    ((found.bind (·.2.2)).isSome, .access),
    ((found.isNone && decide (Config.nCasks ≤ s.casks.length))
      || (match found with
        | some f => decide (64 ≤ (s.versionsOf f.1).length)
        | none => false), .busy)] with
  | some st => .inl st
  | none => .inr (found.map (·.1), b)

/-- Opens the writer that `writerCheck` allowed. -/
def State.writerOpen (s : State) (tenant id : Nat) (r : Option Nat × Option (Nat × Ver)) (size : Nat) (shape : Option Shape) : Nat × State :=
  let (ck, s1) := match r.1 with
    | some ck => (ck, s)
    | none => s.newCask tenant id
  let size' := if size != 0 then size else match r.2 with
    | some w => w.2.size
    | none => sixteenTib
  s1.openWriter ck (r.2.map (·.1)) size' shape

/-! ### Handles -/

def freeHandle (q : Partner) : Option Nat := (List.range 1024).find? (fun h => (q.handles.get? h).isNone)

def State.addHandle (s : State) (partner h : Nat) (v : Handle) : State :=
  s.setPart partner { s.part partner with handles := (s.part partner).handles.set h v }

def State.dropHandle (s : State) (partner h : Nat) : State :=
  s.setPart partner { s.part partner with handles := (s.part partner).handles.erase h }

/-- R198: the last handle of a DROPPING version closed. -/
def State.lastHandle (s : State) (v : Nat) : State :=
  match s.vers.get? v with
  | some w => if w.st = .dropping ∧ s.handlesOn v = 0 then s.freeVersion v else s
  | none => s

/-- Closes a handle as CASK_CLOSE does (R201). -/
def State.closeHandle (s : State) (partner h : Nat) : State :=
  match s.handle partner h with
  | none => s
  | some q =>
    let s1 := s.dropHandle partner h
    if q.writer then s1.freeVersion q.ver else s1.lastHandle q.ver

/-- R205: every handle of a partner closes. -/
def State.closeHandles (s : State) (partner : Nat) : State :=
  ((s.part partner).handles.map (·.1)).foldl (fun t h => t.closeHandle partner h) s

/-! ### Commit -/

/-- R198: an earlier descriptor that names the version has not ended. -/
def State.earlierNames (s : State) (v id : Nat) : Bool :=
  s.ops.any (fun o => decide (o.id < id) && o.phase != .finished && (s.names o).contains v)

/-- A descriptor that has started holds a handle on the version: it completes normally (R197). -/
def State.versionUsed (s : State) (v : Nat) : Bool := s.ops.any (fun o => o.phase == .running && o.held.any (fun h => h.2.ver == v))

/-- R198: frees the DROPPING versions whose last handle is closed and which no started descriptor uses. -/
def State.reapVersions (s : State) : State :=
  ((s.vers.filter (fun v => v.2.st == .dropping && s.handlesOn v.1 == 0 && !s.versionUsed v.1)).map (·.1)).foldl (fun t v => t.freeVersion v) s

/-- Every page of the version has a current record (R135 step 1). -/
def State.recordsCurrent (s : State) (v : Nat) : Bool :=
  match s.vers.get? v with
  | none => false
  | some w => w.pages.all (fun p => match s.pages.get? p.2 with
      | some q => (q.st == .clean || q.st == .kiln || q.st == .zero) && !q.copying && !s.lined p.2
      | none => true)

/-- R125: starts the kilning of a DIRTY page, kept in its frame or to be evicted; its reads of the frame are the internal entry's (R316). -/
def State.kilnStart (s : State) (pid : Nat) (keep : Bool) (cls : Nat := 2) : State :=
  match s.pages.get? pid with
  | some p =>
    if p.st = PageState.dirty ∧ !p.copying ∧ s.lockOpen p then
      ((s.setPage pid { p with
          st := if keep then .kilnKeep false else .kilnEvict, moveCls := cls, coding := s.codingTables pid p }).cancelEvict pid).pageReqs
        .device .internal cls false [(pid, 1024)]
    else s
  | none => s

/-- Starts the kilnings that a durable commit needs (R135): none while its half has no space (R134). -/
def State.kilnVersion (s : State) (v : Nat) : State :=
  match s.vers.get? v with
  | none => s
  | some w => (w.pages.map (·.2)).foldl (fun t pid => match t.pages.get? pid with
      | some p =>
        -- lines that wait in the pending-write table are in no record yet
        if !p.st.framed ∧ t.lined pid then t.queueMove pid .commit 2
        else if p.tileBad ∨ !t.halfRoom (p.stack / 4) then t else t.kilnStart pid true
      | none => t) s

/-- R137: room for one more staged journal record. -/
def State.stageRoom (s : State) : Bool := decide (s.kln.staged.length * 4096 + 4096 ≤ 16777216)

/-- Stages the commit record of each durable commit whose page records are all current (R135, R137). -/
def State.stageCommits (s : State) : State :=
  (s.vers.filter (fun v => v.2.st == .committing)).foldl (fun t v =>
    if t.recordsCurrent v.1 ∧ !(t.kln.staged.contains (.commit v.1)) ∧ t.stageRoom then
      { t with kln := { t.kln with staged := t.kln.staged ++ [.commit v.1] } } else t) s

/-- R174: a page of the version has a tile CRC mismatch. -/
def State.versionBad (s : State) (v : Nat) : Bool :=
  match s.vers.get? v with
  | none => false
  | some w => w.pages.any (fun p => match s.pages.get? p.2 with
      | some q => q.tileBad
      | none => false)

def State.setVer (s : State) (v : Nat) (w : Ver) : State := { s with vers := s.vers.set v w }

/-- The version becomes COMMITTED (R198). -/
def State.commitVersion (s : State) (v : Nat) (journaled : Bool) : State :=
  match s.vers.get? v with
  | none => s
  | some w => s.setVer v { w with st := .committed, journaled := journaled, commitOp := none }

/-- A durable commit fails: the version is OPEN again (R198, R200). -/
def State.reopenVersion (s : State) (v : Nat) : State :=
  match s.vers.get? v with
  | none => s
  | some w =>
    let s1 := s.setVer v { w with st := .open, commitOp := none }
    { s1 with kln := { s1.kln with staged := s1.kln.staged.filter (· != .commit v) } }

/-- R135, R434: a durable commit writes the map pages and its commit record. -/
def State.journalCommit (s : State) (v : Nat) : State :=
  let n := match s.vers.get? v with
    | some w => (w.pages.filter (fun p => match s.pages.get? p.2 with
        | some q => match q.owner with
          | .version _ _ sq _ => sq == w.seq
          | .extent _ _ => false
        | none => false)).length
    | none => 0
  let s1 := { s with freeCtr := s.freeCtr + 1 }
  let s2 := (s1.wrote (Config.mapBytes n s.freeCtr)).journalEntry (.staged (.commit v))
  { s2 with kln := { s2.kln with staged := s2.kln.staged.filter (· != .commit v) } }

/-! ### The cask commands -/

/-- CASK_OPEN: R199, R203. -/
def caskOpen (op : Nat) (s : State) : State :=
  s.onOp op fun o =>
    if o.opcode ≠ 0x20 then s else
    let mode := bits (o.dw 1) 1 0
    let create := bit (o.dw 1) 2
    let id := o.q 2
    let ver := o.q 4
    let size := o.q 6
    let t := s.opTenant o
    if !o.zero 1 31 3 || (create && mode != 2) || mode == 3 || id == 0 || (mode == 2 && ver != 0)
        || (mode == 0 && size != 0) || !o.zeroFrom 8 then s.fail o .unsupported
    else if size % 65536 ≠ 0 then s.fail o .align
    else
      let full := (freeHandle (s.part o.partner)).isNone || decide (65536 ≤ s.handleCount)
      let h := (freeHandle (s.part o.partner)).getD 0
      if mode = 0 then
        let found := s.findCask t id
        let v := found.bind (fun f => s.committedVer f.1 ver)
        match firstOf [
          (v.isNone, .versionGone),
          ((match found.bind (·.2.2), v with
            | some g, some w => decide (w.2.seq < g.minVersion)
            | _, _ => false), .access),
          (full, .busy)], v with
        | some st, _ => s.fail o st
        | none, none => s.fail o .versionGone
        | none, some w =>
          let s1 := s.addHandle o.partner h { ver := w.1, writer := false, granted := (found.bind (·.2.2)).isSome }
          s1.finish o { dw1 := h, dw23 := w.2.seq }
      else
        match s.writerCheck t id (if mode = 1 then some ver else none) create size with
        | .inl st => s.fail o st
        | .inr r =>
          if full then s.fail o .busy
          else
            let (v, s1) := s.writerOpen t id r size none
            let s2 := s1.addHandle o.partner h { ver := v, writer := true }
            s2.finish o { dw1 := h, dw23 := ((s2.vers.get? v).map (·.seq)).getD 0 }

/-- CASK_COMMIT: R198, R200, R203. A durable commit waits in COMMITTING until JOURNAL_COMMIT_DONE. -/
def caskCommit (op : Nat) (s : State) : State :=
  s.onOp op fun o =>
    if o.opcode ≠ 0x21 then s else
    let durable := bit (o.dw 1) 0
    let ifLatest := bit (o.dw 1) 1
    let h := bits (o.dw 2) 9 0
    if !o.zero 1 31 2 || !o.zero 2 31 10 || !o.zeroFrom 3 then s.fail o .unsupported
    else
      match s.handleOf o h with
      | none => s.fail o .access
      | some q =>
        if !q.writer then s.fail o .access
        else if o.gone.contains q.ver then s.fail o .versionGone
        else if s.handle o.partner h ≠ some q then s.fail o .access
        else
          match s.vers.get? q.ver with
          | none => s.fail o .versionGone
          | some w =>
            let stale := ifLatest && w.base != (s.latest w.cask).map (·.1)
            if s.earlierNames q.ver o.id then s
            else if w.st = .open ∧ stale then (s.reopenVersion q.ver).fail o .versionConflict
            else if !durable then
              ((s.commitVersion q.ver false).dropHandle o.partner h).finish o { dw23 := w.seq }
            else if s.versionBad q.ver then (s.reopenVersion q.ver).fail o .integrity
            else
              let s1 := (s.setVer q.ver { w with st := .committing, commitOp := some o.id }).setOp
                { o with commitAt := some (o.commitAt.getD s.tim.clock) }
              (s1.kilnVersion q.ver).stageCommits

/-- CASK_CLOSE: R201, R203. -/
def caskClose (op : Nat) (s : State) : State :=
  s.onOp op fun o =>
    if o.opcode ≠ 0x22 then s else
    let h := bits (o.dw 2) 9 0
    if o.dw 1 ≠ 0 || !o.zero 2 31 10 || !o.zeroFrom 3 then s.fail o .unsupported
    else
      match s.handleOf o h with
      | none => s.fail o .access
      | some q =>
        if o.gone.contains q.ver then s.fail o .versionGone
        else if s.handle o.partner h ≠ some q then s.fail o .access
        else (s.closeHandle o.partner h).finish o { dw1 := b2n q.writer }

/-- CASK_DROP: R202, R203. -/
def caskDrop (op : Nat) (s : State) : State :=
  s.onOp op fun o =>
    if o.opcode ≠ 0x23 then s else
    let id := o.q 2
    let seq := o.q 4
    let found := s.caskFor o id
    let any := found.bind (fun f => (s.versionsOf f.1).find? (fun v => v.2.seq == seq))
    let busy := match any with
      | some v => v.2.st == .open || v.2.st == .committing
      | none => false
    let hit := any.filter (fun v => v.2.st == .committed)
    match firstOf [
      (o.dw 1 != 0 || !o.zeroFrom 6 || id == 0 || seq == 0 || busy, .unsupported),
      (hit.isNone, .versionGone),
      ((found.bind (·.2.2)).isSome, .access)], hit with
    | some st, _ => s.fail o st
    | none, none => s.fail o .versionGone
    | none, some v =>
      let s1 := if v.2.journaled then s.journalEntry (.staged (.drop v.1)) else s
      if s.handlesOn v.1 = 0 ∧ !s.versionUsed v.1 then (s1.freeVersion v.1).finish o { dw1 := 0, journaled := v.2.journaled }
      else (s1.setVer v.1 { v.2 with st := .dropping }).finish o { dw1 := b2n (decide (0 < s.handlesOn v.1)), journaled := v.2.journaled }

/-- CASK_GRANT: R179, R197, R338, R435. DESIGN CHOICE (log 18): a grant to the owner itself, and a second grant to one grantee, are taken. -/
def caskGrant (ses owner cask grantee aliasId minVersion rights : Nat) (s : State) : State :=
  s.mgmt ses .poolState 0xC410 (leBytes owner 2 ++ leBytes cask 8 ++ leBytes grantee 2 ++ leBytes aliasId 8 ++ leBytes minVersion 8 ++ leBytes rights 1) fun s =>
    if s.tenantLeaving owner ∨ s.tenantLeaving grantee ∨ (s.findCask grantee aliasId).isSome then s.refuse .access
    else match s.casks.find? (fun c => c.2.tenant == owner && c.2.id == cask) with
    | none => s.refuse .versionGone
    | some c =>
      if 16 ≤ c.2.grants.length then s.refuse .busy
      else
        let g : CaskGrant := ⟨grantee, aliasId, minVersion, bitN rights 1⟩
        { s with casks := s.casks.set c.1 { c.2 with grants := c.2.grants ++ [g] } }.success []

/-- R197: the started descriptors of a tenant's partners keep the handles they name, and the aliases of the grants that go. -/
def State.keepNames (s : State) (tenant ck : Nat) (gs : List CaskGrant) : State :=
  { s with ops := s.ops.map (fun (o : Op) => if s.opTenant o = tenant ∧ (s.part o.partner).tenant.isSome ∧ o.phase = .running ∧ !o.begun then
      { o with held := o.handleNames.filterMap (fun h => (s.handleOf o h).map (fun q => (h, q))), kept := o.kept ++ gs.map (fun g => (ck, g)) } else o) }

/-- R197: a tenant's grants on a cask end: its open handles on the cask close at once, and the descriptors that it has started complete normally, so a DROPPING version that they use goes with the last of them. -/
def State.revokeGrant (s : State) (ck tenant : Nat) : State :=
  match s.casks.get? ck with
  | none => s
  | some c =>
    let kept := s.keepNames tenant ck (c.grants.filter (fun g => g.grantee == tenant))
    let s1 := { kept with
      casks := s.casks.set ck { c with grants := c.grants.filter (fun g => g.grantee != tenant) }
      parts := s.parts.map (fun (p : Nat × Partner) => if p.2.tenant = some tenant then
        (p.1, { p.2 with handles := p.2.handles.filter (fun h => !(h.2.granted && (match s.vers.get? h.2.ver with
          | some w => w.cask == ck
          | none => false))) }) else p) }
    s1.reapVersions

/-- CASK_REVOKE: R197, R338. -/
def caskRevoke (ses owner cask grantee : Nat) (s : State) : State :=
  s.mgmt ses .poolState 0xC411 (leBytes owner 2 ++ leBytes cask 8 ++ leBytes grantee 2) fun s =>
    if s.tenantLeaving owner ∨ s.tenantLeaving grantee then s.refuse .access
    else match s.casks.find? (fun c => c.2.tenant == owner && c.2.id == cask) with
    | none => s.refuse .versionGone
    | some c =>
      if !(c.2.grants.any (fun g => g.grantee == grantee)) then s.refuse .versionGone
      else (s.revokeGrant c.1 grantee).success []

def execCaskOpen (op : Nat) (s : State) : Res := .next (caskOpen op s)
def execCaskCommit (op : Nat) (s : State) : Res := .next (caskCommit op s)
def execCaskClose (op : Nat) (s : State) : Res := .next (caskClose op s)
def execCaskDrop (op : Nat) (s : State) : Res := .next (caskDrop op s)
def execCaskGrant (ses owner cask grantee aliasId minVersion rights : Nat) (s : State) : Res :=
  .next (caskGrant ses owner cask grantee aliasId minVersion rights s)
def execCaskRevoke (ses owner cask grantee : Nat) (s : State) : Res := .next (caskRevoke ses owner cask grantee s)

end Sys2Proof.Machine
end

