-- ==== Sys2Proof/Machine/Slots.lean ====
section
/-! DEFINITION. Slots, their turns, pins and mailboxes (03_attention_calls.md R61 to R99), and what slot calls share. -/

namespace Sys2Proof.Machine

/-! ### Markings -/

/-- The class at which a slot call runs (R75, R261). -/
def Slot.callClass (sl : Slot) (o : Op) : Nat :=
  if o.mailbox.isSome then 0
  else if o.cls = 0 then (if sl.fast then 0 else 1) else o.cls

/-- The context of a slot's layer. -/
def State.slotCtx (s : State) (n layer : Nat) : Ctx :=
  let sl := s.slot n
  { ver := sl.ver, seq := ((s.vers.get? sl.ver).map (·.seq)).getD 0, tenant := sl.tenant, shape := sl.shape
    layer := layer, len := sl.lens.get layer 0 }

/-! ### Pins (R67, R69, R113 to R116) -/

/-- Pages of a version with numbers in [a, b). -/
def Ver.region (w : Ver) (a b : Nat) : List (Nat × Nat) := w.pages.filter (fun p => decide (a ≤ p.1) && decide (p.1 < b))

/-- R69: level-2 and level-3 picot pages. -/
def Ver.picotPages (w : Ver) : List Nat :=
  ((w.region l3Page 268435456) ++ (w.region (levelBase 2 / 65536) l3Page)).map (·.2)

/-- The layer of a K and V page. -/
def pageLayer (h : Shape) (page : Nat) : Nat := page / 8 / max 1 h.kvh % max 1 h.layers

/-- The newest block with positions that a K and V page holds (R37, R40). -/
def newestBlock (h : Shape) (lens : Map Nat) (page : Nat) : Nat :=
  let st := page % 8
  let head := page / 8 % max 1 h.kvh
  let q := page / 8 / max 1 h.kvh / max 1 h.layers
  (((List.range h.perPage).map (fun j => (q * h.perPage + j) * 8 + (st + 8 - head % 8) % 8)).filter
    (fun b => decide (b < nBlocks (lens.get (pageLayer h page) 0)))).foldl max 0

/-- The pages that hold sink or window positions of any layer (R67). -/
def State.edgePages (s : State) (n : Nat) : List Nat :=
  let sl := s.slot n
  ((List.range sl.shape.layers).flatMap fun l =>
    let c := s.slotCtx n l
    s.tilePages sl.ver ((List.range sl.shape.kvh).flatMap fun hd => (c.sinkBlocks ++ c.windowBlocks).flatMap (c.edgeTiles hd))).eraseDups

/-- R67, R69: the pages a bound slot pins, in order. -/
def State.slotPins (s : State) (n : Nat) : List Nat :=
  let sl := s.slot n
  match s.vers.get? sl.ver with
  | none => []
  | some w =>
    if !sl.bound then []
    else if !sl.fast then w.picotPages
    else
      let l1 := (w.region (levelBase 1 / 65536) (levelBase 2 / 65536)).map (·.2)
      let kv := ((w.region 0 kvEnd).mergeSort (fun a b => decide (newestBlock sl.shape sl.lens b.1 ≤ newestBlock sl.shape sl.lens a.1))).map (·.2)
      ((w.picotPages ++ l1 ++ s.edgePages n ++ kv).eraseDups).take Config.fastPages

def State.boundSlots (s : State) : List Nat := (s.slots.filter (fun e => e.2.bound)).map (·.1)

/-- R113: the page is pinned. -/
def State.pinned (s : State) (pid : Nat) : Bool :=
  match s.pages.get? pid with
  | none => false
  | some p => decide (0 < p.pins) || (!p.overflow && s.boundSlots.any (fun n => (s.slotPins n).contains pid))

/-- Frames of the replay journal on each stack, in pages (R396, R397). -/
def State.journalFrames (s : State) : Nat := if bit s.jrn.ctl 31 then bits s.jrn.ctl 22 16 * 2048 else 0

/-- Pages pinned by PIN descriptors, of all stacks or of one. -/
def State.pinPages (s : State) (stack : Option Nat) : Nat :=
  (s.pages.filter (fun p => decide (0 < p.2.pins) && (match stack with
    | some k => p.2.stack == k
    | none => true))).length

/-- The class at which a slot's pins bring its pages to steep (R113). -/
def Slot.pinClass (sl : Slot) : Nat := if sl.fast then 0 else sl.pinCls

/-- R113: the class of whatever pins a page, the lowest of several: its PIN descriptor's, or that of a slot whose pins cover it. -/
def State.pinClass (s : State) (pid : Nat) : Nat :=
  let own := match s.pages.get? pid with
    | some p => if 0 < p.pins then [p.pinCls] else []
    | none => []
  (own ++ (s.boundSlots.filter (fun n => (s.slotPins n).contains pid)).map (fun n => (s.slot n).pinClass)).foldl min 7

/-- Pages that no slot pins any more are left out no longer: their counters count again (R115). -/
def State.dropOverflow (s : State) : State :=
  let pinned := s.boundSlots.flatMap s.slotPins
  { s with pages := s.pages.map (fun (p : Nat × Page) => if p.2.overflow && !pinned.contains p.1 then (p.1, { p.2 with overflow := false }) else p) }

/-- R115, R116: settles which of a slot's pages are pinned; those past a limit keep their counter at 255 and are counted. -/
def State.settlePins (s : State) (n : Nat) : State :=
  let s := s.dropOverflow
  let others := ((s.boundSlots.filter (· != n)).flatMap s.slotPins).eraseDups
  let free := fun (t : State) pid => match t.pages.get? pid with
    | some p => decide (0 < p.pins) || (others.contains pid && !p.overflow)
    | none => true
  let total0 := s.pinPages none + 8 * s.journalFrames + (others.filter (fun pid => match s.pages.get? pid with
    | some p => p.pins == 0 && !p.overflow
    | none => false)).length
  let onStack := fun k => s.pinPages (some k) + s.journalFrames + (others.filter (fun pid => match s.pages.get? pid with
    | some p => p.pins == 0 && !p.overflow && p.stack == k
    | none => false)).length
  let step := fun (a : State × Nat × List Nat × Nat) pid =>
    let (t, total, per, spill) := a
    match t.pages.get? pid with
    | none => a
    | some p =>
      if free t pid then a
      else if Config.pinTotalPages < total + 1 ∨ Config.pinStackPages < per.getD p.stack 0 + 1 then
        if p.overflow then a else (t.setPage pid { p with overflow := true, ctr := 255 }, total, per, spill + 1)
      else (t.setPage pid { p with overflow := false }, total + 1, per.set p.stack (per.getD p.stack 0 + 1), spill)
  let (s1, _, _, spill) := (s.slotPins n).foldl step (s, total0, (List.range 8).map onStack, 0)
  if spill = 0 then s1
  else ({ s1 with kln := { s1.kln with pinOvfCnt := sat32 (s1.kln.pinOvfCnt + spill) } }).raiseN 0x0020 unitDevice 0 1 [n, spill] (s.slot n).tenant

/-- What slot pins leave room for has changed: the pages of every bound slot are settled anew, in the order of the slots (R115, R116, R397). -/
def State.settleAll (s : State) : State := s.boundSlots.foldl (fun t n => t.settlePins n) s.dropOverflow

/-- R113: the slot's pinned pages come to steep, or stay there: an eviction's kilning is kept (DEDUCED, log 16), and the steeping of a KILN page is queued. -/
def State.steepPins (s : State) (n : Nat) : State :=
  (s.slotPins n).foldl (fun t pid => match t.pages.get? pid with
    | some p =>
      if p.overflow then t
      else if p.st = PageState.kilnEvict then t.setPage pid { p with st := .kilnKeep false }
      else if p.st = .kiln ∧ (t.recordStatus p).isNone then t.queueMove pid .pin (t.slot n).pinClass
      else t.cancelEvict pid
    | none => t) s

/-! ### SRAM share (R68) -/

/-- Bytes of one layer's level-3 picots and of all sink tiles. -/
def State.sramNeeds (s : State) (n : Nat) : List Nat × Nat :=
  let sl := s.slot n
  let tiles := fun l => ((List.range sl.shape.kvh).flatMap (fun hd => (s.slotCtx n l).picotTiles 3 hd 0)).length * 4096
  let sink := fun l =>
    let c := s.slotCtx n l
    ((List.range sl.shape.kvh).flatMap c.sinkTiles).length * 4096
  let ls := List.range sl.shape.layers
  (ls.map tiles, (ls.map sink).sum)

/-- How many whole layers from layer 0 fit in `cap` bytes. -/
def fitLayers (cap : Nat) : List Nat → Nat
  | [] => 0
  | z :: zs => if z ≤ cap then 1 + fitLayers (cap - z) zs else 0

def sramShare : Nat := 402653184

/-- The tiles that the share of a fast slot holds (R68). -/
def State.sramTiles (s : State) (n : Nat) : List TileWant :=
  let sl := s.slot n
  let heads := List.range sl.shape.kvh
  (List.range sl.sramLayers).flatMap (fun l => heads.flatMap (fun hd => (s.slotCtx n l).picotTiles 3 hd 0))
    ++ (if sl.sramSink then (List.range sl.shape.layers).flatMap (fun l => heads.flatMap (s.slotCtx n l).sinkTiles) else [])

/-- Loads the share of a fast slot, by reads at class 0 under its fast entry (R312). The load itself makes no tile checks: they are made at each use (DESIGN CHOICE, log 14; R35 names no load). -/
def State.loadSram (s : State) (n : Nat) : State :=
  let sl := s.slot n
  if !sl.fast then s
  else
    let (ls, sink) := s.sramNeeds n
    let k := fitLayers sramShare ls
    let t := s.setSlot n { sl with sramLayers := k, sramSink := decide (k = ls.length ∧ ls.sum + sink ≤ sramShare) }
    t.pageReqs .device (.fast n) 0 false (t.tileAsks sl.ver (t.sramTiles n))

/-- What no longer fits leaves the share at a SEQ boundary; nothing enters it. -/
def State.shrinkSram (s : State) (n : Nat) : State :=
  let sl := s.slot n
  if !sl.fast then s
  else
    let (ls, sink) := s.sramNeeds n
    let k := min sl.sramLayers (fitLayers sramShare ls)
    s.setSlot n { sl with sramLayers := k, sramSink := sl.sramSink && decide (k = ls.length ∧ ls.sum + sink ≤ sramShare) }

/-! ### Marking takes effect (R70) -/

/-- R70: a pending change of the marking takes effect, at a SEQ boundary: no call of the slot runs. -/
def State.applyMarking (s : State) (n : Nat) : State :=
  let sl := s.slot n
  match sl.change with
  | .none => s
  | .adding => ((((s.setSlot n { sl with change := .none }).syncFast).loadSram n).settlePins n).steepPins n
  | .clearing => ((s.setSlot n { sl with
      change := .none, mark := none, mailboxEn := false, outDma := false, mbox := [], sramLayers := 0, sramSink := false }).syncFast).settleAll

/-- A call of the slot runs. -/
def State.slotBusy (s : State) (n : Nat) : Bool := s.ops.any (fun o => o.isSlotCall && o.slotNo == n && o.phase == .running)

/-! ### What a call records -/

/-- R399, R401: the COMPLETION record of an operation, with the completion record as its ring got it; `phase` is 0 where it got none. -/
def State.journalCompletion (s : State) (o : Op) (phase : Bool := false) : State :=
  match o.jrn with
  | none => s
  | some i =>
    let rec0 := if o.mailbox.isSome then headerBytes o else recordBytes o phase ++ List.replicate 32 0
    let flags := flagBits o - (flagBits o % 2) - 4 * (flagBits o / 4 % 2) - 16 * (flagBits o / 16 % 2)
    let dw0 := leBytes (statusCode o.res.status + flags * 256) 2 ++ (rec0.drop 2).take 2
    let body := match o.opcode with
      | 0x20 => dw0 ++ List.replicate 12 0
      | 0x21 => dw0 ++ (rec0.drop 4).take 4 ++ List.replicate 8 0
      | 0x43 => dw0 ++ (rec0.drop 4).take 4 ++ List.replicate 8 0
      | _ => dw0 ++ (rec0.drop 4).take 12
    let extra := if o.mailbox.isSome then (rec0.drop 28).take 4 ++ (rec0.drop 36).take 8 else []
    let body := if o.mailbox.isSome then dw0 ++ (rec0.drop 4).take 12 else body
    s.journal 0x02 (leBytes i 8 ++ leBytes (Crc.crc64 (body ++ extra ++ o.stored ++ o.wrote)) 8 ++ rec0)

/-- R97: DW7 to DW10 of a call that brought no result: no block visited, its pages from kiln, nothing replaced, the length of LAYER as it stands. -/
def State.callCounts (s : State) (n : Nat) (o : Op) : Op :=
  if o.res.more.isEmpty then
    { o with res := { o.res with more := [0, o.kilnPages, 0, (s.slot n).lens.get (bits (o.dw 0) 23 16) 0] } }
  else o

/-! ### Turns (R71 to R73, R91 rows 1 to 5) -/

/-- The waiting calls of a slot, in order of arrival. -/
def State.waitingCalls (s : State) (n : Nat) : List Op :=
  s.ops.filter (fun o => o.isSlotCall && o.slotNo == n && o.phase == .waitTurn)

/-- A call takes its turn: NEXT adds 1. -/
def State.takeTurn (s : State) (o : Op) : State :=
  let n := o.slotNo
  let sl := s.slot n
  (s.setSlot n { sl with next := (sl.next + 1) % 65536, turns := sl.turns + 1 }).setOp { o with phase := .turn, turnNo := some sl.turns }

/-- R72: D of a call. -/
def State.distance (s : State) (o : Op) : Nat := (o.seqNo + 65536 - (s.slot o.slotNo).next) % 65536

/-- R72: judges the waiting calls again after NEXT changed; of calls with one SEQ the first to arrive goes first. -/
def State.rejudge (s : State) (n : Nat) : Nat → State
  | 0 => s
  | fuel + 1 =>
    let ws := s.waitingCalls n
    match (ws.filter (fun o => s.distance o == 0)).foldl (fun b o => match b with
      | none => some o
      | some x => if o.callNo < x.callNo then some o else some x) (none : Option Op) with
    | some o => (s.takeTurn o).rejudge n fuel
    | none => (ws.filter (fun o => decide (1024 ≤ s.distance o))).foldl (fun t o => t.fail o .bounds) s

/-- Rows 1 to 4 of R91, judged as a call arrives; a call that passes takes its turn or waits for it. `o` is in the state. -/
def State.slotArrive (s : State) (o : Op) : State :=
  let n := o.slotNo
  let sl := s.slot n
  let t := s.opTenant o
  let taken := sl.bound || sl.binding.isSome
  match firstOf [
    (!s.hasArray, .unsupported),
    ((!o.binds && !taken) || (taken && sl.partner != o.partner), .access),
    (sl.mark.isSome && sl.mark != some t, .access),
    (o.binds && taken, .busy)] with
  | some st => s.fail o st
  | none =>
    if o.binds then
      (s.setSlot n { sl with binding := some o.id, partner := o.partner, tenant := t, next := 1, turns := sl.turns + 1 }).setOp
        { o with phase := .turn, turnNo := some sl.turns }
    else
      -- R72 counts from the arrival at the slot
      let o := { o with arrival := s.tim.clock, callNo := sl.arrivals }
      let s := s.setSlot n { sl with arrivals := sl.arrivals + 1 }
      let d := s.distance o
      if d = 0 then (s.takeTurn o).rejudge n (s.ops.length + 1)
      else if d < 1024 then s.setOp { o with phase := .waitTurn }
      else s.fail o .bounds

/-- The call took its turn before another of its slot (R71). -/
def Op.turnBefore (p o : Op) : Bool :=
  match p.turnNo, o.turnNo with
  | some a, some b => decide (a < b)
  | _, _ => false

/-- Every earlier call of the slot that took its turn has completed (R71, R74); one whose record alone is held has (R276). -/
def State.turnFirst (s : State) (o : Op) : Bool :=
  !(s.ops.any (fun p => p.isSlotCall && p.slotNo == o.slotNo && !p.recordHeld && p.turnBefore o))

/-- A base die, in which slot calls run, was asked to go idle (R374): calls that have not started wait for its reset. -/
def State.diesIdle (s : State) : Bool := (List.range 8).any (fun b => s.askedIdle (.base b))

/-- SLOT_CALL_START: R71, at a SEQ boundary: a change of the marking takes effect first (R70), and the SRAM share sheds what outgrew it (R68). Nothing starts once the flush has begun (R138), or in a base die that was asked to go idle (R374). -/
def State.slotCallStart (s : State) (op : Nat) : State :=
  match s.op? op with
  | some o =>
    if o.phase = .turn ∧ s.turnFirst o ∧ s.rst.flush = .none ∧ !s.diesIdle then
      let s0 := s.applyMarking o.slotNo
      -- a fast slot reclaims its lent credits at the start of a ring call (R318)
      let s1 := if o.mailbox.isNone ∧ (s0.slot o.slotNo).fast then s0.reclaim (.fast o.slotNo) else s0
      (s1.shrinkSram o.slotNo).setOp { o with phase := .running }
    else s
  | none => s

/-- SLOT_TURN_TIMEOUT: R72. -/
def slotTurnTimeout (op : Nat) (s : State) : State :=
  match s.op? op with
  | some o =>
    if o.phase = .waitTurn then
      let s1 := s.expire (o.arrival + 10000000)
      s1.fail o .deadline
    else s
  | none => s

/-! ### Binding and leaving BOUND -/

/-- R73: the waiting calls of a slot end ABORTED. -/
def State.abortCalls (s : State) (n : Nat) : State :=
  (s.ops.filter (fun o => o.isSlotCall && o.slotNo == n && (o.phase == .waitTurn || o.phase == .turn))).foldl
    (fun t o => t.fail o .aborted) s

/-- The slot record of a FREE slot; its marking stays, and a change that waited takes effect (R70). The count of turns goes on. -/
def Slot.freed (sl : Slot) : Slot := { turns := sl.turns, mark := if sl.change = .clearing then none else sl.mark }

/-- R63: the mailbox calls of a slot end with it: its mailbox is cleared, so no header is written. -/
def State.endMailboxCalls (s : State) (n : Nat) : State :=
  ((s.ops.filter (fun o => o.mailbox == some n)).map (·.id)).foldl (fun t id => match t.op? id with
    | some o =>
      let t1 := if o.phase = .finished then t else t.fail o .aborted
      let o1 := t1.callCounts n ((t1.op? id).getD o)
      (t1.journalCompletion o1).dropOp id
    | none => t) s

/-- R63: the slot leaves BOUND; its writer version is discarded (R20). -/
def State.unbindSlot (s : State) (n : Nat) : State :=
  let sl := s.slot n
  if sl.bound then (((((s.endMailboxCalls n).abortCalls n).freeVersion sl.ver).setSlot n sl.freed).syncFast).settleAll
  else s

/-- A bind or resume fails: the slot is FREE again. -/
def State.bindFails (s : State) (o : Op) (st : Status) : State :=
  let n := o.slotNo
  let s1 := match o.opened with
    | some v => s.freeVersion v
    | none => s
  (((s1.abortCalls n).setSlot n (s1.slot n).freed).syncFast).fail o st

/-- R79, R91 row 10: why the granule at MAILBOX_BASE may not be mapped. -/
def State.mailboxRefusal (s : State) (o : Op) (base : Nat) : Option Status :=
  match s.locate o.partner base with
  | none => some .access
  | some (r, e, off) => match e.refuses o r with
    | some st => some st
    | none => if e.granules * Config.granuleBytes < off + Config.granuleBytes then some .access else none

/-- The mailbox fields of SLOT_BIND and SLOT_RESUME. -/
structure MailboxSpec where
  en : Bool
  dma : Bool
  vector : Nat
  base : Nat
  out : Nat
  deriving DecidableEq, Repr

/-- Rows 6, 7 and 10 of R91 for the mailbox fields; `w` is the word that holds the flags. -/
def State.mailboxCheck (s : State) (o : Op) (m : MailboxSpec) : Option Status :=
  firstOf [
    ((m.en || m.dma) && !(s.slot o.slotNo).fast, .unsupported),
    ((m.en && m.base % Config.granuleBytes != 0) || (m.dma && m.out % 4096 != 0), .align)]

/-- The slot becomes BOUND (R63). A mailbox whose extent has meanwhile entered DRAINING is disabled (R184). -/
def State.bindSlot (s : State) (o : Op) (v : Nat) (shape : Shape) (lens : Map Nat) (m : MailboxSpec) : State :=
  let n := o.slotNo
  let sl := s.slot n
  let s1 := s.setSlot n { sl with
    bound := true, binding := none, shape := shape, ver := v, lens := lens
    mailboxEn := m.en, outDma := m.dma, vector := m.vector, mboxBase := m.base, outAddr := m.out
    mboxDisabled := m.en && (s.mailboxRefusal { o with begun := false, accepted := [] } m.base).isSome, mbox := [], pinCls := o.runClass }
  ((s1.loadSram n).settlePins n).steepPins n

/-! ### Call operands -/

/-- What an address operand of a slot call reaches: one extent of the partner, or partner memory (R91 row 10). -/
def State.callRange (s : State) (o : Op) (addr len : Nat) : Status ⊕ Option (Nat × Ext × Nat) :=
  match s.addrRange o addr false with
  | .inl st => .inl st
  | .inr found => if found.isSome ∧ pastEnd found addr len then .inl .access else .inr found

/-- One result to write: its address, the range of device memory that it is, if it is one, and its bytes. -/
structure Piece where
  addr : Nat
  span : Option Span
  data : List Byte
  deriving DecidableEq, Repr

/-- Writes one result: BUSY without capacity (R177), HALTED when the function may not issue it (R276); none while its lines or copies find no room (R123, R124). -/
def State.putOne (s : State) (o : Op) (cls : Nat) (p : Piece) : Status ⊕ Option State :=
  match p.span with
  | some sp0 =>
    let sp := { sp0 with len := p.data.length }
    if !s.roomFor sp then .inl .busy
    else if !s.spanRoom sp then .inr none
    else
      let o1 := (s.op? o.id).getD o
      let s1 := s.writeSpan sp p.data cls o1.touched
      let s2 := s1.setOp { o1 with touched := o1.touched ++ (s1.spanPages sp).filter (fun q => !o1.touched.contains q) }
      .inr (some (s2.pageReqs (.op o.id) (s2.opMaster o1).1 cls true (s2.spanAsks sp)))
  | none => if s.mayRequest o.port then .inr (some (s.dmaWrite cls o.port p.addr p.data)) else .inl .halted

/-- Writes results in order; none if one of them must wait. -/
def State.putAll (s : State) (o : Op) (cls : Nat) : List Piece → Status ⊕ Option State
  | [] => .inr (some s)
  | p :: ps => match s.putOne o cls p with
    | .inr (some t) => t.putAll o cls ps
    | r => r

/-- The operation waits for frames on some stacks, or for room in the pending-write table (R112, R123, R124). -/
def State.awaitRoom (s : State) (o : Op) (on : List Nat) : State :=
  (s.setOp { (s.op? o.id).getD o with begun := true, frameOn := on }).stallOp o.id .moveLock

/-- It waits no longer. -/
def State.haveRoom (s : State) (o : Op) : State :=
  let t := s.endStall o.id
  match t.op? o.id with
  | some o1 => t.setOp { o1 with frameOn := [] }
  | none => t

/-- Writes every result of an operation at once, or none of them: it waits while one finds no room, and fails where one can never be written. -/
def State.withOutputs (s : State) (o : Op) (cls : Nat) (ps : List Piece) (k : State → State) : State :=
  match (s.haveRoom o).putAll o cls ps with
  | .inr (some t) => k t
  | .inr none => s.awaitRoom o ((ps.filterMap (·.span)).flatMap s.framesWanted)
  | .inl .busy => s.fail o .busy
  | .inl st => s.failRun o st 0

/-- One result. -/
def State.withOutput (s : State) (o : Op) (cls addr : Nat) (sp : Option Span) (bs : List Byte) (k : State → State) : State :=
  s.withOutputs o cls [⟨addr, sp, bs⟩] k

/-- R399, R400: the hash of the bytes that an operation read from its operands goes into its journal record. -/
def State.inputHash (s : State) (o : Op) (bs : List Byte) : State :=
  match o.jrn with
  | some i => { s with jrn := { s.jrn with recs := s.jrn.recs.map (fun r =>
      if r.index == i then { r with body := r.body.take 8 ++ leBytes (Crc.crc64 bs) 8 ++ r.body.drop 16 } else r) } }
  | none => s

/-- R402: with CAPTURE set, the input of a slot call of a listed tenant is put into one DATA record, up to 64 KiB, which is kept or lost once. -/
def State.capture (s : State) (o : Op) (bs : List Byte) : State × Op :=
  let s1 := s.inputHash o bs
  let o1 := { o with captured := true }
  match o.jrn with
  | some i =>
    if bit s.jrn.ctl 29 ∧ s.jrn.capture.contains (s.opTenant o) ∧ !o.captured then ((s1.journal 0x09 (leBytes i 8 ++ bs.take 65536)).setOp o1, o1)
    else (s1, o)
  | none => (s1, o)

/-! ### SLOT_BIND -/

/-- R78: the shape and parameters of a bind; none where a value is UNSUPPORTED. -/
def bindShape (o : Op) : Option Shape :=
  let d4 := o.dw 4
  let d7 := o.dw 7
  let sw := bit (o.dw 6) 31
  let sink := if sw then 64 else bits (o.dw 5) 15 0
  let window := if sw then 512 else bits (o.dw 6) 16 0
  let k := bits d7 10 0
  let nh := bits d7 19 13
  let ns := bits d7 28 20
  let nb := bits (o.dw 8) 12 0
  let k' := if k = 0 then 16 else k
  if bits d4 19 18 = 3 ∨ 4 < bits d4 22 20 ∨ 4 < bits d4 25 23 ∨ 1 < bits d4 27 26 ∨ 4096 < sink ∨ 65536 < window
      ∨ bits d7 12 11 = 3 ∨ 1024 < k ∨ 64 < nh ∨ 256 < ns ∨ 4096 < nb ∨ (nb ≠ 0 ∧ nb < k') then none
  else some {
    layers := bits d4 7 0 + 1, kvh := bits d4 13 8 + 1, group := bits d4 17 14 + 1, hd := 64 * 2 ^ bits d4 19 18
    kfmt := bits d4 22 20, vfmt := bits d4 25 23, outfmt := bits d4 27 26, sink := sink, window := window
    mode := bits d7 12 11, k := k', nh := if nh = 0 then 4 else nh, ns := if ns = 0 then 8 else ns, nb := nb }

/-- SLOT_BIND: R77 to R79, R91. -/
def slotBind (op : Nat) (s : State) : State :=
  s.onOp op fun o =>
    if o.opcode ≠ 0x40 then s else
    let m : MailboxSpec := ⟨bit (o.dw 8) 31, bit (o.dw 8) 30, bits (o.dw 8) 26 16, o.q 9, o.q 11⟩
    let clean := o.zero 1 15 8 && o.zero 4 31 28 && o.zero 5 31 16 && o.zero 6 30 17 && o.zero 7 31 29 && o.zero 8 29 27
      && o.zero 8 15 13 && o.zeroFrom 13
    match bindShape o with
    | none => s.bindFails o .unsupported
    | some h =>
      if !clean then s.bindFails o .unsupported
      else
        match s.mailboxCheck o m with
        | some st => s.bindFails o st
        | none =>
          match (if m.en then s.mailboxRefusal o m.base else none) with
          | some st => s.bindFails o st
          | none =>
            if o.q 2 = 0 then s.bindFails o .unsupported
            else
              match s.writerCheck (s.opTenant o) (o.q 2) none true 0 with
              | .inl st => s.bindFails o st
              | .inr r =>
                let (v, s1) := s.writerOpen (s.opTenant o) (o.q 2) r 0 (some h)
                (s1.bindSlot o v h [] m).finish o {}

/-! ### APPEND -/

/-- R81: the source of an APPEND from its bytes. -/
def sourceOf (h : Shape) (bf16 : Bool) (count layers : Nat) (bs : List Byte) : Source :=
  let n := layers * sectionBytes h bf16 count
  ⟨bf16, bs.take n, bs.drop n⟩

/-- New pages that an append needs (R177): pages of its tiles that the version lacks or shares. -/
def State.appendPages (s : State) (v : Nat) (ts : List TilePos) : Nat :=
  (((ts.map (·.page)).eraseDups).filter (fun p => match s.pageAt (.ver v) p with
    | some pid => s.shared v pid
    | none => true)).length

/-- R112, R123: stacks on which the tiles that a call writes find no free frame for a new page or a copy. -/
def State.tileFrames (s : State) (v : Nat) (ts : List TilePos) : List Nat :=
  let need := ((ts.map (·.page)).eraseDups).filter (fun i => match s.pageAt (.ver v) i with
    | none => true
    | some pid => s.shared v pid || (match s.pages.get? pid with
      | some p => p.st == .zero
      | none => false))
  (List.range 8).filter (fun k => decide (s.framesFree k < (need.filter (fun i => s.stackOf (.ver v) i == k)).length))

/-- Pages that tiles to be written lie on, which must be at hand; of a shared one the copy reads every line (R123). -/
def State.tileDeps (s : State) (v : Nat) (ts : List TilePos) : List (Nat × Nat) :=
  ((ts.filterMap (s.tilePage v)).eraseDups).map (fun pid => (pid, if s.shared v pid then 1024 else 0))

/-- The contexts of a range of layers. -/
def State.layerCtxs (s : State) (n first count : Nat) : List Ctx := (List.range count).map (fun i => s.slotCtx n (first + i))

/-- The tiles that an append of count positions to some layers writes. -/
def appendTilesOf (cs : List Ctx) (count : Nat) : List TilePos := (cs.flatMap (fun c => c.appendTiles count)).eraseDups

/-- R177, R91 row 11: the pool has no capacity for the new pages of some tiles of the slot's version. -/
def State.noCapacity (s : State) (n : Nat) (ts : List TilePos) : Bool := decide (s.poolFree < s.appendPages (s.slot n).ver ts * 65536)

/-- Runs `k` once the pages that a call writes to can be had: their frames are free and what it needs of them is at hand. -/
def State.awaitTiles (s : State) (o : Op) (cls v : Nat) (reads : List TileWant) (ts : List TilePos) (k : State → Op → State) : State :=
  let want := s.tileFrames v ts
  if !want.isEmpty then s.awaitRoom o want
  else
    let s0 := if o.frameOn.isEmpty then s else s.haveRoom o
    s0.await ((s0.op? o.id).getD o) cls (s0.tileAsks v reads ++ s0.tileDeps v ts) (fun _ st => s0.fail ((s0.op? o.id).getD o) st) k

/-- The call has touched the pages of some tiles (R110). -/
def State.touchedTiles (s : State) (o : Op) (v : Nat) (ts : List TilePos) : State × Op :=
  let o1 := { o with touched := o.touched ++ ((ts.filterMap (s.tilePage v)).eraseDups).filter (fun p => !o.touched.contains p) }
  (s.setOp o1, o1)

/-- Rows 12 to 14 of R91 and the effect of an append whose source has arrived. `k` receives the count of R82. -/
def State.appendRun (s : State) (o : Op) (cls : Nat) (cs : List Ctx) (src : Source) (count : Nat) (k : State → Op → Nat → State) : State :=
  let tiles := appendTilesOf cs count
  let n := o.slotNo
  let v := (s.slot n).ver
  if s.noCapacity n tiles then s.fail o .busy
  else if !(cs.zipIdx.all (fun c => s.scalesOk c.1 src c.2)) then s.fail o .unsupported
  else if cs.any (fun c => s.tilesBad c c.appendReads) then s.fail o .integrity
  else
    s.awaitTiles o cls v (cs.flatMap (fun c => c.appendReads)) tiles fun t o1 =>
      let (m, t1) := cs.zipIdx.foldl (fun (a : Nat × State) c =>
        let (m, u) := a.2.appendLayer c.1 src count c.2 o1.touched
        (a.1 + m, u)) (0, t)
      let sl := t1.slot n
      let lens := cs.foldl (fun m c => m.set c.layer (c.len + count)) sl.lens
      let (t2, o2) := ((t1.setSlot n { sl with lens := lens }).settlePins n).touchedTiles o1 v tiles
      let (master, _) := t2.opMaster o2
      let t3 := t2.pageReqs (.op o2.id) master cls true (cs.flatMap (fun c => t2.appendAsks c count))
      let o3 := { (t3.op? o2.id).getD o2 with stored := if o.jrn.isSome then t3.runBytes v (cs.flatMap (fun c => c.appendRuns count)) else [] }
      k (t3.setOp o3) o3 m

/-- Finishes a call with the fields its effect gave the operation. -/
def State.finishAs (s : State) (o : Op) (r : Result) : State := s.finish { (s.op? o.id).getD o with wrote := o.wrote } r

/-- APPEND: R80 to R82, R91; a port source is R240's. -/
def append (op : Nat) (s : State) : State :=
  s.onOp op fun o =>
    if o.opcode ≠ 0x41 then s else
    let n := o.slotNo
    let h := (s.slot n).shape
    let port := bit (o.dw 2) 31
    let fmt := bits (o.dw 2) 18 16
    let layers := bits (o.dw 2) 15 8 + 1
    let first := bits (o.dw 2) 7 0
    let count := bits (o.dw 3) 16 0
    let len := (o.dw 4).toNat
    let cs := s.layerCtxs n first layers
    let cls := (s.slot n).callClass o
    let want := layers * sectionBytes h (fmt == 1) count + scaleBytes h layers
    if !(o.zero 1 15 8 && o.zero 2 30 19 && o.zero 3 31 17 && o.zeroFrom 7) || decide (1 < fmt) || decide (65536 < count) then
      s.fail o .unsupported
    else if h.layers < first + layers ∨ cs.any (fun c => decide (2 ^ 28 < c.len + count))
        ∨ (0 < count ∧ !(cs.all (fun c => c.appendFits count))) then s.fail o .bounds
    else if count = 0 then s.finish o { dw23 := (s.slot n).lens.get first 0 }
    else if len ≠ want then s.fail o .lenInvalid
    else
      let run := fun (t : State) (o1 : Op) (bs : List Byte) =>
        let (t0, o2) := t.capture o1 bs
        t0.appendRun o2 cls (t.layerCtxs n first layers) (sourceOf h (fmt == 1) count layers bs) count fun u o2 m =>
          u.finishAs o2 { dw1 := sat32 m, dw23 := (u.slot n).lens.get first 0 }
      let full := s.noCapacity n (appendTilesOf cs count)
      if port then
        let q := (s.part o.partner).dp
        if !q.active || !q.stream || q.dir || q.consumer != some o.id then s.fail o .access
        else if q.len ≠ len then s.fail o .lenInvalid
        else if full then s.fail o .busy
        else if q.buf.length < len then s.setBegun o.id
        else run s o q.buf
      else
        match s.callRange o (o.q 5) len with
        | .inl st => s.fail o st
        | .inr found =>
          if full then s.fail o .busy
          else s.withPlace o cls 0 (placeAt found (o.q 5) len) (fun u o1 _ st => u.fail o1 st) run

/-! ### ATTEND -/

/-- R101: the pages of the slot's version that are not steep-resident now. -/
def State.awayPages (s : State) (v : Nat) : List Nat :=
  match s.vers.get? v with
  | none => []
  | some w => (w.pages.map (·.2)).filter (fun pid => match s.pages.get? pid with
    | some p => !(p.st == .zero || p.st.framed)
    | none => false)

/-- R101: pages that every mode reads and that are not at hand. In RESIDENT_ONLY mode their residency is sampled when the call first considers them; that of the other pages, once these are at hand, for it has not considered them before. -/
def State.sampled (s t : State) (o : Op) (c : Ctx) (pr : CallParams) (query : List Byte) : List (Nat × Nat) :=
  if o.nonres.isSome ∨ pr.mode ≠ 2 then []
  else (t.tileAsks c.ver (t.attendBase c (t.slot o.slotNo) pr query)).filter (fun a => (s.pages.get? a.1).isSome && !s.ready o a.1)

/-- R100 to R102, R91 rows 13 and 14: attends on `t`, which is `s` or holds an inline append besides; pages are awaited in `s`, and `k` goes on from `t` (R22). -/
def State.attendRun (s t : State) (o : Op) (cls : Nat) (layer : Nat) (pr : CallParams) (query : List Byte)
    (k : State → Op → AttendResult → State) : State :=
  let c := t.slotCtx o.slotNo layer
  let first := s.sampled t o c pr query
  let o := { o with baseAway := some (o.baseAway.getD (first.map (·.1))) }
  if !first.isEmpty then (s.setOp o).await o cls first (fun _ st => s.fail o st) (fun u _ => u)
  else
    let away := o.nonres.getD (o.baseAway.getD [] ++ s.awayPages c.ver)
    let r := t.attendAll c (t.slot o.slotNo) pr away query
    let asks := (t.tileAsks c.ver r.steep).filter (fun a => (s.pages.get? a.1).isSome)
    let here := fun (x : Op) => { x with nonres := some away, baseAway := o.baseAway }
    if t.tilesBad c r.tiles then s.fail (here o) .integrity
    else if asks.any (fun a => !s.ready o a.1) ∨ s.gapHolds o asks then
      (s.setOp (here o)).await (here o) cls asks (fun _ st => s.fail (here o) st) (fun u _ => u)
    else
      let o1 := here ((t.op? o.id).getD o)
      let (t1, o2) := ((t.setOp o1).endStall o.id).touchAll { o1 with stalled := none, stallNs := ((((t.setOp o1).endStall o.id).op? o.id).getD o1).stallNs } (t.tileAsks c.ver r.steep)
      k t1 o2 r

/-- What a completed ATTEND reports (R85). -/
def attendReport (r : AttendResult) : Result :=
  { dw1 := r.dw1, dw23 := r.dw2 + r.dw3 * 2 ^ 32, cert := r.cert }

/-- ATTEND on a ring: R83 to R85, R91. -/
def attend (op : Nat) (s : State) : State :=
  s.onOp op fun o =>
    if o.opcode ≠ 0x42 then s else
    let n := o.slotNo
    let h := (s.slot n).shape
    let layer := bits (o.dw 2) 7 0
    let cls := (s.slot n).callClass o
    let clean := o.zero 1 15 8 && o.zero 2 31 10 && o.zero 3 31 27 && o.zero 4 31 13 && o.zeroFrom 9
    match callParams h (bits (o.dw 2) 9 8) (bits (o.dw 3) 10 0) (bits (o.dw 3) 17 11) (bits (o.dw 3) 26 18) (bits (o.dw 4) 12 0) with
    | none => s.fail o .unsupported
    | some pr =>
      if !clean then s.fail o .unsupported
      else if o.q 5 % 64 ≠ 0 ∨ o.q 7 % 4096 ≠ 0 then s.fail o .align
      else if h.layers ≤ layer then s.fail o .bounds
      else
        let heads := h.kvh * h.group
        let qlen := heads * h.hd * 2
        let olen := 4096 + heads * h.hd * (if h.outfmt = 0 then 4 else 2)
        match s.callRange o (o.q 5) qlen, s.callRange o (o.q 7) olen with
        | .inl st, _ => s.fail o st
        | _, .inl st => s.fail o st
        | .inr query, .inr out =>
          let guarded := match out with
            | some (r, _, _) => !o.begun && s.viewGuard r
            | none => false
          if guarded then s.fail o .access
          else
            s.withPlace o cls 0 (placeAt query (o.q 5) qlen) (fun u o1 _ st => u.fail o1 st) fun t o1 query =>
              let (t0, o1) := t.capture o1 query
              t0.attendRun t0 o1 cls layer pr query fun u0 o2 r =>
                let osp := out.map (fun f => extSpan f.1 f.2.1 f.2.2 olen)
                let lse : Piece := ⟨o.q 7, osp.map (fun sp => { sp with len := r.lse.length }), r.lse⟩
                let outs : Piece := ⟨o.q 7 + 4096, osp.map (fun sp => { sp with off := sp.off + 4096, len := r.outputs.length }), r.outputs⟩
                u0.await o2 cls ((osp.map u0.writeDeps).getD []) (fun _ st => u0.fail o2 st) fun u o3 =>
                  u.withOutputs o3 cls [lse, outs] fun w =>
                    w.finishAs { o3 with wrote := r.lse ++ r.outputs } (attendReport r)

/-! ### SLOT_PARK -/

/-- R199, R203: why the reopen of R19 cannot open a writer of a cask. -/
def State.reopenRefusal (s : State) (ck : Nat) : Option Status :=
  firstOf [
    (decide (0xFFFFFFFF ≤ (s.casks.get ck ⟨0, 0, 0, []⟩).lastSeq), .bounds),
    (decide (64 ≤ (s.versionsOf ck).length), .busy)]

/-- The park commits the slot's version, with its journal record if it is durable, and opens the next (R19); where that cannot be opened, nothing is committed (R199). -/
def State.parkDone (s : State) (o : Op) (journaled : Bool) : State :=
  let n := o.slotNo
  let sl := s.slot n
  match s.vers.get? sl.ver with
  | none => s.fail o .versionGone
  | some w =>
  match s.reopenRefusal w.cask with
  | some st => (s.reopenVersion sl.ver).fail o st
  | none =>
    let s0 := if journaled then s.journalCommit sl.ver else s
    let s1 := s0.setVer sl.ver { w with st := .committed, journaled := journaled, commitOp := none, park := some (sl.shape, sl.lens) }
    let (v, s2) := s1.openWriter w.cask (some sl.ver) w.size (some sl.shape)
    (s2.setSlot n { sl with ver := v }).finish o { dw23 := w.seq, journaled := journaled }

/-- SLOT_PARK: R19, R26, R86, R91. What R203 checks for the reopen is judged before its durable commit begins, and again as it is made (`parkDone`). -/
def slotPark (op : Nat) (s : State) : State :=
  s.onOp op fun o =>
    if o.opcode ≠ 0x43 then s else
    let sl := s.slot o.slotNo
    if !(o.zero 1 15 8 && o.zero 2 31 1 && o.zeroFrom 3) then s.fail o .unsupported
    else
      match s.vers.get? sl.ver with
      | none => s.fail o .versionGone
      | some w =>
        match (if w.commitOp = some o.id then none else s.reopenRefusal w.cask) with
        | some st => s.fail o st
        | none =>
          if s.earlierNames sl.ver o.id then s
          else if !(bit (o.dw 2) 0) then s.parkDone o false
          else if s.versionBad sl.ver then (s.reopenVersion sl.ver).fail o .integrity
          else
            let s1 := (s.setVer sl.ver { w with st := .committing, commitOp := some o.id }).setOp
              { o with commitAt := some (o.commitAt.getD s.tim.clock) }
            (s1.kilnVersion sl.ver).stageCommits

/-! ### SLOT_RESUME, SLOT_UNBIND, PICOT_REBUILD -/

/-- R88: the pages that a resume waits for: its picots; on a fast slot the sink tiles that the SRAM share will hold (R68), and with WAIT_RESIDENT every page that R67 pins. -/
def State.resumePages (s : State) (o : Op) (v : Nat) (wait : Bool) : List Nat :=
  match s.vers.get? v with
  | none => []
  | some w =>
    let n := o.slotNo
    let sl := s.slot n
    if !sl.fast then w.picotPages
    else
      let t := s.setSlot n { sl with bound := true, ver := v, shape := w.slotShape.getD {} }
      let (ls, sink) := t.sramNeeds n
      let sinks := if ls.sum + sink ≤ sramShare then
          t.tilePages v ((List.range (w.slotShape.getD {}).layers).flatMap (fun l =>
            (List.range (w.slotShape.getD {}).kvh).flatMap (t.slotCtx n l).sinkTiles))
        else []
      let pins := if wait then (t.slotPins n).filter (fun p => match s.pages.get? p with
          | some q => !q.overflow
          | none => true) else []
      (w.picotPages ++ sinks ++ pins).eraseDups

/-- SLOT_RESUME: R23, R87, R88, R91, R203. -/
def slotResume (op : Nat) (s : State) : State :=
  s.onOp op fun o =>
    if o.opcode ≠ 0x44 then s else
    let d6 := o.dw 6
    let m : MailboxSpec := ⟨bit d6 31, bit d6 30, bits d6 26 16, o.q 7, o.q 9⟩
    let t := s.opTenant o
    let done := fun (u : State) (o1 : Op) (v : Nat) =>
      match (u.vers.get? v).bind (fun w => (w.base.bind u.vers.get?).bind (·.park)) with
      | some (h, lens) =>
        u.await o1 ((u.slot o1.slotNo).callClass o1) ((u.resumePages o1 v (bit d6 0)).map (fun p => (p, 0))) (fun _ st => u.bindFails o1 st) fun w o2 =>
          (w.bindSlot o2 v h lens m).finishAs o2 {}
      | none => u.bindFails o1 .versionGone
    match o.opened with
    | some v => done s o v
    | none =>
      if !(o.zero 1 15 8 && o.zero 6 29 27 && o.zero 6 15 1 && o.zeroFrom 11) then s.bindFails o .unsupported
      else
        match s.mailboxCheck o m with
        | some st => s.bindFails o st
        | none =>
          match (if m.en then s.mailboxRefusal o m.base else none) with
          | some st => s.bindFails o st
          | none =>
            if o.q 2 = 0 then s.bindFails o .unsupported
            else
              match s.writerCheck t (o.q 2) (some (o.q 4)) false 0 true with
              | .inl st => s.bindFails o st
              | .inr r =>
                let (h, lens) := ((r.2.bind (fun b => b.2.park))).getD ({}, [])
                let (v, s1) := s.writerOpen t (o.q 2) r 0 (some h)
                let sl := s1.slot o.slotNo
                let o1 := { o with opened := some v }
                done ((s1.setSlot o.slotNo { sl with shape := h, lens := lens }).setOp o1) o1 v

/-- SLOT_UNBIND: R20, R63, R89. -/
def slotUnbind (op : Nat) (s : State) : State :=
  s.onOp op fun o =>
    if o.opcode ≠ 0x45 then s else
    if !(o.zero 1 15 8 && o.zeroFrom 2) then s.fail o .unsupported
    else (s.unbindSlot o.slotNo).finish o {}

/-- PICOT_REBUILD: R41, R90, R91. -/
def picotRebuild (op : Nat) (s : State) : State :=
  s.onOp op fun o =>
    if o.opcode ≠ 0x46 then s else
    let n := o.slotNo
    let sl := s.slot n
    let first := bits (o.dw 2) 7 0
    let layers := bits (o.dw 2) 15 8 + 1
    let cs := s.layerCtxs n first layers
    let keys := cs.flatMap (fun c => c.allKeys)
    let pics := cs.flatMap (fun c => c.allPicots)
    let tiles := (pics.map (·.pos)).eraseDups
    if !(o.zero 1 15 8 && o.zero 2 31 16 && o.zeroFrom 3) then s.fail o .unsupported
    else if sl.shape.layers < first + layers then s.fail o .bounds
    else if s.noCapacity n tiles then s.fail o .busy
    else if cs.any (fun c => s.tilesBad c c.allKeys) then s.fail o .integrity
    else
      s.awaitTiles o (sl.callClass o) sl.ver keys tiles fun t o1 =>
        let t1 := cs.foldl (fun u c => u.rebuildLayer c o1.touched) t
        let (t2, o2) := (t1.settlePins n).touchedTiles o1 sl.ver tiles
        let t3 := t2.pageReqs (.op o2.id) (t2.opMaster o2).1 (sl.callClass o) true (t2.tileAsks sl.ver pics)
        let stored := if o.jrn.isSome then t3.runBytes sl.ver (tiles.map (fun p => ⟨p, 0, 4096⟩)) else []
        (t3.setOp { (t3.op? o2.id).getD o2 with stored := stored }).finishAs o2 { dw1 := pics.length }

/-! ### Mailboxes -/

/-- R93: the parameters of a mailbox call. -/
def mailboxParams (h : Shape) (o : Op) : Option CallParams :=
  callParams h (bits (o.dw 0) 25 24) (bits (o.dw 1) 10 0) (bits (o.dw 1) 17 11) (bits (o.dw 1) 26 18) (bits (o.dw 2) 12 0)

/-- Runs a mailbox call whose turn has come: the inline append, then the ATTEND, as one call (R93, R94). -/
def State.mailboxRun (s : State) (o : Op) : State :=
  let n := o.slotNo
  let sl := s.slot n
  let h := sl.shape
  let layer := bits (o.dw 0) 23 16
  let inline := bit (o.dw 0) 26
  let bf16 := bit (o.dw 0) 27
  let c := s.slotCtx n layer
  let finish := fun (replaced : Nat) (u : State) (o1 : Op) (r : AttendResult) =>
    let o2 := (u.op? o1.id).getD o1
    u.finish { o2 with wrote := r.lse ++ r.outputs }
      { attendReport r with more := [r.visited, o2.kilnPages, replaced, (u.slot n).lens.get layer 0] }
  match mailboxParams h o with
  | none => s.fail o .unsupported
  | some pr =>
    if !(o.zero 0 31 28 && o.zero 1 31 27 && o.zero 2 31 13 && o.zeroFrom 3) then s.fail o .unsupported
    else if h.layers ≤ layer ∨ (inline ∧ (2 ^ 28 < c.len + 1 ∨ !(c.appendFits 1))) then s.fail o .bounds
    else if !inline then s.attendRun s o 0 layer pr (o.part 0) (finish 0)
    else
      let src : Source := ⟨bf16, (o.part 1).take (sectionBytes h bf16 1), o.part 2⟩
      s.appendRun o 0 [c] src 1 fun t o1 m => s.attendRun t ((s.op? o.id).getD o) 0 layer pr (o1.part 0) (finish m)

/-- R97 to R99: the output header and results become readable, by DMA too with OUT_DMA, then the interrupt; a disabled mailbox discards them (R184). DESIGN CHOICE (log 14): while the function may not issue, its DMA writes are held and the mailbox is updated at once. -/
def State.mailboxOutput (s : State) (n : Nat) (o : Op) : State :=
  let sl := s.slot n
  if !sl.bound || sl.mboxDisabled || !sl.mailboxEn then s
  else
    let h := headerBytes o
    let lse := (sl.shape.kvh * sl.shape.group) * 4
    let ok := o.res.status = .done
    let put := fun (m : Memory) => if ok then (m.write 0xFF000 (o.wrote.take lse)).write 0x100000 (o.wrote.drop lse) else m
    let port := (s.part o.partner).port
    let s1 := if !sl.outDma then s
      else
        let s0 := if ok then (s.dmaWrite 0 port (sl.outAddr + 4096) (o.wrote.take lse)).dmaWrite 0 port (sl.outAddr + 8192) (o.wrote.drop lse) else s
        s0.dmaOut { cls := 0 } port sl.outAddr h
    let s2 := s1.setSlot n { sl with mbox := (put sl.mbox).write 0xFE000 h }
    if o.irq then s2.signal port sl.vector else s2

/-- MAILBOX_CALL_COMPLETE: R94, R98, R99; the call has its result once its steep requests have their credits (R313), and completes after the earlier calls of its slot (R74). -/
def mailboxCallComplete (n : Nat) (s : State) : State :=
  match s.ops.find? (fun o => o.mailbox == some n) with
  | none => s
  | some o =>
    let s1 := if o.phase = .running then s.mailboxRun o else s
    match s1.op? o.id with
    | some o0 =>
      if o0.phase = .finished ∧ s1.turnFirst o0 then
        s1.settled o0 fun t o1 =>
          let o2 := t.callCounts n o1
          ((t.mailboxOutput n o2).journalCompletion o2).dropOp o2.id
      else s1
    | none => s1

/-- R92: the size of the areas that a partner may write. -/
def mailboxWritable (a : Nat) : Bool :=
  decide (a < 64) || (decide (0x1000 ≤ a) && decide (a < 0x81000)) || (decide (0x90000 ≤ a) && decide (a < 0xA0000))
    || (decide (0xA0000 ≤ a) && decide (a < 0xA0100))

/-- BOB_SLOT_DB: R95, R96, R140, R361. The query is read at the doorbell. -/
def State.slotDoorbell (s : State) (port partner : Nat) (value : Word) : State :=
  let q := s.part partner
  let n := bits value 7 0
  let sl := s.slot n
  let drop := s.setPart partner { q with bobDrops := inc32 q.bobDrops }
  if s.rst.stage ≠ .up then s
  else if q.port ≠ port then s.setPart partner { q with dbDrops := inc32 q.dbDrops }
  else if s.pwr.state = .parked ∨ s.pwr.state = .leaving ∨ s.pwr.drained then drop
  else if !s.serving then s
  else if !(sl.bound && sl.fast && sl.partner == partner && sl.mailboxEn) || sl.mboxDisabled
      || s.ops.any (fun o => o.mailbox == some n) then drop
  else
    let h := sl.shape
    let words := (List.range 16).map (fun i => w32 (leNat (sl.mbox.slice (4 * i) 4)))
    let piece := fun part a len => ({ port := port, tag := none, addr := a, len := len, part := part, got := sl.mbox.slice a len } : DmaRead)
    let qlen := h.kvh * h.group * h.hd * 2
    let o : Op := {
      id := s.opSeq, partner := partner, ring := 0, port := port, dws := words, mailbox := some n, irq := bit value 16
      arrival := s.tim.clock
      reads := [piece 0 0x1000 qlen, piece 1 0x90000 (sectionBytes h true 1), piece 2 0xA0000 (4 * h.kvh)] }
    let used := if bit (words.getD 0 0) 26 then
        sl.mbox.slice 0x90000 (sectionBytes h (bit (words.getD 0 0) 27) 1) ++ sl.mbox.slice 0xA0000 (scaleBytes h 1) else []
    let input := sl.mbox.slice 0x1000 qlen ++ used
    let body := leBytes s.tim.time.toNat 8 ++ leBytes (Crc.crc64 input) 8 ++ leBytes (port * 2 ^ 24 + n) 4 ++ leBytes sl.tenant 2 ++ [0, 0]
      ++ leBytes ((s.vers.get? sl.ver).map (·.seq) |>.getD 0) 8 ++ sl.mbox.slice 0 64
    let s0 := s.journal 0x03 body
    let (s1, o1) := s0.capture { o with jrn := s.journalIndex s0 } input
    let s2 := { s1 with ops := s1.ops ++ [o1], opSeq := s1.opSeq + 1 }
    -- R318: the doorbell reclaims the slot's lent credits
    if s.pwr.state = .entering then s2.fail o1 .busy else (s2.reclaim (.fast n)).slotArrive o1

def execSlotBind (op : Nat) (s : State) : Res := .next (slotBind op s)
def execAppend (op : Nat) (s : State) : Res := .next (append op s)
def execAttend (op : Nat) (s : State) : Res := .next (attend op s)
def execSlotPark (op : Nat) (s : State) : Res := .next (slotPark op s)
def execSlotResume (op : Nat) (s : State) : Res := .next (slotResume op s)
def execSlotUnbind (op : Nat) (s : State) : Res := .next (slotUnbind op s)
def execPicotRebuild (op : Nat) (s : State) : Res := .next (picotRebuild op s)
def execSlotTurnTimeout (op : Nat) (s : State) : Res := .next (slotTurnTimeout op s)
def execMailboxCallComplete (n : Nat) (s : State) : Res := .next (mailboxCallComplete n s)

end Sys2Proof.Machine
end

