-- ==== Sys2Proof/Machine/GristOps.lean ====
section
/-! DEFINITION. The GRIST commands (05_grist.md R153 to R166, R407): blobs read from device or partner memory and written to it, and decode tables loaded and retired. -/

namespace Sys2Proof.Machine

/-! ### LOAD_GRIST and STORE_GRIST -/

/-- R240: the consumer's stream session, or why it has none. -/
def State.streamOf (s : State) (o : Op) (out : Bool) (len : Nat) : Option Status :=
  let q := (s.part o.partner).dp
  if !q.active || !q.stream || q.dir != out || q.consumer != some o.id then some .access
  else if q.len ≠ len then some .lenInvalid else none

/-- The blob of a LOAD_GRIST: its place in device memory, in a view, or as the reads of partner memory brought it: header, index from `first` on, blocks from `lo` on. -/
def State.loadSource (s : State) (o : Op) (a : Option (Nat × Ext × Nat)) (first lo : Nat) : BlobSource :=
  match a with
  | some (r, e, off) => match e.view with
    | some v => s.viewSource (s.troubleOf o) e v off
    | none => s.spanSource (s.troubleOf o) (extSpan r e off 0)
  | none =>
    let index := 64 + 4 * first
    ⟨fun off n => if off < 64 then ((o.part 0).drop off).take n
        else if off < index + (o.part 1).length then ((o.part 1).drop (off - index)).take n
        else ((o.part 2).drop (off - lo)).take n,
      fun off n => (o.reads.filter (fun r => decide (r.addr < o.q 2 + off + n) && decide (o.q 2 + off < r.addr + r.len))).findSome? (·.bad),
      fun _ _ => false⟩

/-- Pages and lines of some parts of that blob that can be had. -/
def State.loadAsks (s : State) (o : Op) (a : Option (Nat × Ext × Nat)) (ps : List (Nat × Nat)) : List (Nat × Nat) :=
  (match a with
  | some (r, e, off) => match e.view with
    | some v => ps.flatMap (fun (p : Nat × Nat) => s.viewAsks v (off + p.1) p.2 (fun _ => none))
    | none => s.partAsks (extSpan r e off 0) ps
  | none => []).filter (fun (p : Nat × Nat) => (s.troubleOf o p.1).isNone)

/-- How many blocks, from the first on, have index entries that arrived and keep R163: those whose bytes may be read. -/
def saneBlocks (b : BlobSource) (h : Grist.BlobHead) (blocks : List Nat) : List Nat :=
  blocks.takeWhile fun i =>
    let (x, y) := blockBounds b.read h i
    (b.bad (64 + 4 * i) (if i + 1 = h.n then 4 else 8)).isNone && decide (x < y) && decide (y - x ≤ 4112) && decide (y ≤ h.total)

/-- R400: the bytes of a blob that a LOAD_GRIST of the blocks from `first` on uses: header, index entries and blocks (log 27). -/
def blobUsed (b : BlobSource) (h : Grist.BlobHead) (first n : Nat) : List Byte :=
  let lo := (blockBounds b.read h first).1
  b.read 0 64 ++ b.read (64 + 4 * first) (4 * (if first + n = h.n then n else n + 1)) ++ b.read lo ((blockBounds b.read h (first + n - 1)).2 - lo)

/-- LOAD_GRIST: R164, R166, R171. DESIGN CHOICE (log 17): where source and target both fail row 5, the source's status is reported. -/
def loadGrist (op : Nat) (s : State) : State :=
  s.onOp op fun o =>
    if o.opcode ≠ 0x14 then s else
    let t := s.opTenant o
    let cls := o.runClass
    let port := bit (o.dw 1) 31
    let src := o.q 2
    let first := (o.dw 4).toNat
    let len := (o.dw 5).toNat
    let dst := o.q 6
    let n := len / 4096
    if len = 0 then s.finish o {}
    else if !(o.zero 1 30 0 && o.zeroFrom 8) then s.fail o .unsupported
    else if src % 64 ≠ 0 ∨ (!port ∧ dst % 64 ≠ 0) then s.fail o .align
    else if len % 4096 ≠ 0 then s.fail o .lenInvalid
    else
      match s.addrRange o src false, (if port then .inr none else s.addrRange o dst true),
          (if port then s.streamOf o true len else none) with
      | .inl st, _, _ => s.fail o st
      | _, .inl st, _ => s.fail o st
      | _, _, some st => s.fail o st
      | .inr a, .inr d, none =>
        let dsp := d.map (fun d => extSpan d.1 d.2.1 d.2.2 len)
        let blocks := (List.range n).map (first + ·)
        -- once every byte of the blob that it uses is at hand
        let run := fun (u : State) (o1 : Op) (b : BlobSource) (h : Grist.BlobHead) =>
          let ex := blocks.map (fun i => (i, u.blockOf b h t i))
          match lowestFailing ex with
          | some (i, st) => (u.countCorrupt st).failRun o1 st i
          | none =>
            let out := (expanded ex).flatMap (·.2)
            let raw := ((expanded ex).filter (·.1)).length
            let u1 := u.inputHash o1 (blobUsed b h first n)
            let res : Result := { dw1 := len, dw23 := raw + (n - raw) * 2 ^ 32 }
            if port then
              let q := (u1.part o1.partner).dp
              if q.pos = len then u1.finishAs { o1 with wrote := out } res
              else (u1.setSession o1.partner { q with buf := out, done := len }).serveReads o1.partner (fun p k => (out.drop p).take k)
            else u1.withOutput o1 cls dst dsp out (fun w => w.finishAs { o1 with wrote := out } res)
        -- rows 6 to 8, once the header is at hand; a range past the end was refused before any byte was read (R267)
        let checked := fun (u : State) (o1 : Op) (k : State → Op → Grist.BlobHead → State) =>
          let b := u.loadSource o1 a first 0
          match b.bad 0 64, Grist.blobHead (b.read 0 64) with
          | some st, _ => u.fail o1 st
          | none, none => (u.countCorrupt .gristCorrupt).fail o1 .gristCorrupt
          | none, some h =>
            if h.n < first + n ∨ pastEnd a src h.total then u.fail o1 .bounds
            else if u.tablesMissing o1 t (Grist.blobTables h.mask) then u.fail o1 .tableMissing
            else
              let (u1, o2) := u.holdTables { o1 with target := dsp } t (Grist.blobTables h.mask)
              k u1 o2 h
        let deps := fun (u : State) (o1 : Op) (asks : List (Nat × Nat)) (k : State → Op → State) =>
          u.await o1 cls (asks ++ (dsp.map u.writeDeps).getD [])
            (fun pid st => u.failRun o1 st (first + ((dsp.map (u.lineOf · pid)).getD 0) / 4096)) k
        if a.isSome then
          if pastEnd a src 64 then s.fail o .access
          else if !port ∧ pastEnd d dst len then s.fail o .bounds
          else
            s.await o cls (s.loadAsks o a [(0, 64)]) (fun _ _ => s) fun u o1 =>
              checked u o1 fun u1 o2 h =>
                deps u1 o2 (u1.loadAsks o2 a (blocks.flatMap (blockParts (u1.loadSource o2 a first 0).read h))) fun u2 o3 =>
                  run u2 o3 (u2.loadSource o3 a first 0) h
        else if !port ∧ pastEnd d dst len then s.fail o .bounds
        else
          s.needDma o [(0, src, 64)] fun u o1 =>
            checked u o1 fun u1 o2 h =>
              u1.needDma o2 [(1, src + 64 + 4 * first, 4 * (if first + n = h.n then n else n + 1))] fun u2 o3 =>
                let b := u2.loadSource o3 a first 0
                let sane := saneBlocks b h blocks
                let lo := (blockBounds b.read h first).1
                let hi := (blockBounds b.read h (first + sane.length - 1)).2
                u2.needDma o3 (if sane.isEmpty then [] else [(2, src + lo, hi - lo)]) fun u3 o4 =>
                  deps u3 o4 [] fun u4 o5 => run u4 o5 (u4.loadSource o5 a first lo) h

/-- STORE_GRIST: R165, R166. DESIGN CHOICE (log 17): where source and target both fail row 5, the source's status is reported. -/
def storeGrist (op : Nat) (s : State) : State :=
  s.onOp op fun o =>
    if o.opcode ≠ 0x15 then s else
    let t := s.opTenant o
    let cls := o.runClass
    let port := bit (o.dw 1) 31
    let slot := bits (o.dw 1) 15 8
    let split := bits (o.dw 1) 5 4
    let src := o.q 2
    let len := (o.dw 4).toNat
    let dst := o.q 5
    let n := len / 4096
    let worst := Grist.up16 (64 + 4 * n) + 4112 * n
    if len = 0 then s.finish o {}
    else if !(o.zero 1 30 16 && o.zero 1 7 6 && o.zero 1 3 0 && o.zeroFrom 8) then s.fail o .unsupported
    else if (!port ∧ src % 64 ≠ 0) ∨ dst % 64 ≠ 0 then s.fail o .align
    else if len % 4096 ≠ 0 then s.fail o .lenInvalid
    else
      match (if port then .inr none else s.addrRange o src false), s.addrRange o dst true,
          (if port then s.streamOf o false len else none) with
      | .inl st, _, _ => s.fail o st
      | _, .inl st, _ => s.fail o st
      | _, _, some st => s.fail o st
      | .inr a, .inr d, none =>
        if (o.dw 7).toNat < worst ∨ pastEnd d dst worst ∨ (!port ∧ pastEnd a src len) then s.fail o .bounds
        else if s.tablesMissing o t [slot] then s.fail o .tableMissing
        else
          let dsp := d.map (fun d => extSpan d.1 d.2.1 d.2.2 worst)
          let (s1, o1) := s.holdTables { o with target := dsp } t [slot]
          let run := fun (u : State) (o2 : Op) (bs : List Byte) =>
            let table := (u.tableOf t slot).getD []
            let blocks := (List.range n).map (fun i => Grist.encode ((bs.drop (4096 * i)).take 4096) split slot table)
            let out := Grist.blob blocks
            let raw := (blocks.filter (fun b => b.mode == 0)).length
            u.withOutput o2 cls dst dsp out fun w =>
              w.finishAs { o2 with wrote := out } { dw1 := out.length % 2 ^ 32, dw23 := raw + (n - raw) * 2 ^ 32 }
          let deps := fun (u : State) (o2 : Op) (bs : List Byte) =>
            (u.inputHash o2 bs).await o2 cls ((dsp.map u.writeDeps).getD []) (fun _ st => u.failRun o2 st 0) (fun v o3 => run v o3 bs)
          if port then
            let q := (s1.part o1.partner).dp
            if q.buf.length < len then s1.setBegun o1.id else deps s1 o1 q.buf
          else
            s1.withPlace o1 cls 0 (placeAt a src len) (fun u o2 _ st => u.failRun o2 st 0) deps

/-! ### TABLE_LOAD and TABLE_RETIRE -/

/-- TABLE_LOAD: R151 to R153, R156, R159. DESIGN CHOICE (log 17): ALIGN, then LEN_INVALID, then the access to the source, then TABLE_BUSY, are judged before the image is read. -/
def tableLoad (op : Nat) (s : State) : State :=
  s.onOp op fun o =>
    if o.opcode ≠ 0x50 then s else
    let t := s.opTenant o
    let slot := bits (o.dw 1) 7 0
    let src := o.q 2
    let len := (o.dw 4).toNat
    if len = 0 then s.finish o {}
    else if !(o.zero 1 31 8 && o.zeroFrom 5) ∨ slot < 16 then s.fail o .unsupported
    else if src % 64 ≠ 0 then s.fail o .align
    else if len ≠ 528 then s.fail o .lenInvalid
    else
      match s.addrRange o src false with
      | .inl st => s.fail o st
      | .inr a =>
        if pastEnd a src len then s.fail o .bounds
        else if (s.tableRec t slot).isSome then s.fail o .tableBusy
        else
          s.withPlace o o.runClass 0 (placeAt a src len) (fun u o1 _ st => u.fail o1 st) fun v o1 img =>
            let u := v.inputHash o1 img
            match firstOf [
              (!Grist.imageOk img, .gristCorrupt),
              (!Grist.tableValid (Grist.imageTable img), .unsupported),
              (decide (16384 ≤ u.grs.tables.length), .busy)] with
            | some st => u.fail o1 st
            | none =>
              let new : TableRec := ⟨t, slot, .loaded, img⟩
              let u1 := { u with grs := { u.grs with tables := u.grs.tables ++ [new] } }
              (u1.journalEntry (.table t slot)).finishAs o1 {}

/-- TABLE_RETIRE: R156, R159. -/
def tableRetire (op : Nat) (s : State) : State :=
  s.onOp op fun o =>
    if o.opcode ≠ 0x51 then s else
    let t := s.opTenant o
    let slot := bits (o.dw 1) 7 0
    if !(o.zero 1 31 8 && o.zeroFrom 2) ∨ slot < 16 then s.fail o .unsupported
    else
      match s.tableRec t slot with
      | none => s.fail o .tableMissing
      | some r =>
        let n := s.tableRefs t slot
        let mark := fun (x : TableRec) => if x = r then { x with st := .retiring } else x
        let s1 := { s with grs := { s.grs with tables := s.grs.tables.map mark } }
        s1.reapTables.finish o { dw1 := n }

/-- GRS_ROM_DATA_READ: R407; WORD adds 1, wrapping from 0x7F. -/
def grsRomDataRead (port : Nat) (ide : Option Nat) (s : State) : State :=
  if !(decide (port < Config.nPorts)) ∨ s.rst.stage ≠ .up then s
  else s.barGate port ide fun s =>
    let r := s.grs.romSel.get port 0
    let w := bits r 6 0
    let next := w32 (bits r 10 7 * 128 + (w + 1) % 128)
    { s with grs := { s.grs with romSel := s.grs.romSel.set port next } }.emit (.value (w32 (Grist.romWord (bits r 10 7) w)))

def execLoadGrist (op : Nat) (s : State) : Res := .next (loadGrist op s)
def execStoreGrist (op : Nat) (s : State) : Res := .next (storeGrist op s)
def execTableLoad (op : Nat) (s : State) : Res := .next (tableLoad op s)
def execTableRetire (op : Nat) (s : State) : Res := .next (tableRetire op s)
def execGrsRomDataRead (port : Nat) (ide : Option Nat) (s : State) : Res := .next (grsRomDataRead port ide s)

end Sys2Proof.Machine
end

