-- ==== Sys2Proof/Machine/Movers.lean ====
section
/-! DEFINITION. The near-memory opcodes COPY, FILL, COMPARE and REDUCE (07_movers_and_data_port.md R214 to R235) and the peer transfers (06_pool.md R206 to R209). -/

namespace Sys2Proof.Machine

/-! ### Operands (R219) -/

/-- An operand as a descriptor names it. -/
structure Named where
  space : Nat
  handle : Nat
  addr : Nat
  len : Nat
  write : Bool
  deriving DecidableEq, Repr

/-- What the checks of R235 rows 5 to 8 find of one operand. -/
structure Found where
  access : Bool := false
  gone : Bool := false
  ext : Option Status := none
  bounds : Bool := false
  /-- Its handle is not open: it names no range (row 5). -/
  nowhere : Bool := false
  place : Place
  deriving DecidableEq, Repr

/-- R219, R235: resolves an operand. -/
def State.find (s : State) (o : Op) (n : Named) : Found :=
  if n.space = 1 then
    match s.handleOf o n.handle with
    | none => { access := true, nowhere := true, place := .dma n.addr n.len }
    | some h =>
      let size := ((s.vers.get? h.ver).map (·.size)).getD 0
      { access := n.write && !h.writer, gone := (s.vers.get? h.ver).isNone || o.gone.contains h.ver, bounds := decide (size < n.addr + n.len)
        place := .dev (s.verSpan h.ver n.addr n.len) }
  else
    let found := s.locate o.partner n.addr
    { access := n.write && !o.begun && (match found with
        | some (r, _, _) => s.viewGuard r
        | none => false)
      ext := found.bind (fun f => f.2.1.refuses o f.1)
      bounds := pastEnd found n.addr n.len
      place := placeAt found n.addr n.len }

/-- R235 rows 5 to 8 over the operands of a descriptor. Row 7 names two statuses; where one operand is draining and the other's lease has expired, the first-listed operand's is reported (DESIGN CHOICE, log 1). -/
def foundStatus (fs : List Found) : Option Status :=
  firstOf ([(fs.any (·.access), .access), (fs.any (·.gone), .versionGone)]
    ++ (fs.filterMap (·.ext)).map (fun st => (true, st)) ++ [(fs.any (·.bounds), .bounds)])

/-- Runs `k` with the bytes of a mover's operand; a failure during the run is reported with the offset of its lowest line (R235). -/
def State.withOperand (s : State) (o : Op) (part : Nat) (p : Place) (k : State → Op → List Byte → State) : State :=
  s.withPlace o o.runClass part p (fun u o1 n st => u.failRun o1 st n) k

/-- Runs `k` with the bytes of two operands of a mover; the lowest failing line of both is reported (R235). -/
def State.withOperands (s : State) (o : Op) (a b : Nat × Place) (k : State → Op → List Byte → List Byte → State) : State :=
  s.withPlaces o o.runClass a b (fun u o1 n st => u.failRun o1 st n) k

/-- Writes a result to its place. -/
def State.putPlace (s : State) (o : Op) (cls : Nat) (p : Place) (bs : List Byte) (k : State → State) : State :=
  match p with
  | .dev sp =>
    let pages := s.writeDeps sp
    s.await o cls pages (fun pid st => s.failRun o st (s.lineOf sp pid)) (fun t o1 => t.withOutput o1 cls 0 (some sp) bs k)
  | .dma a _ => s.withOutput o cls a none bs k
  | .view _ _ _ _ => s.fail o .access

/-- Versions that some places lie in (R198). -/
def Place.vers (ps : List Place) : List Nat :=
  ps.filterMap (fun p => p.span.bind (fun sp => match sp.back with
    | .ver v => some v
    | .group _ => none))

/-- Marks an operation's checks as passed: its versions, its handles and its target. -/
def State.started (s : State) (o : Op) (ps : List Place) (target : Option Span) : State × Op :=
  let held := if o.begun then o.held else o.handleNames.filterMap (fun h => (s.handleOf o h).map (fun q => (h, q)))
  let o1 := { o with target := target, begun := true, vers := (Place.vers ps).eraseDups, held := held }
  (s.setOp o1, o1)

/-- SPACE and HANDLE of the SRC (or A) fields of DW1 (R223). -/
def Op.srcNamed (o : Op) (addr len : Nat) : Named := ⟨bits (o.dw 1) 27 26, bits (o.dw 1) 25 16, addr, len, false⟩
def Op.dstNamed (o : Op) (addr len : Nat) (write : Bool) : Named := ⟨bits (o.dw 1) 11 10, bits (o.dw 1) 9 0, addr, len, write⟩

/-- R219: a reserved SPACE code, or a HANDLE beside SPACE 0. -/
def Named.reserved (n : Named) : Bool := decide (1 < n.space) || (n.space == 0 && n.handle != 0)

/-! ### COPY, FILL, COMPARE -/

/-- COPY: R223, R224, R235. -/
def copy (op : Nat) (s : State) : State :=
  s.onOp op fun o =>
    if o.opcode ≠ 0x10 then s else
    let len := (o.dw 6).toNat
    let a := o.srcNamed (o.q 2) len
    let d := o.dstNamed (o.q 4) len true
    if len = 0 then s.finish o {}
    else if !(o.zero 1 31 28 && o.zero 1 15 12 && o.zeroFrom 7) || a.reserved || d.reserved then s.fail o .unsupported
    else
      let fa := s.find o a
      let fd := s.find o d
      if a.space = 0 ∧ d.space = 0 ∧ fa.place.isDma ∧ fd.place.isDma then s.fail o .unsupported
      else
        match foundStatus [fa, fd] with
        | some st => s.fail o st
        | none =>
          let (s1, o1) := s.started o [fa.place, fd.place] fd.place.span
          s1.withOperand o1 0 fa.place fun t o2 bs =>
            (t.inputHash o2 bs).putPlace o2 o2.runClass fd.place bs fun u => u.finishAs { o2 with wrote := bs } { dw1 := len }

/-- FILL: R223, R225, R235. -/
def fill (op : Nat) (s : State) : State :=
  s.onOp op fun o =>
    if o.opcode ≠ 0x11 then s else
    let len := (o.dw 6).toNat
    let d := o.dstNamed (o.q 2) len true
    if len = 0 then s.finish o {}
    else if !(o.zero 1 31 12 && o.zeroFrom 7) || d.reserved then s.fail o .unsupported
    else
      let fd := s.find o d
      match foundStatus [fd] with
      | some st => s.fail o st
      | none =>
        let (s1, o1) := s.started o [fd.place] fd.place.span
        let bs := (List.range len).map (fun i => BitVec.ofNat 8 (o.q 4 / 2 ^ (8 * (i % 8))))
        s1.putPlace o1 o1.runClass fd.place bs fun u => u.finishAs { o1 with wrote := bs } { dw1 := len }

/-- The lowest offset at which two byte lists differ. -/
def firstDiff (a b : List Byte) : Option Nat := (List.zip a b).zipIdx.findSome? (fun p => if p.1.1 = p.1.2 then none else some p.2)

/-- COMPARE in MODE 0, and the refusal of MODE 2 and 3: R226, R227, R235. DESIGN CHOICE (log 1): the fields of MODE 1 only are reserved here; a compare of LENGTH 0 reports 0 in DW2 and DW3, for which R267 and R227 fix no value. -/
def compare (op : Nat) (s : State) : State :=
  s.onOp op fun o =>
    let mode := bits (o.dw 1) 31 30
    if o.opcode ≠ 0x12 ∨ mode = 1 then s else
    let len := (o.dw 6).toNat
    let a := o.srcNamed (o.q 2) len
    let b := o.dstNamed (o.q 4) len false
    if len = 0 then s.finish o {}
    else if decide (1 < mode) || !(o.zero 1 29 28 && o.zero 1 15 12 && o.zeroFrom 7) || a.reserved || b.reserved then s.fail o .unsupported
    else
      let fa := s.find o a
      let fb := s.find o b
      match foundStatus [fa, fb] with
      | some st => s.fail o st
      | none =>
        let (s1, o1) := s.started o [fa.place, fb.place] none
        s1.withOperands o1 (0, fa.place) (1, fb.place) fun v o3 xs ys =>
            let u := v.inputHash o3 (xs ++ ys)
            match firstDiff xs ys with
            | some i => u.finishAs o3 { dw1 := 1, dw23 := i }
            | none => u.finishAs o3 { dw1 := 0, dw23 := 2 ^ 64 - 1 }

/-- COMPARE_AND_SWAP, MODE 1 of COMPARE: R226, R228, R235. -/
def compareAndSwap (op : Nat) (s : State) : State :=
  s.onOp op fun o =>
    if o.opcode ≠ 0x12 ∨ bits (o.dw 1) 31 30 ≠ 1 then s else
    let len := (o.dw 6).toNat
    let b := o.dstNamed (o.q 4) 8 true
    if len = 0 then s.finish o {}
    else if !(o.zero 1 29 12 && o.q 2 == 0 && o.dw 7 == 0 && o.zeroFrom 12) || b.reserved then s.fail o .unsupported
    else if o.q 4 % 8 ≠ 0 then s.fail o .align
    else if len ≠ 8 then s.fail o .lenInvalid
    else
      let fb := s.find o b
      match foundStatus [{ fb with access := fb.access || fb.place.isDma }] with
      | some st => s.fail o st
      | none =>
        let (s1, o1) := s.started o [fb.place] fb.place.span
        s1.withOperand o1 0 fb.place fun w o2 bs =>
          let t := w.inputHash o2 bs
          let v := leNat bs
          if v = o.q 8 then
            t.putPlace o2 o2.runClass fb.place (leBytes (o.q 10) 8) fun u =>
              u.finishAs { o2 with wrote := leBytes (o.q 10) 8 } { dw1 := 1, dw23 := v }
          else t.finishAs o2 { dw1 := 0, dw23 := v }

/-! ### REDUCE (R229 to R234) -/

/-- R230: a type code. -/
def typeOf (n : Nat) : Option Float.Fmt :=
  match n with
  | 0 => some .fp32
  | 1 => some .bf16
  | 2 => some .e4m3
  | 3 => some .e5m2
  | 4 => some .int32
  | _ => none

/-- R231: one element; none where an operand is NaN. -/
def floatElement (op : Nat) (a b : Float.F32) (df sf : Float.Fmt) (d s : Nat) : Option Nat :=
  match Float.expand df d, Float.expand sf s with
  | some x, some y =>
    let r := match op with
      | 0 => Float.add x y
      | 1 => Float.max x y
      | 2 => Float.min x y
      | _ => Float.add (Float.mul a x) (Float.mul b y)
    some (Float.narrow df r)
  | _, _ => none

/-- R232: saturation to INT32. -/
def satInt (v : Int) : Int := max (-2147483648) (min v 2147483647)

def int32 (n : Nat) : Int := (BitVec.ofNat 32 n).toInt

def intElement (op : Nat) (a b : Int) (d s : Nat) : Nat :=
  let x := int32 d
  let y := int32 s
  let r := match op with
    | 0 => satInt (x + y)
    | 1 => max x y
    | 2 => min x y
    | _ => satInt (a * x + b * y)
  (BitVec.ofInt 32 r).toNat

/-- Groups of 1,024 elements, the last padded with `pad` (R233). -/
def groups {α : Type} (pad : α) (l : List α) : List (List α) :=
  (List.range (ceilDiv l.length 1024)).map fun i =>
    let g := (l.drop (1024 * i)).take 1024
    g ++ List.replicate (1024 - g.length) pad

/-- A pairwise tree of at most 2^n elements. -/
def foldPairs {α : Type} (f : α → α → α) (d : α) : Nat → List α → α
  | 0, l => l.headD d
  | n + 1, l => foldPairs f d n (level l)
where
  level : List α → List α
    | a :: b :: t => f a b :: level t
    | l => l

/-- R233. -/
def collapseWith {α : Type} (f : α → α → α) (id : α) (l : List α) : α :=
  match (groups id l).map (foldPairs f id 10) with
  | [] => id
  | a :: t => t.foldl f a

/-- R233 for floats: the NaN count and the result. -/
def collapseFloat (op : Nat) (f : Float.Fmt) (ns : List Nat) : Nat × Nat :=
  let id : Float.F32 := if op = 0 then 0x80000000 else if op = 1 then Float.negMaxFinite else Float.maxFinite
  let fn := if op = 0 then Float.add else if op = 1 then Float.max else Float.min
  let es := ns.map (Float.expand f)
  ((es.filter (·.isNone)).length, (collapseWith fn id (es.map (·.getD id))).toNat)

/-- R233 for INT32. -/
def collapseInt (op : Nat) (ns : List Nat) : Nat :=
  let xs := ns.map int32
  let r := if op = 0 then xs.sum
    else if op = 1 then collapseWith max (-2147483648) xs else collapseWith min 2147483647 xs
  (BitVec.ofInt 64 r).toNat

/-- The ranges overlap without being equal (R230). -/
def overlaps (p q : Place) : Bool :=
  match p, q with
  | .view d _ a n, .view e _ b m => d.born == e.born && decide (a < b + m) && decide (b < a + n) && !(a == b && n == m)
  | .dev x, .dev y => x.back == y.back && decide (x.off < y.off + y.len) && decide (y.off < x.off + x.len) && !(x.off == y.off && x.len == y.len)
  | .dma a n, .dma b m => decide (a < b + m) && decide (b < a + n) && !(a == b && n == m)
  | _, _ => false

/-- A or B of SCALE_ADD is NaN, infinite or subnormal (R230). -/
def badScale (w : Word) : Bool := bits w 30 23 == 255 || Float.subnormal .fp32 w.toNat

/-- REDUCE: R229 to R235. DESIGN CHOICE (log 1): the fields of SCALE_ADD only are reserved in the other functions. -/
def reduce (op : Nat) (s : State) : State :=
  s.onOp op fun o =>
    if o.opcode ≠ 0x13 then s else
    let len := (o.dw 6).toNat
    let d7 := o.dw 7
    let coll := bit d7 19
    let fn := bits d7 18 16
    let cls := o.runClass
    if len = 0 then s.finish o {}
    else
      match typeOf (bits d7 10 8), typeOf (bits d7 2 0) with
      | none, _ => s.fail o .unsupported
      | _, none => s.fail o .unsupported
      | some sf, some df =>
        let float := sf != .int32
        let n := len / (if coll then sf.size else df.size)
        let a := o.srcNamed (o.q 2) (n * sf.size)
        let d := o.dstNamed (o.q 4) len true
        let fa := s.find o a
        let fd := s.find o d
        let reserved := !(o.zero 1 31 28 && o.zero 1 15 12 && o.zero 7 31 20 && o.zero 7 15 11 && o.zero 7 7 3 && o.zeroFrom 10)
          || a.reserved || (if coll then !(o.zero 1 11 0 && o.q 4 == 0 && o.zero 7 2 0) else d.reserved)
          || (fn != 3 && !(o.dw 8 == 0 && o.dw 9 == 0))
        let refused := decide (3 < fn) || (coll && fn == 3) || (!coll && (float != (df != .int32)))
          || (fn == 3 && float && (badScale (o.dw 8) || badScale (o.dw 9))) || (!coll && !fa.nowhere && !fd.nowhere && overlaps fa.place fd.place)
        if reserved || refused then s.fail o .unsupported
        else if o.q 2 % sf.size ≠ 0 ∨ (!coll ∧ o.q 4 % df.size ≠ 0) then s.fail o .align
        else if len % (if coll then sf.size else df.size) ≠ 0 then s.fail o .lenInvalid
        else
          match foundStatus (if coll then [fa] else [fa, fd]) with
          | some st => s.fail o st
          | none =>
            if coll then
              let (s1, o1) := s.started o [fa.place] none
              s1.withOperand o1 0 fa.place fun t o2 bs =>
                let t1 := t.inputHash o2 bs
                if float then
                  let (nan, r) := collapseFloat fn sf (elems sf bs)
                  t1.finishAs o2 { dw1 := sat32 nan, dw23 := r }
                else t1.finishAs o2 { dw23 := collapseInt fn (elems sf bs) }
            else
              let (s1, o1) := s.started o [fd.place, fa.place] fd.place.span
              s1.withOperands o1 (1, fd.place) (0, fa.place) fun u o3 ds ss =>
                  let u1 := u.inputHash o3 (ds ++ ss)
                  let pairs := List.zip (elems df ds) (elems sf ss)
                  if float then
                    let rs := pairs.map (fun p => floatElement fn (o.dw 8) (o.dw 9) df sf p.1 p.2)
                    let out := rs.flatMap (fun r => leBytes (r.getD (Float.canonicalNan df)) df.size)
                    u1.putPlace o3 cls fd.place out fun v =>
                      v.finishAs { o3 with wrote := out } { dw1 := sat32 (rs.filter (·.isNone)).length }
                  else
                    let out := pairs.flatMap (fun p => leBytes (intElement fn (o.dw 8).toInt (o.dw 9).toInt p.1 p.2) 4)
                    u1.putPlace o3 cls fd.place out fun v => v.finishAs { o3 with wrote := out } {}

/-! ### Peer transfers (R206 to R209) -/

/-- R207: the remote grant of a tenant that holds the start of a remote range with a right. -/
def State.remoteGrantAt (s : State) (member addr tenant right : Nat) : Option RemoteGrant :=
  (s.pool.grants.find? (fun g => g.2.member == member && g.2.tenant == tenant && decide (g.2.base ≤ addr)
    && decide (addr < g.2.base + g.2.length) && bitN g.2.rights right)).map (·.2)

/-- R209 row 5: the member's port and PBR ID, and the bytes of the remote grant from REMOTE_ADDR on; none where the member or the grant is absent. -/
def State.lentTo (s : State) (o : Op) : Option (Nat × Nat × Nat) :=
  let member := bits (o.dw 1) 14 0
  let self := match s.pool.ns with
    | some (_, id) => id == member
    | none => false
  match (if self then none else s.pool.members.get? member), s.remoteGrantAt member (o.q 2) (s.opTenant o) (if o.opcode = 0x61 then 1 else 0) with
  | some m, some g => some (m.port, m.pbr, g.base + g.length - o.q 2)
  | _, _ => none

/-- The checks of R209 rows 1 to 7; `k` runs with the local range, which PEER_WRITE may read through a view; the operation then names the member's port and PBR ID. An operation that has started completes whatever becomes of the member, the grant or the extent (R182, R206, R207). -/
def State.peerCheck (s : State) (o : Op) (k : State → Op → Nat → Place → State) : State :=
  let len := (o.dw 6).toNat
  if len = 0 then s.finish o {}
  else if !(o.zero 1 31 15 && o.zeroFrom 7) then s.fail o .unsupported
  else if o.q 2 % 64 ≠ 0 ∨ o.q 4 % 64 ≠ 0 then s.fail o .align
  else if len % 64 ≠ 0 then s.fail o .lenInvalid
  else
    match (match o.lent with
      | some l => some l
      | none => s.lentTo o), s.locate o.partner (o.q 4) with
    | some (port, pbr, n), some (r, e, off) =>
      if !o.begun ∧ o.opcode = 0x60 ∧ s.viewGuard r then s.fail o .access
      else
        match e.refuses o r with
        | some st => s.fail o st
        | none =>
          if n < len ∨ e.granules * Config.granuleBytes < off + len then s.fail o .bounds
          else k s { o with port := port, peer := some pbr, lent := some (port, pbr, n) } len (placeAt (some (r, e, off)) (o.q 4) len)
    | _, _ => s.fail o .access

/-- PEER_READ: R208, R209. The member's answer comes as DMA_COMPLETION on the port that reaches it. -/
def peerRead (op : Nat) (s : State) : State :=
  s.onOp op fun o =>
    if o.opcode ≠ 0x60 then s else
    s.peerCheck o fun s o len local' =>
      let (s1, o1) := s.started o [] local'.span
      s1.needDma o1 [(0, o.q 2, len)] (fun t o2 => match o2.partBad 0 (o.q 2) with
        | some (i, st) => t.failRun o2 st i
        | none => (t.inputHash o2 (o2.part 0)).putPlace o2 o2.runClass local' (o2.part 0) fun u => u.finishAs { o2 with wrote := o2.part 0 } { dw1 := len }) o.peer

/-- PEER_WRITE: R208, R209. The writes leave by the port that reaches the member; they are Unordered IO, whose answers come as DMA_COMPLETION. -/
def peerWrite (op : Nat) (s : State) : State :=
  s.onOp op fun o =>
    if o.opcode ≠ 0x61 then s else
    s.peerCheck o fun s o len local' =>
      let acks := o.reads.filter (fun r => r.part == 1)
      if !acks.isEmpty then
        (if acks.all (fun r => decide (r.len ≤ r.got.length)) then
          match o.partBad 1 (o.q 2) with
          | some (i, st) => s.failRun o st i
          | none => s.finishAs o { dw1 := len }
        else s)
      else
        let (s1, o1) := s.started o [] none
        s1.withOperand o1 0 local' fun t o2 bs =>
          if !t.mayRequest o2.port then t.failRun o2 .halted 0
          else
            let t := t.inputHash o2 bs
            let attr : ReqAttr := { cls := o2.runClass, relaxed := (t.port o2.port).relaxed, member := o2.peer }
            let t1 := t.dmaOut attr o2.port (o.q 2) bs
            -- one acknowledgement of one byte a request
            let reqs := (splitReq (t.port o2.port).mps (len + 1) (o.q 2) len).map
              (fun q => ({ port := o2.port, attr := attr, tag := none, addr := q.1, len := 1, part := 1, ack := true } : DmaRead))
            (t1.setOp { o2 with reads := reqs, wrote := bs }).issueReads o2.port

def execCopy (op : Nat) (s : State) : Res := .next (copy op s)
def execFill (op : Nat) (s : State) : Res := .next (fill op s)
def execCompare (op : Nat) (s : State) : Res := .next (compare op s)
def execCompareAndSwap (op : Nat) (s : State) : Res := .next (compareAndSwap op s)
def execReduce (op : Nat) (s : State) : Res := .next (reduce op s)
def execPeerRead (op : Nat) (s : State) : Res := .next (peerRead op s)
def execPeerWrite (op : Nat) (s : State) : Res := .next (peerWrite op s)

end Sys2Proof.Machine
end

