-- ==== Sys2Proof/Machine/DataPort.lean ====
section
/-! DEFINITION. The data port (07_movers_and_data_port.md R238 to R244) and the write-combining buffers (06_pool.md R191). -/

namespace Sys2Proof.Machine

/-- R242: the status with which a cause ends the session. -/
def causeStatus (c : Nat) : Status :=
  match c with
  | 1 => .align
  | 2 => .align
  | 3 => .bounds
  | 4 => .bounds
  | 5 => .access
  | _ => .deadline

/-- The target of a memory session. -/
def State.sessionPlace (s : State) (q : Session) : Option Place :=
  match s.op? q.op with
  | none => none
  | some o =>
    if q.stream then none
    else some (s.find o ⟨bits (o.dw 1) 11 10, bits (o.dw 1) 9 0, o.q 2, q.len, !q.dir⟩).place

/-- The pieces of a range, from its start, whose pages can be read now and whose tiles pass R172. -/
def State.readyPieces (s : State) (o : Op) (sp : Span) : List (Nat × Nat × Nat) :=
  (chunks sp.off sp.len).takeWhile (fun c => match s.pageAt sp.back c.1 with
    | some pid => s.ready o pid && (s.troubleOf o pid).isNone && (s.pieceWrong sp c).isNone
    | none => true)

/-- R171, R220: why the first page beyond what is ready can never be read, or a tile of a view that a read needs. -/
def State.sessionTrouble (s : State) (q : Session) (r : WindowRead) : Option Status :=
  match s.op? q.op, s.sessionPlace q with
  | some o, some (.dev sp) =>
    ((chunks sp.off sp.len).find? (fun c => decide (sp.off + q.done < c.1 * 65536 + c.2.1 + c.2.2))).bind fun c =>
      (s.pageAt sp.back c.1).bind fun pid => match s.troubleOf o pid with
        | some st => some st
        | none => if s.ready o pid && (s.pieceWrong sp c).isSome then some .integrity else none
  | some o, some (.view e v off _) =>
    if q.done = q.len then (lowestFailing (s.viewTiles (s.troubleOf o) (fun _ => none) e v (off + r.off) r.len)).map (·.2) else none
  | _, _ => none

/-- Brings DONE of an outbound memory session up to the bytes ready to read, whose steep reads are asked for (R236, R313), and demands the next page. -/
def State.readySession (s : State) (partner : Nat) : State :=
  let q := (s.part partner).dp
  if !q.dir then s
  else match s.op? q.op, s.sessionPlace q with
  | some o, some (.dev sp) =>
    let here := s.readyPieces o sp
    let (s0, o0) := s.touchAll o (here.filterMap (fun c => (s.pageAt sp.back c.1).map (fun pid => (pid, lineCount c.2.1 c.2.2))))
    let s1 := s0.setSession partner { q with done := max q.done ((here.map (·.2.2)).sum) }
    match (chunks sp.off sp.len).findSome? (fun c => (s1.pageAt sp.back c.1).filter (fun pid => !s1.ready o0 pid)) with
    | some pid => if o0.waits.contains pid ∨ (s1.troubleOf o0 pid).isSome then s1 else s1.waitFor o0.id o0.runClass pid
    | none => s1
  | some o, some (.view _ v off len) =>
    let asks := s.viewAsks v off len (fun _ => none)
    match asks.find? (fun a => !s.ready o a.1 && (s.troubleOf o a.1).isNone) with
    | some a => if o.waits.contains a.1 then s else s.waitFor o.id o.runClass a.1
    | none => (s.touchAll o asks).1.setSession partner { q with done := q.len }
  | _, _ => s

/-- Bytes [a, a + n) of an outbound session. -/
def State.outBytes (s : State) (q : Session) (a n : Nat) : List Byte :=
  match s.op? q.op, s.sessionPlace q with
  | some _, some (.dev sp) => s.spanBytes { sp with off := sp.off + a, len := n }
  | some o, some (.view e v off _) => viewOf (s.viewTiles (s.troubleOf o) (fun _ => none) e v (off + a) n) (off + a) n
  | _, _ => (q.buf.drop a).take n

/-- Serves the waiting reads of a session whose data is ready (R243): the bytes that it has read are its journal's input (R400); an outbound session whose last byte has left ends DONE. -/
def State.serveWindow (s : State) (partner : Nat) : State :=
  let s0 := s.readySession partner
  let q := (s0.part partner).dp
  match q.waiting with
  | [] => s0
  | r :: _ =>
    match (if q.done < r.off + r.len ∨ q.done = q.len then s0.sessionTrouble q r else none) with
    | some st => s0.endSession partner st 0
    | none =>
      let s1 := s0.serveReads partner (s0.outBytes q)
      let q1 := (s1.part partner).dp
      let s1 := match s1.op? q.op with
        | some o => if q1.stream ∨ q1.pos = q.pos then s1 else s1.inputHash o (s1.outBytes q1 0 q1.pos)
        | none => s1
      if q1.active ∧ q1.pos = q1.len ∧ !q1.stream then s1.endSession partner .done 0 else s1

/-- PORT_SESSION: R239, checks in the order of R235. DESIGN CHOICE (log 13): BUSY is judged after all of them, so LENGTH 0 completes DONE beside an active session. -/
def portSession (op : Nat) (s : State) : State :=
  s.onOp op fun o =>
    if o.opcode ≠ 0x70 then s else
    let q := (s.part o.partner).dp
    let len := (o.dw 4).toNat
    let dir := bit (o.dw 1) 13
    let stream := bit (o.dw 1) 12
    let d : Named := ⟨bits (o.dw 1) 11 10, bits (o.dw 1) 9 0, o.q 2, len, !dir⟩
    if q.active && q.op == o.id then s.serveWindow o.partner
    else if len = 0 then s.finish o {}
    else if !(o.zero 1 31 14 && o.zeroFrom 5) || (if stream then !(o.zero 1 11 0 && o.q 2 == 0) else d.reserved) then s.fail o .unsupported
    else
      let f := s.find o d
      if !stream ∧ d.space = 0 ∧ f.place.isDma then s.fail o .unsupported
      else if !stream ∧ o.q 2 % 64 ≠ 0 then s.fail o .align
      else if len % 4 ≠ 0 then s.fail o .lenInvalid
      else
        match (if stream then none else foundStatus [f]) with
        | some st => s.fail o st
        | none =>
          if q.active then s.fail o .busy
          else
            let (s1, o1) := s.started o (if stream then [] else [f.place]) (if stream ∨ dir then none else f.place.span)
            (s1.setSession o1.partner { active := true, dir := dir, stream := stream, len := len, op := o1.id
                                        lastAccess := s1.tim.clock, reject := q.reject }).readySession o1.partner

/-- R238, R244, R361: the access reaches no session; it is counted. -/
def State.rejectWindow (s : State) (partner : Nat) : State :=
  let q := (s.part partner).dp
  s.setSession partner { q with reject := inc32 q.reject }

/-- The access reaches the partner's session. -/
def State.windowOpen (s : State) (port partner : Nat) : Bool :=
  let p := s.part partner
  p.tenant.isSome && p.port == port && p.dp.active && s.pwr.state != .parked && s.pwr.state != .leaving && !s.pwr.drained && s.serving

/-- R241, R242: the cause that a window access breaks, in the order of R242's values. DESIGN CHOICE (log 13): an access of more than 4 KiB, which has no cause of its own, takes cause 0x02. -/
def windowCause (q : Session) (write : Bool) (offset len : Nat) (enables : Bool) : Option Nat :=
  if offset ≠ 0x20000 + q.pos % 131072 then some 1
  else if !enables ∨ len % 4 ≠ 0 ∨ 4096 < len then some 2
  else if 0x40000 < offset + len ∨ q.len < q.pos + len then some 3
  else if write ∧ q.done + 131072 < q.pos + len then some 4
  else if write = q.dir then some 5 else none

/-- R240: the byte count of a consumer. -/
def Op.streamCount (o : Op) : Nat := if o.opcode = 0x14 then (o.dw 5).toNat else (o.dw 4).toNat

/-- R240: the session's consumer takes its bytes: one whose count differs from LENGTH takes none. -/
def State.consumes (s : State) (q : Session) : Bool :=
  match q.consumer.bind s.op? with
  | some c => c.streamCount == q.len
  | none => false

/-- Writes buffered bytes of an inbound session to its target or gives them to its stream; DONE advances; the session ends once all is visible (R244). A copy still to be made holds the bytes back, and those behind them. -/
def State.drainOne (s : State) (port : Nat) (l : Nat × Nat × List Byte) : State :=
  let partner := l.1
  let q := (s.part partner).dp
  let gone := s.setPort port { s.port port with wcb := (s.port port).wcb.filter (· != l) }
  if !q.active then gone
  else if (s.port port).wcb.find? (fun x => x.1 == partner) ≠ some l then s
  else if q.stream then
    let buf := q.buf ++ l.2.2
    gone.setSession partner { q with buf := buf, done := if s.consumes q then buf.length else q.done }
  else
    match s.op? q.op, s.sessionPlace q with
    | some o, some (.dev sp) =>
      let sp := { sp with off := sp.off + l.2.1, len := l.2.2.length }
      let deps := (s.writeDeps sp).map (·.1)
      match deps.findSome? (s.troubleOf o) with
      | some st => gone.endSession partner st 0
      | none =>
        if !s.roomFor sp then gone.endSession partner .busy 0
        else if !(deps.all (s.ready o)) then (deps.filter (fun p => !o.waits.contains p && !s.ready o p)).foldl (fun t p => t.waitFor o.id o.runClass p) s
        else
          match (gone.haveRoom o).putOne o o.runClass ⟨0, some sp, l.2.2⟩ with
          | .inr (some t) =>
            let u := match t.op? q.op with
              | some x => t.setOp { x with wrote := x.wrote ++ l.2.2 }
              | none => t
            let t1 := u.setSession partner { (u.part partner).dp with done := q.done + l.2.2.length }
            if q.done + l.2.2.length = q.len then t1.endSession partner .done 0 else t1
          | .inr none => s.awaitRoom o (s.framesWanted sp)
          | .inl st => gone.endSession partner st 0
    | _, _ => gone

/-- Drains every buffered line of a port, oldest first (R191). -/
def State.drainPort (s : State) (port : Nat) : State := (s.port port).wcb.foldl (fun t l => t.drainOne port l) s

/-- R244: the control page of an aperture: PORT_DP_STATUS, POS, DONE, LEN and REJECT_CNT; every other byte below the window reads 0 (R238). -/
def Session.page (q : Session) : List Byte :=
  wordBytes [b2n q.active * 2 ^ 31 + b2n q.dir * 2 ^ 30 + b2n q.stream * 2 ^ 29 + q.errCause * 2 ^ 17 + q.pos % 131072, q.pos, q.done, q.len, q.reject]

/-- R238: the function is the one to which the aperture's partner is bound. -/
def State.apertureOf (s : State) (port partner : Nat) : Bool := (s.part partner).tenant.isSome && (s.part partner).port == port

/-- Judges an access to an aperture (R238, R282, R285, R310): `window` runs for an access to the data window of the partner's session, `control` for one below the window, `none'` for one that reaches no session, which is counted, and for one before READY, which is not. -/
def State.aperture (s : State) (port partner offset : Nat) (ide : Option Nat) (window control none' : State → State) : State :=
  if !(decide (port < Config.nPorts)) || !(decide (partner < Config.nPartners)) then s
  else match s.rst.stage with
  | .bringup _ => if s.linkUp port then s.ideGate port ide none' else s
  | .off | .held | .recovery => s
  | .up => s.barGate port ide fun s =>
    if !s.apertureOf port partner then none' (s.rejectWindow partner)
    else if offset < 0x20000 then control s
    else if !s.windowOpen port partner then none' (s.rejectWindow partner)
    else window s.awaken

/-- DATA_WINDOW_WRITE: R191, R238, R241, R242. Buffers of 64 lines a port. -/
def dataWindowWrite (port partner offset : Nat) (data : List Byte) (enables : Bool) (ide : Option Nat) (s : State) : State :=
  s.aperture port partner offset ide (fun s =>
    let q := (s.part partner).dp
    match windowCause q true offset data.length enables with
    | some c => s.endSession partner (causeStatus c) c
    | none =>
      let s1 := s.setSession partner { q with pos := q.pos + data.length, lastAccess := s.tim.clock }
      let p := s1.port port
      let s2 := s1.setPort port { p with wcb := p.wcb ++ [(partner, q.pos, data)] }
      if 64 < (((s2.port port).wcb.map (fun l => ceilDiv l.2.2.length 64)).sum) then s2.drainPort port else s2)
    id id

/-- DATA_WINDOW_READ: R238, R241 to R244. -/
def dataWindowRead (port partner offset len : Nat) (enables : Bool) (ide : Option Nat) (s : State) : State :=
  let zeros := fun (t : State) => t.emit (.windowData partner (List.replicate len 0))
  s.aperture port partner offset ide (fun s =>
    let q := (s.part partner).dp
    match windowCause q false offset len enables with
    | some c => zeros (s.endSession partner (causeStatus c) c)
    | none => (s.setSession partner { q with waiting := q.waiting ++ [⟨q.pos, len, s.tim.clock⟩], lastAccess := s.tim.clock }).serveWindow partner)
    (fun s =>
      let bs := ((s.part partner).dp.page.drop offset).take len
      s.emit (.windowData partner (bs ++ List.replicate (len - bs.length) 0)))
    zeros

/-- DATA_WINDOW_READ_TIMEOUT: R243, counted in KLN_POISON_CNT (R129), of the read that has waited longest. Data that is ready in the same cycle wins (R383). -/
def dataWindowReadTimeout (partner : Nat) (s : State) : State :=
  match (s.part partner).dp.waiting with
  | [] => s
  | r :: _ =>
    let s1 := (s.expire (r.arrival + 2000000)).serveWindow partner
    let q := (s1.part partner).dp
    match q.waiting with
    | x :: rest => if x = r then (s1.setSession partner { q with waiting := rest }).poisonWindow partner else s1
    | [] => s1

/-- SESSION_IDLE_TIMEOUT: R242. -/
def sessionIdleTimeout (partner : Nat) (s : State) : State :=
  let q := (s.part partner).dp
  if !q.active then s
  else (s.expire (q.lastAccess + 1000000000)).endSession partner .deadline 6

/-- WRITE_COMBINE_DRAIN: R191. -/
def writeCombineDrain (port : Nat) (s : State) : State := s.drainPort port

def execPortSession (op : Nat) (s : State) : Res := .next (portSession op s)
def execDataWindowWrite (port partner offset : Nat) (data : List Byte) (enables : Bool) (ide : Option Nat) (s : State) : Res :=
  .next (dataWindowWrite port partner offset data enables ide s)
def execDataWindowRead (port partner offset len : Nat) (enables : Bool) (ide : Option Nat) (s : State) : Res :=
  .next (dataWindowRead port partner offset len enables ide s)
def execDataWindowReadTimeout (partner : Nat) (s : State) : Res := .next (dataWindowReadTimeout partner s)
def execSessionIdleTimeout (partner : Nat) (s : State) : Res := .next (sessionIdleTimeout partner s)
def execWriteCombineDrain (port : Nat) (s : State) : Res := .next (writeCombineDrain port s)

end Sys2Proof.Machine
end

