-- ==== Sys2Proof/Machine/Rings.lean ====
section
/-! DEFINITION. Rings, doorbells and completions (08_rings_and_completions.md R245 to R275): fetch and start of descriptors, completion records, and the ring commands. -/

namespace Sys2Proof.Machine

def Ring.size (r : Ring) : Nat := 2 ^ r.sizeLog2
def Ring.base (r : Ring) : Nat := pair64 r.baseLo r.baseHi

/-- The partner's descriptors in flight (INFLIGHT of R255). The entry of a mailbox call is none of them: it counts neither in INFLIGHT or MAX_OPS nor among those that R251 has the partner hold (DESIGN CHOICE, log 14). -/
def State.descOpsOf (s : State) (partner : Nat) : List Op := s.ops.filter (fun o => o.mailbox.isNone && o.partner == partner)

/-- BUSY of a submission ring (RING_STATUS). -/
def State.ringBusy (s : State) (partner r : Nat) : Bool := (s.descOpsOf partner).any (fun o => o.ring == r)

/-- R255: MAX_OPS, 0 acting as 1 and values above 1,018 as 1,018. -/
def Partner.opLimit (q : Partner) : Nat := max 1 (min q.maxOps 1018)

/-- R255: every fetch condition, but for the descriptor's bytes; a port or a hub staging unit that was asked to go idle fetches none (R374). -/
def State.fetchReady (s : State) (partner r : Nat) : Bool :=
  let q := s.part partner
  let sq := q.ring r
  let cq := q.ring 4
  let n := (s.descOpsOf partner).length
  s.serving && decide (r < 4) && decide (partner < Config.nPartners) && q.tenant.isSome && decide (q.port < Config.nPorts)
    && s.pwr.state != .parked && s.pwr.state != .leaving && !s.askedIdle (.port q.port) && !s.askedIdle (.staging (hubOf q.port))
    && sq.enable && !sq.err && s.mayRequest q.port && sq.head != sq.tail
    && cq.enable && !cq.err && !cq.disabling
    && decide ((cq.tail + cq.size - cq.head) % cq.size + n < cq.size - 1)
    && decide (n < q.opLimit)
    && decide ((s.ops.filter (fun o => o.mailbox.isNone && hubOf (s.part o.partner).port == hubOf q.port)).length < Config.descOps)

/-- R264. -/
def knownOpcode (c : Nat) : Bool :=
  [0x01, 0x02, 0x10, 0x11, 0x12, 0x13, 0x14, 0x15, 0x20, 0x21, 0x22, 0x23, 0x30, 0x31, 0x32, 0x40, 0x41, 0x42, 0x43, 0x44, 0x45, 0x46,
    0x50, 0x51, 0x60, 0x61, 0x70, 0x7E].contains c

/-- FENCE is set, or the opcode acts as if it were (R257, R265). -/
def Op.fence (o : Op) : Bool := bit (o.dw 0) 11 || o.opcode == 0x01

/-- R257: the operation may start: a fenced one once every earlier descriptor of its ring has its record, a NOP_FENCE with ALL_RINGS once those of the partner's other rings have theirs too (R265), another once none before it waits. -/
def State.mayStart (s : State) (o : Op) : Bool :=
  let earlier := (s.descOpsOf o.partner).filter (fun p => p.ring == o.ring && decide (p.id < o.id))
  let all := o.opcode == 0x01 && bit (o.dw 1) 0
  if o.fence then earlier.isEmpty && !(all && (s.descOpsOf o.partner).any (fun p => p.ring != o.ring && decide (p.id < o.id)))
  else !(earlier.any (fun p => p.phase == .fenced))

/-- R263: the header checks, then the descriptor runs, or is judged as a slot call. What it names is taken as it stands now: its handles, commits of their versions (R198), the member and grant of a peer transfer (R206, R207). -/
def State.startOp (s : State) (o : Op) : State :=
  if !knownOpcode o.opcode then s.fail o .opcode
  else if !o.zero 0 15 13 then s.fail o .unsupported
  else
    let o1 := { o with
      phase := .running, gone := s.takenVersions o.id
      held := o.handleNames.filterMap (fun h => (s.handle o.partner h).map (fun q => (h, q)))
      lent := if o.opcode = 0x60 ∨ o.opcode = 0x61 then s.lentTo o else none }
    if o.isSlotCall then (s.setOp o1).slotArrive o1 else s.setOp o1

/-- R240: the descriptor uses the data port, and in which direction (true: outbound). -/
def Op.streamDir (o : Op) : Option Bool :=
  match o.opcode with
  | 0x41 => if bit (o.dw 2) 31 then some false else none
  | 0x15 => if bit (o.dw 1) 31 then some false else none
  | 0x14 => if bit (o.dw 1) 31 then some true else none
  | _ => none

/-- R240: the next descriptor with SRC_PORT or DST_PORT becomes the consumer of a stream session of its direction; one whose count is LENGTH takes what is there. -/
def State.bindConsumer (s : State) (o : Op) : State :=
  let q := (s.part o.partner).dp
  match o.streamDir with
  | some d => if q.active ∧ q.stream ∧ q.dir = d ∧ q.consumer.isNone then
      s.setSession o.partner { q with consumer := some o.id, done := if d ∨ o.streamCount ≠ q.len then q.done else q.buf.length } else s
  | none => s

/-- R399: the DESC record of a fetched descriptor; a FREE slot has no writer version. The input hash follows when the operands are read. -/
def State.journalDesc (s : State) (o : Op) : State × Op :=
  let v := if o.isSlotCall ∧ (s.slot o.slotNo).bound then ((s.vers.get? (s.slot o.slotNo).ver).map (·.seq)).getD 0 else 0
  let body := leBytes s.tim.time.toNat 8 ++ leBytes 0 8 ++ leBytes (o.port * 2 ^ 24 + 4 * o.partner + o.ring) 4
    ++ leBytes (s.opTenant o) 2 ++ [0, 0] ++ leBytes v 8 ++ wordBytes (o.dws.map (·.toNat))
  let s1 := s.journal 0x01 body
  (s1, { o with jrn := s.journalIndex s1 })

/-- Address of the descriptor at a ring's head. -/
def Ring.headAddr (r : Ring) : Nat := r.base + 64 * r.head

/-- R259: the read of a descriptor failed. -/
def State.fetchFails (s : State) (partner r : Nat) : State := s.setRing partner r { s.ring partner r with err := true, errCause := 4 }

/-- R128, R295: the ring's next fetch waits, for one cause or one more. -/
def State.fetchWaits (s : State) (partner r : Nat) (c : StallCause) : State :=
  let q := s.ring partner r
  s.setRing partner r { q with waits := some (match q.waits with
    | some (d, since) => (d.first c, since)
    | none => (c, s.tim.clock)) }

/-- The wait of the ring's fetch, if it waited, is counted (R128). -/
def State.fetchGoes (s : State) (partner r : Nat) : State :=
  let q := s.ring partner r
  match q.waits with
  | some (c, since) => (s.stall c (s.tim.clock - since)).setRing partner r { q with waits := none }
  | none => s

/-- Words of 64 bytes. -/
def wordsOf (bs : List Byte) : List Word := (List.range 16).map (fun i => w32 (leNat ((bs.drop (4 * i)).take 4)))

/-- The 16 words at the ring's head: from the ring in an extent of the partner, whose pages must be at hand, or as the read of partner memory brought them. A read that the extent refuses (R181), or whose page or view tile can never be read or carries another tenant's tag (R343), fails (R259, log 12): it answers no words. None while the read waits. -/
def State.headWords (s : State) (partner r : Nat) (d : List Word) : Option (Option (List Word)) × State :=
  let found := s.locate partner (s.ring partner r).headAddr
  match found with
  | none => (if d.length = 16 then some (some d) else none, s.leaveL1 (s.part partner).port)
  | some (rec0, e, off) =>
    let asks := match e.view with
      | some v => s.viewAsks v off 64 (fun _ => none)
      | none => s.spanNeeds (extSpan rec0 e off 64)
    if e.refusal.isSome ∨ asks.any (fun a => (s.trouble a.1).isSome) then (some none, s)
    else
      match asks.filter (fun a => !(match s.pages.get? a.1 with
        | some p => s.atHand a.1 p
        | none => true)) with
      | [] =>
        let sp := extSpan rec0 e off 64
        let s0 := if e.view.isSome then s else (s.zeroPages sp).foldl (fun t i => t.bumpZero sp.back i) s
        let s1 := (asks.foldl (fun t a => t.touchRead a.1) s0).pageReqs .device (s.tenantMaster (((s.part partner).tenant).getD 0) 1) 1 false asks
        match e.view with
        | some v =>
          let ex := s.viewTiles s.trouble (fun _ => none) e v off 64
          (some (if (lowestFailing ex).isSome then none else some (wordsOf (viewOf ex off 64))), s1)
        | none => (some (if s.spanForeign sp then none else some (wordsOf (s.spanBytes sp))), s1)
      | away =>
        let kiln := away.any (fun a => match s.pages.get? a.1 with
          | some p => p.st == .kiln || p.st == .steeping
          | none => false)
        (none, away.foldl (fun t a => t.demand a.1 .demand 1) (s.fetchWaits partner r (if kiln then .kiln else .moveLock)))

/-- R295: a read of a ring in partner memory needs a free tag. -/
def State.fetchTag (s : State) (partner r : Nat) : Bool :=
  let port := (s.part partner).port
  (s.locate partner (s.ring partner r).headAddr).isSome
    || (s.port port).tagRange.any (fun g => !(s.tagsUsed port).contains g && ((s.port port).retired.get? g).isNone)

/-- R255: how many descriptors of a partner may still be fetched: records to write, MAX_OPS, entries of the hub die. -/
def State.fetchRoom (s : State) (partner : Nat) : Nat :=
  let q := s.part partner
  let cq := q.ring 4
  let n := (s.descOpsOf partner).length
  min (cq.size - 1 - ((cq.tail + cq.size - cq.head) % cq.size + n))
    (min (q.opLimit - n) (Config.descOps - (s.ops.filter (fun o => o.mailbox.isNone && hubOf (s.part o.partner).port == hubOf q.port)).length))

/-- R258: steps of the round robin from the last choice to a candidate, among n. -/
def stepsFrom (n last x : Nat) : Nat := (x + n - 1 - last % n) % n

/-- R258: the ring's turn in the round robin of its hub die: it goes on with the request that fetched last, or it comes first among the rings that could be fetched, by partner and then by ring. -/
def State.fetchTurn (s : State) (partner r : Nat) : Bool :=
  let hub := hubOf (s.part partner).port
  let t := s.turns.get hub {}
  let last := s.ringTurns.get partner 3
  (t.partner == partner && last == r && decide (0 < t.left) && t.head == (s.ring partner r).head)
    || (s.parts.all (fun e => hubOf e.2.port != hub
          || decide (stepsFrom Config.nPartners t.partner partner ≤ stepsFrom Config.nPartners t.partner e.1)
          || (List.range 4).all (fun k => !s.fetchReady e.1 k))
        && (List.range 4).all (fun k => decide (stepsFrom 4 last r ≤ stepsFrom 4 last k) || !s.fetchReady partner k))

/-- R296: descriptors that one request may bring: of partner memory no more than Max Read Request Size, and none past a 4 KiB boundary. -/
def State.requestLimit (s : State) (partner r : Nat) : Nat :=
  let a := (s.ring partner r).headAddr
  if (s.locate partner a).isSome then 8
  else max 1 (min 8 (min ((s.port (s.part partner).port).mrrs / 64) ((4096 - a % 4096) / 64)))

/-- R256, R258: the fetch uses up its turn; its request may bring up to eight descriptors, never past TAIL nor past what R255 and R296 allow. -/
def State.takeFetch (s : State) (partner r : Nat) : State :=
  let hub := hubOf (s.part partner).port
  let t := s.turns.get hub {}
  let q := s.ring partner r
  let goes := t.partner == partner && s.ringTurns.get partner 3 == r && decide (0 < t.left) && t.head == q.head
  let left := if goes then t.left - 1 else min (min (s.requestLimit partner r) ((q.tail + q.size - q.head) % q.size)) (s.fetchRoom partner) - 1
  { s with
    turns := s.turns.set hub { partner := partner, left := left, head := (q.head + 1) % q.size }
    ringTurns := s.ringTurns.set partner r }

/-- DESCRIPTOR_FETCH: R255 to R258, R263, R295; during PARKED entry the arrival completes BUSY (R140). -/
def descriptorFetch (partner r : Nat) (d : List Word) (s : State) : State :=
  if !s.fetchReady partner r || !s.fetchTurn partner r then s
  else if !s.fetchTag partner r then s.fetchWaits partner r .regulation
  else
    match s.headWords partner r d with
    | (none, s1) => s1
    | (some none, s1) => ((s1.fetchGoes partner r).takeFetch partner r).fetchFails partner r
    | (some (some ws), s0) =>
      let s1 := (s0.fetchGoes partner r).takeFetch partner r
      let q := s1.part partner
      let sq := q.ring r
      let s2 := s1.setRing partner r { sq with head := (sq.head + 1) % sq.size }
      let o : Op := { id := s2.opSeq, partner := partner, ring := r, port := q.port, dws := ws, irq := bit (ws.getD 0 0) 12
                      arrival := s2.tim.clock, phase := .fenced }
      let (s3, o1) := s2.journalDesc o
      let s4 := { s3 with ops := s3.ops ++ [o1], opSeq := s3.opSeq + 1 }
      if s.pwr.state = .entering then s4.fail o1 .busy
      else
        let s5 := s4.bindConsumer o1
        if s5.mayStart o1 then s5.startOp o1 else s5

/-- DESCRIPTOR_READ_FAILED: R253, R259, with the AER report of R304. -/
def descriptorReadFailed (partner r : Nat) (why : ReadFail) (s : State) : State :=
  if !s.fetchReady partner r || !s.fetchTurn partner r || !s.fetchTag partner r || (s.locate partner (s.ring partner r).headAddr).isSome then s
  else
    let s1 := ((s.fetchGoes partner r).takeFetch partner r).fetchFails partner r
    match why with
    | .poison => s1.aer (s.part partner).port .poisonedTlp
    | .timeout => s1.aer (s.part partner).port .completionTimeout
    | .ur => s1
    | .ca => s1

/-- Starts the descriptors that waited behind a fence, in fetch order. -/
def State.startFollowers (s : State) (partner r : Nat) : Nat → State
  | 0 => s
  | fuel + 1 =>
    match (s.descOpsOf partner).find? (fun o => o.ring == r && o.phase == .fenced && s.mayStart o) with
    | some o => (s.startOp o).startFollowers partner r fuel
    | none => s

/-- FENCE_RELEASE: R257. Those that wait behind the fence start with it; none once the flush has begun (R138). -/
def fenceRelease (op : Nat) (s : State) : State :=
  match s.op? op with
  | some o =>
    if o.phase = .fenced ∧ s.mayStart o ∧ s.rst.flush = .none then (s.startOp o).startFollowers o.partner o.ring s.ops.length else s
  | none => s

/-- NOP_FENCE: R191, R265. -/
def nopFence (op : Nat) (s : State) : State :=
  s.onOp op fun o =>
    if o.opcode ≠ 0x01 then s else
    if !(o.zero 1 31 1 && o.zeroFrom 2) then s.fail o .unsupported
    else if s.ports.any (fun p => p.2.wcb.any (fun l => l.1 == o.partner)) then s
    else s.finish o {}

/-- JOURNAL_MARK: R266. -/
def journalMark (op : Nat) (s : State) : State :=
  s.onOp op fun o =>
    if o.opcode ≠ 0x7E then s else
    if !o.zeroFrom 4 then s.fail o .unsupported
    else
      let s1 := s.journal 0x05 (leBytes (4 * o.partner + o.ring) 4 ++ leBytes (o.dw 1).toNat 4 ++ leBytes (o.q 2) 8 ++ leBytes s.tim.time.toNat 8)
      match s.journalIndex s1 with
      | some i => s1.finish o { dw1 := 1, dw23 := i }
      | none => s1.finish o {}

/-! ### Completion -/

/-- A descriptor that ends without a record (RING_NOREC_CNT). -/
def State.noRecord (s : State) (partner : Nat) : State :=
  let q := s.part partner
  s.setPart partner { q with norec := inc32 q.norec }

/-- R240: what a completing consumer does to its session: only a count that differs from LENGTH leaves it waiting for another. -/
def State.consumerDone (s : State) (o : Op) : State :=
  let q := (s.part o.partner).dp
  if q.active ∧ q.consumer = some o.id then
    if o.res.status = .done then s.endSession o.partner .done 0
    else if o.res.status = .lenInvalid ∧ o.streamCount ≠ q.len then s.setSession o.partner { q with consumer := none }
    else s.endSession o.partner .aborted 0
  else s

/-- The entry of a completed operation goes, with its table references (R155, R156) and its hold on dropped versions (R197, R198); `phase` is that of its record. -/
def State.retire (s : State) (o : Op) (phase : Bool := false) : State := ((((s.consumerDone o).dropOp o.id).reapVersions).reapTables).journalCompletion o phase

/-- R273: the record cannot be written: the completion ring is marked, which is level 2 (R390). -/
def State.recordFails (s : State) (o : Op) : State :=
  let cq := s.ring o.partner 4
  let s1 := (s.setRing o.partner 4 { cq with err := true, errCause := 5, recFail := true }).noRecord o.partner
  (s1.raiseN 0x0011 unitDevice 2 1 [o.partner, o.ring, o.tag] (s.opTenant o)).retire o

/-- R274: the interrupt of a record. -/
def State.recordIrq (s : State) (o : Op) : State :=
  let q := s.part o.partner
  let cq := q.ring 4
  if !o.irq || !cq.irqEn then s
  else if cq.coalUs = 0 then s.signal q.port cq.vector
  else if q.coalesce.isSome then s
  else s.setPart o.partner { q with coalesce := some (s.tim.clock + cq.coalUs * 1000) }

/-- R268, R270, R271: writes the record of a finished operation at the next index, then the interrupt. After a failed record write no more are written (R273); a bad RING_CQ_DB stops fetching alone (R254). One for which the pending-write table has no room waits (R124). -/
def State.writeRecordFor (s : State) (o : Op) : State :=
  let q := s.part o.partner
  let cq := q.ring 4
  let bytes := recordBytes o cq.phase
  let a := cq.base + 32 * cq.tail
  let next := (cq.tail + 1) % cq.size
  let moved := fun (t : State) => t.setRing o.partner 4 { cq with tail := next, phase := if next = 0 then !cq.phase else cq.phase }
  if cq.recFail || !cq.enable then (s.noRecord o.partner).retire o
  else
    match s.locate o.partner a with
    | some (r, e, off) =>
      let sp := extSpan r e off 32
      if e.refusal.isSome || s.viewGuard r || (s.spanPages sp).any (fun pid => (s.trouble pid).isSome) then s.recordFails o
      else if !s.spanRoom sp then s
      else
        let s1 := (moved s).writeSpan sp bytes 1
        ((s1.pageReqs .device (s1.tenantMaster e.tenant 1) 1 true (s1.spanAsks sp)).recordIrq o).retire o cq.phase
    | none =>
      if s.mayRequest q.port then (((moved s).send q.port (.record q.port o.partner a bytes)).recordIrq o).retire o cq.phase
      -- R276: held in completion order until Bus Master Enable is set
      else { s with ops := (s.ops.filter (fun p => p.id != o.id)) ++ [{ o with recordHeld := true }] }

/-- DESCRIPTOR_COMPLETE: R271; the operation has its result once its steep requests have their credits (R313), and a slot call completes after the earlier calls of its slot (R74). -/
def descriptorComplete (op : Nat) (s : State) : State :=
  match s.op? op with
  | some o => if o.phase = .finished ∧ o.mailbox.isNone ∧ !o.recordHeld ∧ s.turnFirst o then s.settled o (fun t o1 => t.writeRecordFor o1) else s
  | none => s

/-- RECORD_WRITE_FAILED: R273. -/
def recordWriteFailed (op : Nat) (s : State) : State :=
  match s.op? op with
  | some o => if o.phase = .finished ∧ o.mailbox.isNone then s.recordFails o else s
  | none => s

/-! ### Doorbells and ring control -/

/-- R247, R249, R277, R300: a doorbell that is ignored and counted. -/
def State.dropDoorbell (s : State) (partner : Nat) : State :=
  let q := s.part partner
  s.setPart partner { q with dbDrops := inc32 q.dbDrops }

/-- Judges an access to a partner's pages (R247, R282, R285, R310): `k` runs when it reaches them. A doorbell wakes the device (R359); another access needs the hub's clock alone (R353). -/
def State.partnerPage (s : State) (port partner : Nat) (doorbell : Bool) (ide : Option Nat) (k : State → State) : State :=
  if s.rst.stage ≠ .up ∨ Config.nPorts ≤ port ∨ Config.nPartners ≤ partner then s
  else s.barGate port ide fun s =>
  if (s.part partner).port ≠ port then s.dropDoorbell partner
  else if (s.port port).flrBusy then (if doorbell then s.dropDoorbell partner else s)
  else k (if doorbell then s.awaken else s)

/-- RING_SQ_DB: R249, R252, R300. -/
def ringSqDb (port partner r : Nat) (value : Word) (nbytes : Nat) (ide : Option Nat) (s : State) : State :=
  if 4 ≤ r then s else
  s.partnerPage port partner true ide fun s =>
    let sq := s.ring partner r
    let i := bits value 16 0
    if 4 < nbytes ∨ !sq.enable ∨ sq.err then s.dropDoorbell partner
    else
      let bad := fun c => s.setRing partner r { sq with err := true, errCause := c, badTail := inc32 sq.badTail }
      if sq.size ≤ i then bad 2
      else if i = sq.tail then s
      else if (i + sq.size - sq.head) % sq.size < (sq.tail + sq.size - sq.head) % sq.size then bad 3
      else s.setRing partner r { sq with tail := i }

/-- RING_CQ_DB: R254. -/
def ringCqDb (port partner : Nat) (value : Word) (nbytes : Nat) (ide : Option Nat) (s : State) : State :=
  s.partnerPage port partner true ide fun s =>
    let cq := s.ring partner 4
    let i := bits value 16 0
    if 4 < nbytes ∨ !cq.enable ∨ cq.err then s.dropDoorbell partner
    else if i < cq.size ∧ (i + cq.size - cq.head) % cq.size ≤ (cq.tail + cq.size - cq.head) % cq.size then
      s.setRing partner 4 { cq with head := i }
    else s.setRing partner 4 { cq with err := true, errCause := 5 }

/-- RING_ENABLE: R249. -/
def ringEnable (port partner r : Nat) (value : Word) (ide : Option Nat) (s : State) : State :=
  if 5 ≤ r then s else
  s.partnerPage port partner false ide fun s =>
    let g := s.ring partner r
    let busy := if r = 4 then g.disabling else s.ringBusy partner r
    if g.enable then s.setRing partner r { g with disabling := false }
    else if busy then s
    else
      let z := bits value 4 0
      let g1 := { g with sizeLog2 := z, head := 0, tail := 0, err := false, errCause := 0, phase := r == 4, recFail := false }
      if 6 ≤ z ∧ z ≤ 16 then s.setRing partner r { g1 with enable := true }
      else s.setRing partner r { g1 with err := true, errCause := 1 }

/-- RING_DISABLE_SQ: R250. SIZE_LOG2 is taken while ENABLE and BUSY read 0 (R248). -/
def ringDisableSq (port partner r : Nat) (value : Word) (ide : Option Nat) (s : State) : State :=
  if 4 ≤ r then s else
  s.partnerPage port partner false ide fun s =>
    let g := s.ring partner r
    if g.enable then s.setRing partner r { g with enable := false }
    else if s.ringBusy partner r then s else s.setRing partner r { g with sizeLog2 := bits value 4 0 }

/-- RING_DISABLE_CQ: R251. -/
def ringDisableCq (port partner : Nat) (value : Word) (ide : Option Nat) (s : State) : State :=
  s.partnerPage port partner false ide fun s =>
    let g := s.ring partner 4
    if g.enable then
      (if (s.descOpsOf partner).isEmpty then s.setRing partner 4 { g with enable := false, disabling := false }
       else s.setRing partner 4 { g with disabling := true })
    else s.setRing partner 4 { g with sizeLog2 := bits value 4 0 }

/-- CQ_DISABLE_TAKES_EFFECT: R251. -/
def cqDisableTakesEffect (partner : Nat) (s : State) : State :=
  let g := s.ring partner 4
  if g.disabling ∧ (s.descOpsOf partner).isEmpty then s.setRing partner 4 { g with enable := false, disabling := false } else s

/-- IRQ_COALESCE_EXPIRY: R274, R359. DESIGN CHOICE (log 14): the interrupt takes VECTOR as it stands now, and EN, which was 1 as the record asked for it, is not tested again. -/
def irqCoalesceExpiry (partner : Nat) (s : State) : State :=
  match (s.part partner).coalesce with
  | none => s
  | some t =>
    let s1 := (s.advanceTo t).awaken
    let q := s1.part partner
    (s1.setPart partner { q with coalesce := none }).signal q.port (q.ring 4).vector

def execDescriptorFetch (partner ring : Nat) (d : List Word) (s : State) : Res := .next (descriptorFetch partner ring d s)
def execDescriptorReadFailed (partner ring : Nat) (why : ReadFail) (s : State) : Res := .next (descriptorReadFailed partner ring why s)
def execDescriptorComplete (op : Nat) (s : State) : Res := .next (descriptorComplete op s)
def execRecordWriteFailed (op : Nat) (s : State) : Res := .next (recordWriteFailed op s)
def execFenceRelease (op : Nat) (s : State) : Res := .next (fenceRelease op s)
def execNopFence (op : Nat) (s : State) : Res := .next (nopFence op s)
def execJournalMark (op : Nat) (s : State) : Res := .next (journalMark op s)
def execRingSqDb (port partner ring : Nat) (value : Word) (nbytes : Nat) (ide : Option Nat) (s : State) : Res := .next (ringSqDb port partner ring value nbytes ide s)
def execRingCqDb (port partner : Nat) (value : Word) (nbytes : Nat) (ide : Option Nat) (s : State) : Res := .next (ringCqDb port partner value nbytes ide s)
def execRingEnable (port partner ring : Nat) (value : Word) (ide : Option Nat) (s : State) : Res := .next (ringEnable port partner ring value ide s)
def execRingDisableSq (port partner ring : Nat) (value : Word) (ide : Option Nat) (s : State) : Res := .next (ringDisableSq port partner ring value ide s)
def execRingDisableCq (port partner : Nat) (value : Word) (ide : Option Nat) (s : State) : Res := .next (ringDisableCq port partner value ide s)
def execCqDisableTakesEffect (partner : Nat) (s : State) : Res := .next (cqDisableTakesEffect partner s)
def execIrqCoalesceExpiry (partner : Nat) (s : State) : Res := .next (irqCoalesceExpiry partner s)

end Sys2Proof.Machine
end

