-- ==== Sys2Proof/Machine/Tiering.lean ====
section
/-! DEFINITION. Tiering (04_steep_and_kiln.md R107 to R137): reads and writes of hosts that wait, PIN, UNPIN and PAGE_HINT, the ends and starts of moves, eviction, counters, the fetch deadline, collection, the waits of durable commits and the checkpoint. -/

namespace Sys2Proof.Machine

/-! ### Requests of hosts and pool members -/

/-- Where the steep requests of a host's request, or of a pool member's, come from. -/
def hostSrc (port : Nat) (peer : Option Nat) : ReqSrc := if peer.isSome then .peer else .port port

/-- R316: the entry to which they are charged: a port's entry serves its CXL.mem traffic alone. -/
def State.hostMaster (s : State) (port : Nat) (peer : Option Nat) (tenant : Nat) : Master :=
  if peer.isSome then s.tenantMaster tenant (s.portCls port) else s.portMaster port

/-- Tenant of an extent record. -/
def State.recTenant (s : State) (record : Nat) : Nat := ((s.pool.recs.get? record).map (·.tenant)).getD 0

/-- Steep requests, by stack and number, that are numbered from `first` on and have no credit yet. -/
def State.starvedFrom (s : State) (first : Nat) : List (Nat × Nat) :=
  s.stp.reqs.flatMap (fun e => (e.2.filter (fun r => decide (first ≤ r.id) && r.waits.isSome)).map (fun r => (e.1, r.id)))

/-- Page and lines of those pages of some asks that have a frame (R313). -/
def State.framedAsks (s : State) (asks : List (Nat × Nat)) : List (Nat × Nat) :=
  asks.filter (fun a => match s.pages.get? a.1 with
    | some p => p.st.framed
    | none => false)

/-! ### Reads that wait -/

/-- A read is answered. -/
def State.answerRead (s : State) (r : ReadWait) (bs : List Byte) : State :=
  match r.peer with
  | some pbr => s.emit (.peerData pbr bs)
  | none => s.emit (.cxlData r.port r.id bs)

/-- A read is answered with poison; one of a grist view is counted (R167). -/
def State.poisonRead (s : State) (r : ReadWait) : State :=
  let s1 := match r.peer with
    | some pbr => s.emit (.peerPoison pbr)
    | none => s.emit (.cxlPoison r.port r.id)
  match r.target with
  | .page _ _ => s1
  | .view _ _ => { s1 with grs := { s1.grs with viewPoisonCnt := inc32 s1.grs.viewPoisonCnt } }

/-- The view that a record is. -/
def State.viewRec (s : State) (record : Nat) : Option (Ext × View) := (s.pool.recs.get? record).bind (fun e => e.view.map (fun v => (e, v)))

/-- Pages and lines that a read uses, but for view tiles that the port's unit holds (R167). -/
def State.readAsks (s : State) (r : ReadWait) : List (Nat × Nat) :=
  match r.target with
  | .page pid off => [(pid, lineCount off r.len)]
  | .view record off => match s.viewRec record with
    | some (_, v) => s.viewAsks v off r.len (s.viewCached r.port record)
    | none => []

/-- Answers a read whose pages are at hand and whose steep requests have credit (R167, R171, R343). -/
def State.replyRead (s : State) (r : ReadWait) : State :=
  match r.target with
  | .page pid off =>
    if (s.trouble pid).isSome ∨ s.foreignTag pid off r.len (s.recTenant r.record) then s.poisonRead r
    else s.answerRead r (s.pageBytes pid off r.len)
  | .view record off => match s.viewRec record with
    | none => s.poisonRead r
    | some (e, v) =>
      let ex := s.viewTiles s.trouble (s.viewCached r.port record) e v off r.len
      let s1 := s.cacheTiles r.port record (ex.filterMap (fun b => match b.2 with
        | .inr bs => some (b.1, bs)
        | .inl _ => none))
      match lowestFailing ex with
      | some (_, st) => (s1.countCorrupt st).poisonRead r
      | none => s1.answerRead r (viewOf ex off r.len)

/-- R313, R128: asks for the steep reads of a read whose pages are at hand, and answers it once each of them has a credit. -/
def State.askRead (s : State) (r : ReadWait) : State :=
  let s1 := s.pageReqs (hostSrc r.port r.peer) (s.hostMaster r.port r.peer (s.recTenant r.record)) (s.portCls r.port) false (s.framedAsks (s.readAsks r))
  match s1.starvedFrom s.stp.nextReq with
  | [] => s1.replyRead r
  | held => { s1 with reads := s1.reads ++ [{ r with pages := [], reqs := held }] }

/-- A read's wait for pages is over (R128); a wait for credit is counted by its requests. -/
def State.endRead (s : State) (r : ReadWait) : State := if r.reqs.isEmpty then s.stall r.cause (s.tim.clock - r.arrival) else s

/-- Takes a read from those that wait. -/
def State.dropRead (s : State) (r : ReadWait) : State := { s with reads := s.reads.filter (fun q => q.id != r.id) }

/-- The pages of a read are at hand (R125). -/
def State.serveRead (s : State) (r : ReadWait) : State := ((s.dropRead r).endRead r).askRead r

/-- Answers the reads whose steep requests have their credits at last (R313). -/
def State.serveStarved (s : State) : State :=
  (s.reads.filter (fun r => !r.reqs.isEmpty && r.reqs.all (fun q => !s.starved q.1 q.2))).foldl (fun t r => (t.dropRead r).replyRead r) s

/-- A read starts: it counts every page (R110), is answered if all are at hand, and else demands those that are missing and waits (R125, R128). -/
def State.startRead (s : State) (r : ReadWait) : State :=
  let asks := (s.readAsks r).filter (fun a => (s.trouble a.1).isNone)
  let pids := (asks.map (·.1)).eraseDups
  let here := fun (pid : Nat) => match s.pages.get? pid with
    | some p => s.atHand pid p
    | none => true
  let missing := pids.filter (fun p => !here p)
  let failed := ((s.readAsks r).filter (fun a => (s.trouble a.1).isSome)).map (·.1)
  let s1 := failed.eraseDups.foldl (fun t p => t.count p) ((pids.filter here).foldl (fun t p => t.touchRead p) s)
  if missing.isEmpty then s1.askRead r
  else
    let away := missing.any (fun pid => match s.pages.get? pid with
      | some p => p.st == .kiln || p.st == .steeping
      | none => false)
    let s2 := { s1 with reads := s1.reads ++ [{ r with pages := missing, cause := if away then .kiln else .moveLock }] }
    missing.foldl (fun t p => (t.count p).demand p .demand (s.portCls r.port)) s2

/-! ### Those who wait on a page -/

/-- The page's data is at hand: waiting reads and data windows are served in arrival order, and operations stop waiting for it (R125). -/
def State.arrived (s : State) (pid : Nat) : State :=
  let free := (s.ops.filter (fun o => o.waits.contains pid && o.waits.all (· == pid))).map (·.id)
  let done := (s.reads.filter (fun r => r.pages.contains pid && r.pages.all (· == pid))).map (fun (r : ReadWait) => { r with pages := [] })
  let s1 := { s with
    ops := s.ops.map (fun (o : Op) => { o with waits := o.waits.filter (· != pid) })
    reads := s.reads.map (fun (r : ReadWait) => { r with pages := r.pages.filter (· != pid) }) }
  let s2 := done.foldl (fun t r => t.serveRead r) (free.foldl (fun t id => t.endStall id) s1)
  ((s2.parts.filter (fun p => p.2.dp.active && p.2.dp.dir)).map (·.1)).foldl (fun t p => t.serveWindow p) s2

/-- R127: the fetch of a page that an operation waits for failed. A slot call, a PIN, a hint or a session ends with the status; any other descriptor ends with that of its lowest failing line, once the rest of its pages is at hand (R171, R235). -/
def State.failWait (s : State) (o : Op) (pid : Nat) (st : Status) : State :=
  let session := o.opcode = 0x70
  if o.isSlotCall then (if o.binds then s.bindFails o st else s.fail o st)
  else if o.opcode = 0x30 ∨ o.opcode = 0x31 ∨ session then s.endFor o st
  else
    let s1 := s.setOp { o with bad := o.bad.set pid st, waits := o.waits.filter (· != pid) }
    if o.waits.all (· == pid) then s1.endStall o.id else s1

/-- The fetch for everything that waits on a page failed (R127). -/
def State.failPage (s : State) (pid : Nat) (st : Status) : State :=
  let waiting := (s.ops.filter (fun o => o.phase == .running && o.waits.contains pid)).map (·.id)
  let s1 := waiting.foldl (fun t id => match t.op? id with
    | some o => if o.phase = .running then t.failWait o pid st else t
    | none => t) s
  (s1.reads.filter (fun r => r.pages.contains pid)).foldl (fun t r => ((t.dropRead r).endRead r).poisonRead r) s1

/-! ### Durable commits -/

/-- Every DIRTY page is kilned as keep (R140 step 2); one whose kilning cannot start yet, or whose written lines still wait for a frame, is queued. -/
def State.kilnDirty (s : State) : State :=
  ((s.pages.filter (fun p => (p.2.st == .dirty && !p.2.tileBad) || (!p.2.st.framed && s.lined p.1))).map (·.1)).foldl
    (fun t pid => if (match t.pages.get? pid with
      | some p => p.st == .dirty && t.halfRoom (p.stack / 4) && !p.copying
      | none => false) = true then t.kilnStart pid true else t.queueMove pid .park 2) s

/-- Starts what the waiting durable commits still need (R134, R135), and what the entry into PARKED still finds DIRTY (R140 step 2). -/
def State.resumeCommits (s : State) : State :=
  let s1 := ((s.vers.filter (fun v => v.2.st == .committing)).foldl (fun t v => t.kilnVersion v.1) s).stageCommits
  if s1.pwr.state = .entering ∧ s1.pwr.drained then s1.kilnDirty else s1

/-- Ends a durable commit or park that failed: nothing is committed (R134, R174, R198). -/
def State.failCommit (s : State) (v : Nat) (st : Status) : State :=
  match s.vers.get? v with
  | none => s
  | some w =>
    let s1 := s.reopenVersion v
    match w.commitOp.bind s1.op? with
    | some o => if o.phase = .running then s1.fail o st else s1
    | none => s1

/-- JOURNAL_COMMIT_DONE: R26, R135, R198. The commit record is on every chain in use. -/
def journalCommitDone (op : Nat) (s : State) : State :=
  s.onOp op fun o =>
    match s.vers.find? (fun v => v.2.commitOp == some op && v.2.st == .committing) with
    | none => s
    | some (v, w) =>
      if !s.kln.staged.contains (.commit v) then s
      else
        if o.opcode = 0x43 then s.parkDone o true
        else (((s.journalCommit v).commitVersion v true).dropHandle o.partner (bits (o.dw 2) 9 0)).finish o { dw23 := w.seq, journaled := true }

/-- The page has no current record and its hub half has no space for one (R134). -/
def State.spaceless (s : State) (p : Page) : Bool := p.st != .clean && p.st.framed && !s.halfRoom (p.stack / 4)

/-- KILN_SPACE_TIMEOUT: R134. -/
def kilnSpaceTimeout (op : Nat) (s : State) : State :=
  s.onOp op fun o =>
    match s.vers.find? (fun v => v.2.commitOp == some op && v.2.st == .committing), o.commitAt with
    | some (v, w), some since =>
      let starved := w.pages.any (fun q => match s.pages.get? q.2 with
        | some p => s.spaceless p
        | none => false)
      if starved then (s.expire (since + 10000000)).failCommit v .busy else s
    | _, _ => s

/-- JOURNAL_CHECKPOINT: R135. -/
def journalCheckpoint (s : State) : State := if s.rst.stage ≠ .up ∨ s.rst.flush ≠ .none then s else s.checkpoint

/-! ### Pins -/

/-- R113: the page must come to steep, or stay there: an eviction's kilning is kept (DEDUCED, log 16), and a KILN page queued. -/
def State.pinHold (s : State) (pid cls : Nat) : State :=
  match s.pages.get? pid with
  | none => s
  | some p =>
    let s1 := s.cancelEvict pid
    if p.st = PageState.kilnEvict then s1.setPage pid { p with st := .kilnKeep false }
    else if p.st = .kiln ∧ (s.recordStatus p).isNone then s1.queueMove pid .pin cls
    else s1

/-- A pinned page is in kiln again: it is queued once more, at the class of what pins it (R113, R141). -/
def State.repin (s : State) (pid : Nat) : State := if s.pinned pid then s.pinHold pid (s.pinClass pid) else s

/-! ### Moves -/

/-- R138, R361: moves start only in service. -/
def State.movesRun (s : State) : Bool := s.rst.stage == .up && s.rst.flush == .none && s.pwr.state != .parked && !s.sec.keysLocked

/-- A running copy reads the page's frame (R123). -/
def State.copied (s : State) (pid : Nat) : Bool := s.pages.any (fun p => p.2.copying && p.2.copyFrom == some pid)

/-- R112: the page leaves steep. A CLEAN page's frame is freed at once; a DIRTY page is kilned. -/
def State.evict (s : State) (pid cls : Nat) : State :=
  match s.pages.get? pid with
  | none => s
  | some p =>
    match p.st with
    | .clean => s.setPage pid { p with st := .kiln }
    | .dirty => if s.halfRoom (p.stack / 4) then s.kilnStart pid false cls else s
    | _ => s

/-- R125, R126: the frame takes the lines that waited for it, oldest first. -/
def State.mergeLines (s : State) (pid : Nat) : State :=
  let ls := s.kln.pend.filter (fun l => l.page == pid)
  let (seq, tenant) := match s.pages.get? pid with
    | some p => (match p.owner with
      | .version _ _ v _ => v
      | .extent _ _ => 0, p.tenant)
    | none => (0, 0)
  let s1 := { s with kln := { s.kln with pend := s.kln.pend.filter (fun l => l.page != pid) } }
  ls.foldl (fun t l => ({ t with mem := t.mem.write (pageAddr pid l.off) l.data }).retag t pid l.off l.data.length seq tenant) s1

/-- R125: a ZERO page that is pinned, or has written lines waiting, takes a zero-filled frame. -/
def State.frameZero (s : State) (pid : Nat) (p : Page) : State :=
  let s1 := s.setPage pid { p with st := .dirty, frame := s.freeFrame p.stack }
  let s2 := { s1 with kln := { s1.kln with moves := s1.kln.moves.filter (fun m =>
    !(m.page == pid && (m.kind == MoveKind.demand || m.kind == MoveKind.pin))) } }
  ((s2.mergeLines pid).arrived pid).resumeCommits

/-- A move that brings a page to steep. -/
def MoveKind.inward : MoveKind → Bool
  | .demand | .speculative | .willneed | .pin => true
  | .evict | .clean | .commit | .park => false

/-- The page takes a frame, if its stack has one free (R112, R125). -/
def State.takeFrame (s : State) (pid : Nat) (p : Page) (cls since : Nat) : State :=
  if s.framesFree p.stack = 0 then s
  else if p.st = .kiln ∧ (s.recordStatus p).isNone then s.steepPage pid p cls since
  else if p.st = .zero then s.frameZero pid p
  else s

/-- R374 step 1: a block that moves the page was asked to go idle: the tiering controller half, the stack's controller, or the kiln channel of its record. -/
def State.moveHeld (s : State) (p : Page) : Bool :=
  s.askedIdle (.tier (p.stack / 4)) || s.askedIdle (.steep p.stack) || (match p.record with
    | some r => s.askedIdle (.kiln r.stack)
    | none => false)

/-- R363 stage 1: speculative steeping, that of a WILLNEED hint too (R130 step 3), is deferred. -/
def State.deferred (s : State) (m : Move) : Bool := (m.kind == .speculative || m.kind == .willneed) && s.pwr.steps.getD 0 0 != 0

/-- PAGE_MOVE_START: R111 to R113, R122, R125, R363, R374. The lock must be free; of the moves queued for the page the first runs, a steeping at the lowest class of those that asked for it. -/
def pageMoveStart (pid : Nat) (s : State) : State :=
  match s.kln.moves.filter (fun m => m.page == pid && !s.deferred m), s.pages.get? pid with
  | m :: ms, some p =>
    if !s.movesRun ∨ !s.lockOpen p ∨ p.copying ∨ s.moveHeld p then s
    else
      let gone := { s with kln := { s.kln with moves := s.kln.moves.filter (· != m) } }
      if m.kind.inward then
        let asked := (m :: ms).filter (·.kind.inward)
        let since := ((asked.find? (·.kind == .demand)).map (·.since)).getD s.tim.clock
        if (p.st = .kiln ∧ (s.recordStatus p).isNone) ∨ (p.st = .zero ∧ (s.lined pid ∨ asked.any (·.kind == .pin))) then
          s.takeFrame pid p (asked.foldl (fun c x => min c x.cls) m.cls) since
        else gone
      else if m.kind = .evict then
        if p.st = .clean then (if s.copied pid then s else gone.evict pid m.cls)
        else if p.st = .dirty then (if s.halfRoom (p.stack / 4) then gone.evict pid m.cls else s)
        else gone
      -- its lines come to a frame first; the move stays queued
      else if !p.st.framed ∧ s.lined pid then s.takeFrame pid p m.cls s.tim.clock
      else if p.st = .dirty ∧ !p.tileBad then (if s.halfRoom (p.stack / 4) then gone.kilnStart pid true m.cls else s)
      else gone
  | _, _ => s

/-- R127, R387: the record of an uncorrectable page. -/
def State.uncorrectable (s : State) (u : UnitId) (p : Page) : State :=
  let f := s.ownerFields p.owner
  s.raiseN 0x0010 u 2 1 [f.1, f.2.1, f.2.2.2] p.tenant

/-- R171: the status of a failed record read. -/
def steepStatus : SteepResult → Option Status
  | .ok => none
  | .media => some .media
  | .corrupt => some .gristCorrupt
  | .tableMissing => some .tableMissing
  | .tileCrc => some .integrity

/-- R33, R172: every tile of the page passes its CRC. -/
def State.tilesRight (s : State) (pid : Nat) : Bool := (List.range 16).all (fun i => (s.tag pid i).crc == s.tileCrc pid i)

/-- What the read and the checks of a page's record find, when the media and the decoding find `r` (R132, R171, R172). -/
def State.fetched (s : State) (pid : Nat) (p : Page) (r : SteepResult) : SteepResult :=
  if r ≠ .ok then r
  else if (p.record.map (fun q => deadRecord q.image)).getD false then .corrupt
  else if s.tilesRight pid then .ok else .tileCrc

/-- A tile of the frame is found wrong: unless one already is, the CRC in the tag of some tile is no more that of its bytes. Which tile, and by how much, is open (log 2). -/
def State.spoilTile (s : State) (pid : Nat) : State :=
  if !s.tilesRight pid then s
  else
    let (n, s1) := s.fresh
    let g := s1.tag pid (n % 16)
    { s1 with tags := s1.tags.set (pid * 16 + n % 16) { g with crc := g.crc ^^^ (1 + n / 16 % 4294967295) } }

/-- R127: discards the lines that wait for a page whose fetch failed, and counts them. -/
def State.discardLines (s : State) (pid : Nat) : State :=
  let n := (s.kln.pend.filter (fun l => l.page == pid)).length
  { s with kln := { s.kln with pend := s.kln.pend.filter (fun l => l.page != pid), poisonCnt := sat32 (s.kln.poisonCnt + n) } }

/-- R127: the fetch of a page failed: the next demand retries it once, then its record is marked failed. A page that stays pinned is queued for the retry (R113). -/
def State.fetchFailed (s : State) (pid : Nat) (p : Page) (st : Status) : State :=
  let s1 := ((s.discardLines pid).countCorrupt st).setPage pid { p with st := .kiln, failedOnce := true, failed := if p.failedOnce then some st else none }
  let s2 := if p.failedOnce then s1.uncorrectable ⟨8, p.stack / 4⟩ p else s1
  ((s2.failPage pid st).repin pid).resumeCommits

/-- STEEPING_DONE: R124 to R127, R171 to R173. -/
def steepingDone (pid : Nat) (r : SteepResult) (s : State) : State :=
  match s.pages.get? pid with
  | none => s
  | some p =>
    if p.st ≠ .steeping then s
    else
      match steepStatus (s.fetched pid p r) with
      | none =>
        let lines := s.lined pid
        let s1 := if lines then (s.mergeLines pid).killRecordOf p else s
        let s2 := s1.setPage pid { p with st := if lines then .dirty else .clean, record := if lines then none else p.record, failedOnce := false }
        ((s2.reapTables).arrived pid).resumeCommits
      | some st => s.fetchFailed pid p st

/-- Free steep of a hub half, in frames. -/
def State.halfFree (s : State) (half : Nat) : Nat := ((List.range 4).map (fun i => s.framesFree (4 * half + i))).sum

/-- Watermarks of a hub half in frames (KLN_STEEP_WM). -/
def State.lowFrames (s : State) : Nat := bits s.kln.steepWm 7 0 * 16384
def State.highFrames (s : State) : Nat := max (bits s.kln.steepWm 23 16) (bits s.kln.steepWm 7 0 + 1) * 16384

/-- R112: eviction of a half ends once its free steep reaches HIGH_GIB. -/
def State.evictEnds (s : State) : State :=
  { s with kln := { s.kln with evicting := s.kln.evicting.filter (fun h => decide (s.halfFree h < s.highFrames)) } }

/-- KILNING_DONE: R125, R174. A record that finds no space waits (R134); one whose write failed goes to another segment. A frame with an uncorrectable symbol code is no more kilned than one with a wrong tile (DESIGN CHOICE, log 23). -/
def kilningDone (pid : Nat) (r : KilnResult) (s : State) : State :=
  match s.pages.get? pid with
  | none => s
  | some p =>
    if p.lockFree ∨ p.st = .steeping then s
    else
      match (if r = .ok ∧ (!s.tilesRight pid ∨ p.frameBad) then KilnResult.tileCrc else r) with
      | .ok =>
        match s.writeRecord pid p with
        | none => s
        | some (rec0, s1) =>
          let q := { p with record := some rec0, kilnedAt := s1.kln.kilnings.get (p.stack / 4) 0, failedOnce := false, failed := none, coding := [] }
          let done := match p.st with
            | .kilnEvict => (s1.setPage pid { q with st := .kiln }).repin pid
            | .kilnKeep false => s1.setPage pid { q with st := .clean }
            -- the record of a page written meanwhile is dead at once
            | _ => (s1.setPage pid { p with st := .dirty, record := none, coding := [] }).killRecord rec0
          done.evictEnds.reapTables.resumeCommits
      | .media =>
        (((s.setPage pid { p with st := .dirty, coding := [] }).closeSeg pid p).queueMove pid
          (if p.st = PageState.kilnEvict then .evict else .clean) p.moveCls).reapTables
      | .tileCrc =>
        let s1 := ((s.spoilTile pid).setPage pid { p with st := .dirty, tileBad := true, coding := [] }).uncorrectable ⟨3, p.stack⟩ p
        ((s1.vers.filter (fun v => v.2.st == .committing && v.2.pages.any (fun q => q.2 == pid))).foldl
          (fun t v => t.failCommit v.1 .integrity) s1).reapTables

/-! ### Eviction (R112) -/

/-- Evictions that have been chosen but have not freed their frame; one that finds no kiln space does not count (R134). -/
def State.evictions (s : State) (stks : List Nat) : Nat :=
  (s.pages.filter (fun p => stks.contains p.2.stack && s.halfRoom (p.2.stack / 4) && (p.2.st == .kilnEvict
    || s.kln.moves.any (fun m => m.page == p.1 && m.kind == .evict)))).length

/-- R112: the page may be chosen. -/
def State.evictable (s : State) (stks : List Nat) (e : Nat × Page) : Bool :=
  stks.contains e.2.stack && (e.2.st == .clean || e.2.st == .dirty) && !e.2.copying && !e.2.tileBad && !s.copied e.1 && s.lockOpen e.2
    && !s.pinned e.1 && !(s.kln.moves.any (fun m => m.page == e.1 && m.kind == .evict))

/-- R112: `a` is chosen before `b`: lower counter, then a current kiln copy, then the lower page number. -/
def State.evictBefore (s : State) (a b : Nat × Page) : Bool :=
  let num := fun (e : Nat × Page) => (s.ownerFields e.2.owner).2.2.2
  let has := fun (e : Nat × Page) => decide (e.2.st = PageState.clean)
  if a.2.ctr ≠ b.2.ctr then decide (a.2.ctr < b.2.ctr)
  else if has a ≠ has b then has a
  else decide (num a < num b) || (num a == num b && decide (a.1 < b.1))

def State.victim (s : State) (stks : List Nat) : Option Nat :=
  ((s.pages.filter (s.evictable stks)).foldl (fun b e => match b with
    | none => some e
    | some v => if s.evictBefore e v then some e else some v) (none : Option (Nat × Page))).map (·.1)

/-- A victim is chosen: a CLEAN page leaves at once, a DIRTY one is queued for kilning (R112, R125). -/
def State.choose (s : State) (cls pid : Nat) : State :=
  match s.pages.get? pid with
  | some p => if p.st = .clean then s.evict pid cls else s.queueMove pid .evict cls
  | none => s

/-- R112: chooses victims until so many frames are free or on their way. -/
def State.evictTo (s : State) (half goal : Nat) : Nat → State
  | 0 => s
  | fuel + 1 =>
    let stks := (List.range 4).map (4 * half + ·)
    if goal ≤ s.halfFree half + s.evictions stks then s
    else match s.victim stks with
      | some pid => (s.choose 2 pid).evictTo half goal fuel
      | none => s

/-- R112: demands that wait for a frame on a stack: those queued, and the copies of writes (R123). -/
def State.framesAsked (s : State) (k : Nat) : Nat :=
  (s.kln.moves.filter (fun m => (m.kind == .demand || m.kind == .pin) && (match s.pages.get? m.page with
    | some p => p.stack == k && !p.st.framed && p.st != .steeping
    | none => false))).length
    + (s.ops.map (fun o => (o.frameOn.filter (· == k)).length)).sum

/-- EVICTION_START: R112, of a hub half below its low watermark, going on to the high one, or of one stack on which a demand waits for a frame. -/
def evictionStart (half : Nat) (stack : Option Nat) (s : State) : State :=
  if !s.movesRun ∨ 2 ≤ half then s
  else
    match stack with
    | none =>
      if s.highFrames ≤ s.halfFree half ∨ (s.lowFrames ≤ s.halfFree half ∧ !s.kln.evicting.contains half) then s.evictEnds
      else
        let on := { s with kln := { s.kln with evicting := s.kln.evicting.filter (· != half) ++ [half] } }
        (on.evictTo half s.highFrames s.pages.length).evictEnds
    | some k =>
      if k / 4 = half ∧ s.framesFree k + s.evictions [k] < s.framesAsked k then
        match s.victim [k] with
        | some pid => s.choose 0 pid
        | none => s
      else s

/-- Counters of pages that nothing has written, halved (R110). -/
def halved (m : Map Nat) : Map Nat := m.map (fun (e : Nat × Nat) => (e.1, e.2 / 2))

/-- COUNTER_HALVE: R110, R115. In PARKED the counters rest in the checkpoint (R140). It wakes no sleeping device (DEDUCED, log 16). -/
def counterHalve (s : State) : State :=
  let ms := bits s.kln.tierCtl 15 0
  if ms = 0 ∨ s.rst.stage ≠ .up ∨ s.pwr.state = .parked then s
  else
    let s1 := s.advanceTo ((s.tim.clock / (ms * 1000000) + 1) * (ms * 1000000))
    { s1 with
      pages := s1.pages.map (fun (e : Nat × Page) => (e.1, if e.2.overflow then e.2 else { e.2 with ctr := e.2.ctr / 2 }))
      pool := { s1.pool with groups := s1.pool.groups.map (fun (g : Nat × Group) => (g.1, { g.2 with zeroCtr := halved g.2.zeroCtr })) }
      vers := s1.vers.map (fun (v : Nat × Ver) => (v.1, { v.2 with zeroCtr := halved v.2.zeroCtr })) }

/-- R130: when the page's fetch started: with its steeping, or with the demand that still waits for a frame. -/
def State.fetchStart (s : State) (pid : Nat) (p : Page) : Option Nat :=
  if p.st = .steeping then some p.fetchAt
  else if p.st = .kiln ∧ (s.recordStatus p).isNone then (s.kln.moves.find? (fun m => m.page == pid && m.kind == .demand)).map (·.since)
  else none

/-- FETCH_DEADLINE: R130. `r`: what the read and the check of the record find. -/
def fetchDeadline (pid : Nat) (r : SteepResult) (s : State) : State :=
  let dl := bits s.kln.fetchDl 15 0
  let phased := match s.rst.phase with
    | .bringup | .test | .rebuild => true
    | .service | .recovery => false
  match s.pages.get? pid with
  | none => s
  | some p => match s.fetchStart pid p with
    | none => s
    | some at' =>
      if dl = 0 ∨ !phased then s
      else
        let s0 := s.expire (at' + dl * 1000)
        let goes := fun (m : Move) => (m.page == pid && m.kind == .demand)
          || ((m.kind == .speculative || m.kind == .willneed) && (match s.pages.get? m.page with
            | some q => q.stack / 4 == p.stack / 4
            | none => false))
        let s1 := { s0 with kln := { s0.kln with moves := s0.kln.moves.filter (fun m => !goes m), dlpathCnt := inc32 s0.kln.dlpathCnt } }
        match steepStatus (s.fetched pid p r) with
        | some st => s1.fetchFailed pid p st
        | none =>
          let s2 := { s1.setPage pid { p with st := .kiln } with
            ops := s1.ops.map (fun (o : Op) => if o.phase = OpPhase.running ∧ o.waits.contains pid then { o with served := o.served ++ [pid], dlPath := true } else o) }
          ((s2.arrived pid).repin pid).resumeCommits

/-! ### Collection (R133, R158) -/

/-- A live record of the page uses a RETIRING table. -/
def State.retiringUse (s : State) (p : Page) : Bool :=
  match p.record with
  | some r => s.grs.tables.any (fun t => t.tenant == p.tenant && t.st == .retiring && r.tables.contains t.slot)
  | none => false

/-- Rewrites one live record into the collection segment, recoded where it uses a RETIRING table, at a class. None without room or while the page's lock is held. -/
def State.rewrite (s : State) (cls pid : Nat) : Option State :=
  match s.pages.get? pid with
  | none => some s
  | some p =>
    match p.record with
    | none => some s
    | some r =>
      if !s.lockOpen p ∨ s.moveHeld p then none
      else
        let bs := pageBlocks s pid p
        let r1 := if s.retiringUse p then
            { r with units := recordUnits bs, image := recordImage s pid p bs
                     tables := ((bs.filter (fun b => b.mode == 1)).map (·.table)).eraseDups }
          else r
        match s.openSeg r.stack (r1.units * 64) .gcOpen with
        | (none, _) => none
        | (some g, s1) =>
          let s2 := (s1.killRecord r).fillSeg g (r1.units * 64) (r1.units * 64)
          let s3 := (s2.setPage pid { p with record := some { r1 with seg := g, off := (s1.kln.segs.get g {}).used } }).wrote (r1.units * 64)
          some (s3.steepReq .device .internal cls p.stack (pid * 1024) r1.units false)

/-- Rewrites records one after another, passing over those that cannot be rewritten now; and whether all were. -/
def State.rewriteAll (s : State) (cls : Nat) : List Nat → State × Bool
  | [] => (s, true)
  | p :: ps => match s.rewrite cls p with
    | some t => t.rewriteAll cls ps
    | none => ((s.rewriteAll cls ps).1, false)

/-- Pages whose live record lies in a segment. -/
def State.liveIn (s : State) (g : Nat) : List Nat :=
  (s.pages.filter (fun p => match p.2.record with
    | some r => r.seg == g
    | none => false)).map (·.1)

/-- The segment that a stack collects: one that it has begun, or the FULL one with the fewest live bytes, the lower number on ties. In REBUILD a segment not yet erased is none of them (R349). -/
def State.gcPick (s : State) (stack : Nat) : Option Nat :=
  let mine := s.kln.segs.filter (fun e => e.1 / 32768 == stack && (match s.rebuild with
    | some es => es.contains e.1
    | none => true))
  match mine.find? (fun e => e.2.st == some .collecting) with
  | some e => some e.1
  | none => ((mine.filter (fun e => e.2.st == some .full)).foldl (fun b e => match b with
    | none => some e
    | some v => if e.2.live < v.2.live ∨ (e.2.live = v.2.live ∧ e.1 < v.1) then some e else some v)
    (none : Option (Nat × Seg))).map (·.1)

/-- Erases a segment (R131). -/
def State.eraseSeg (s : State) (g : Nat) : State :=
  let e := s.kln.segs.get g {}
  { s with kln := { s.kln with segs := s.kln.segs.set g { st := none, erases := e.erases + 1 } } }

/-- The segment is being collected (R131). -/
def State.markCollecting (s : State) (g : Nat) : State :=
  { s with kln := { s.kln with segs := s.kln.segs.set g { s.kln.segs.get g {} with st := some .collecting } } }

/-- COLLECTION: R133, R158, one pass of a stack: its records that use a RETIRING table, then the picked segment. A segment that a held lock leaves half done stays COLLECTING. R363 stage 1 defers what runs at class 7. -/
def collection (stack : Nat) (s : State) : State :=
  if !s.movesRun ∨ !s.kilnPresent stack ∨ s.askedIdle (.kiln stack) ∨ s.askedIdle (.tier (stack / 8)) then s
  else
    let below := fun (pct : Nat) => s.freeSegs stack * 100 < pct * 32768
    let urgent := below (bits s.kln.gcCtl 15 8)
    let calm := s.pwr.steps.getD 0 0 = 0
    let due := if calm then below (bits s.kln.gcCtl 7 0) ∨ urgent else urgent
    let cls := if urgent then 2 else 7
    let old := (s.pages.filter (fun p => s.retiringUse p.2 && (match p.2.record with
      | some r => r.stack == stack
      | none => false))).map (·.1)
    let s1 := if calm ∨ urgent then (s.rewriteAll cls old).1 else s
    let s2 := if due then
        match s1.gcPick stack with
        | some g =>
          let (t, all) := (s1.markCollecting g).rewriteAll cls (s1.liveIn g)
          if all then t.eraseSeg g else t
        | none => s1
      else s1
    s2.reapTables.resumeCommits

/-! ### Copies and the pending-write table -/

/-- COW_COPY_DONE: R123. -/
def cowCopyDone (pid : Nat) (s : State) : State :=
  match s.pages.get? pid with
  | some p => if p.copying then ((s.setPage pid { p with copying := false, copyFrom := none }).arrived pid).resumeCommits else s
  | none => s

/-- The pieces of a write that need room in a hub half's pending-write table (R124). -/
def State.tabled (s : State) (w : WaitWrite) (half : Nat) : List (Nat × Nat × List Byte) :=
  w.pieces.filter (fun c => match s.pages.get? c.1 with
    | some p => p.stack / 4 == half && (s.recordTrouble c.1).isNone && !s.takesNow c.1 p
    | none => false)

/-- R124: the write waits for room in the table of a hub half. -/
def State.fullFor (s : State) (w : WaitWrite) (half : Nat) : Bool :=
  let ls := ((s.tabled w half).map (fun c => lineCount c.2.1 c.2.2.length)).sum
  decide (0 < ls) && decide (Config.pendLines < s.pendUsed half + ls)

/-- One piece of a host's or a member's write: into the frame, into the pending-write table with a demand, or, where the record is marked failed, discarded and counted (R124, R125, R127). -/
def State.landPiece (s : State) (w : WaitWrite) (c : Nat × Nat × List Byte) : State :=
  let tenant := s.recTenant w.record
  match s.pages.get? c.1 with
  | none => s
  | some p =>
    if (s.recordTrouble c.1).isSome then
      { s.count c.1 with kln := { (s.count c.1).kln with poisonCnt := sat32 ((s.count c.1).kln.poisonCnt + lineCount c.2.1 c.2.2.length) } }
    else if s.takesNow c.1 p then
      (s.pokePage c.1 c.2.1 c.2.2 0 tenant).pageReqs (hostSrc w.port w.peer) (s.hostMaster w.port w.peer tenant) (s.portCls w.port) true
        [(c.1, lineCount c.2.1 c.2.2.length)]
    else ((s.count c.1).hold c.1 c.2.1 c.2.2 (some w.record)).demand c.1 .demand (s.portCls w.port)

/-- Completes a host's or a member's write, which all of its pieces have reached (R124, R189). -/
def State.landWrite (s : State) (w : WaitWrite) : State :=
  (w.pieces.foldl (fun t c => t.landPiece w c) s).emit (match w.peer with
    | some pbr => .peerDone pbr
    | none => .cxlDone w.port)

/-- A write that waits must go first: it is for the same page, or needs the same table (R124, R125). -/
def State.behind (s : State) (w : WaitWrite) : Bool :=
  s.kln.pendWait.any (fun x => w.pieces.any (fun c => x.on c.1)
    || (List.range 2).any (fun h => !(s.tabled w h).isEmpty && !(s.tabled x h).isEmpty))

/-- A host's or a member's write: whole at once, or it waits while a table is full (R124). -/
def State.hostWrite (s : State) (w : WaitWrite) : State :=
  if s.behind w ∨ (List.range 2).any (s.fullFor w) then { s with kln := { s.kln with pendWait := s.kln.pendWait ++ [w] } } else s.landWrite w

/-- PENDING_TABLE_ROOM: R124, R128: the writes that wait go on in arrival order, each half's for itself. -/
def pendingTableRoom (s : State) : State :=
  let step := fun (a : State × List Nat) (w : WaitWrite) =>
    let needs := (List.range 2).filter (fun h => !(a.1.tabled w h).isEmpty)
    if needs.any (fun h => a.2.contains h || a.1.fullFor w h) then (a.1, a.2 ++ needs)
    else
      let s1 := { a.1 with kln := { a.1.kln with pendWait := a.1.kln.pendWait.filter (· != w) } }
      ((s1.stall .moveLock (s1.tim.clock - w.since)).landWrite w, a.2)
  (s.kln.pendWait.foldl step (s, [])).1.reapTables

/-! ### PIN, UNPIN and PAGE_HINT -/

/-- What R118 finds of the range: the pages, by backing and index. -/
def State.hintRange (s : State) (o : Op) : Status ⊕ List (Backing × Nat) :=
  let target := bits (o.dw 1) 1 0
  let hint := bits (o.dw 1) 3 2
  let addr := o.q 2
  let len := (o.dw 8).toNat
  let pin := o.opcode == 0x31
  let n := len / 65536
  if !o.zero 1 31 16 || !o.zero 1 7 4 || !o.zeroFrom 9 || target == 3 || (target != 2 && !o.zero 1 15 8)
      || (o.opcode != 0x30 && hint != 0) || hint == 3 || (target != 1 && !(o.q 4 == 0 && o.q 6 == 0)) then .inl .unsupported
  else if addr % 65536 ≠ 0 ∨ len % 65536 ≠ 0 then .inl .align
  else if target = 0 then
    let at' := (List.range n).map (fun i => s.locate o.partner (addr + 65536 * i))
    let st := at'.map (fun l => l.bind (fun l => l.2.1.refusal))
    if st.contains (some .extentDraining) then .inl .extentDraining
    else if st.contains (some .leaseExpired) then .inl .leaseExpired
    else if at'.any (·.isNone) then .inl .bounds
    else .inr (at'.filterMap (fun l => l.map (fun l => (Backing.group l.2.1.group, l.2.2 / 65536))))
  else
    let slot := s.slot (bits (o.dw 1) 15 8)
    let found := s.caskFor o (o.q 4)
    let ver := if target = 2 then (s.vers.get? slot.ver).map (fun w => (slot.ver, w))
      else found.bind (fun f => (s.versionsOf f.1).find? (fun v => v.2.seq == o.q 6))
    let denied := match (if target = 1 then found.bind (·.2.2) else none), ver with
      | some g, some w => decide (w.2.seq < g.minVersion) || w.2.st == .open || w.2.st == .committing || (pin && !g.pinRight)
      | _, _ => false
    match firstOf [
      (target == 2 && !(slot.bound && slot.partner == o.partner), .access),
      (ver.isNone, .versionGone),
      (denied, .access)], ver with
    | some st, _ => .inl st
    | none, none => .inl .versionGone
    | none, some w =>
      if w.2.size < addr + len then .inl .bounds
      else .inr ((List.range n).map (fun i => (Backing.ver w.1, addr / 65536 + i)))

/-- The pages of a range that are there; those of a version that are still ZERO are left out (R119). -/
def State.hintPages (s : State) (r : List (Backing × Nat)) : List Nat :=
  (r.filterMap (fun q => (s.pageAt q.1 q.2).filter (fun pid => match q.1, s.pages.get? pid with
    | .ver _, some p => p.st != .zero
    | .group _, some _ => true
    | _, none => false))).eraseDups

/-- A page of every index of an extent's range (R119: a ZERO page of an extent is pinned). -/
def State.ownAll (s : State) (r : List (Backing × Nat)) : State :=
  r.foldl (fun t q => match q.1 with
    | .group _ => ((t.ownPage q.1 q.2).map (·.2)).getD t
    | .ver _ => t) s

/-- Pinned pages of a stack, the journal's frames included (R116, R397). -/
def State.pinnedOn (s : State) (k : Nat) : Nat :=
  (s.pages.filter (fun p => p.2.stack == k && s.pinned p.1)).length + s.journalFrames

/-- R118 row 10: the quota of R114 or the stack limit of R116 would be passed. -/
def State.pinRefused (s : State) (tenant : Nat) (pids : List Nat) : Bool :=
  let held := (s.pages.filter (fun p => decide (0 < p.2.pins) && p.2.pinBy == tenant)).length
  let fresh := pids.filter (fun pid => match s.pages.get? pid with
    | some p => p.pins == 0
    | none => false)
  let quota := ((s.tenants.get? tenant).map (·.quota)).getD 0 * 16384
  decide (quota < held + fresh.length) || (List.range 8).any (fun k =>
    let new := (fresh.filter (fun pid => !s.pinned pid && (match s.pages.get? pid with
      | some p => p.stack == k
      | none => false))).length
    decide (0 < new) && decide (Config.pinStackPages < s.pinnedOn k + new))

/-- One PIN of one page (R119, R125, R113): a ZERO page of an extent takes a frame, or waits for one. -/
def State.pinPage (s : State) (tenant cls pid : Nat) : State :=
  match s.pages.get? pid with
  | none => s
  | some p =>
    let p1 := { p with
      pins := min 65535 (p.pins + 1), pinBy := if p.pins = 0 then tenant else p.pinBy, pinCls := if p.pins = 0 then cls else p.pinCls }
    let s1 := s.setPage pid p1
    if p.st ≠ .zero then s1.pinHold pid cls
    else if 0 < s.framesFree p.stack then s1.frameZero pid p1
    else s1.queueMove pid .pin cls

/-- The page has a frame. -/
def State.resident (s : State) (pid : Nat) : Bool :=
  match s.pages.get? pid with
  | some p => p.st.framed && !p.copying
  | none => true

/-- PIN's end (R119): a failed record takes its pins back; else it waits until every page is resident, each that a move has left in kiln queued again. -/
def State.pinWait (s : State) (o : Op) (pids : List Nat) : State :=
  match pids.findSome? (fun pid => (o.bad.get? pid).or (s.recordTrouble pid)) with
  | some st => (s.dropPins o).fail o st
  | none =>
    let missing := pids.filter (fun p => !s.resident p)
    if missing.isEmpty then s.finish o { dw1 := o.pinned.length }
    else
      let kiln := missing.any (fun p => match s.pages.get? p with
        | some q => q.st == .kiln || q.st == .steeping
        | none => false)
      let s1 := missing.foldl (fun t p => t.pinHold p o.runClass) (s.setOp { o with waits := missing, kilnTouched := o.kilnTouched || kiln })
      if missing.all o.waits.contains then s1 else s1.stallOp o.id (if kiln then .kiln else .moveLock)

/-- PIN: R117 to R119. -/
def pin (op : Nat) (s : State) : State :=
  s.onOp op fun o =>
    if o.opcode ≠ 0x31 then s
    else if o.dw 8 = 0 then s.finish o {}
    else
      match o.hinted with
      | some pids => s.pinWait o pids
      | none =>
        match s.hintRange o with
        | .inl st => s.fail o st
        | .inr r =>
          let t := s.opTenant o
          let s1 := s.ownAll r
          let pids := s1.hintPages r
          if s1.pinRefused t pids then s.fail o .resvExceeds
          else match pids.findSome? s1.recordTrouble with
            | some st => s.fail o st
            | none =>
              let changed := pids.filter (fun pid => match s1.pages.get? pid with
                | some p => decide (p.pins < 65535)
                | none => false)
              let o1 := { o with hinted := some pids, pinned := changed }
              let s2 := pids.foldl (fun u pid => u.pinPage t o.runClass pid) (s1.setOp o1)
              match s2.op? o.id with
              | some o2 => s2.pinWait o2 pids
              | none => s2

/-- UNPIN: R117 to R119. -/
def unpin (op : Nat) (s : State) : State :=
  s.onOp op fun o =>
    if o.opcode ≠ 0x32 then s
    else if o.dw 8 = 0 then s.finish o {}
    else
      match s.hintRange o with
      | .inl st => s.fail o st
      | .inr r =>
        let pids := (s.hintPages r).filter (fun pid => match s.pages.get? pid with
          | some p => decide (0 < p.pins)
          | none => false)
        let s1 := pids.foldl (fun t pid => match t.pages.get? pid with
          | some p => t.setPage pid { p with pins := p.pins - 1 }
          | none => t) s
        s1.finish o { dw1 := pids.length }

/-- CLEAN: writes the records that are not current, and waits for them (R120, R174). A page that is STEEPING has a current record, unless written lines wait for it. -/
def State.cleanWait (s : State) (o : Op) (pids : List Nat) : State :=
  let bad := pids.any (fun pid => match s.pages.get? pid with
    | some p => p.tileBad
    | none => false)
  if bad then s.fail o .integrity
  else
    let idle := pids.filter (fun pid => match s.pages.get? pid with
      | some p => p.st == .dirty && !p.copying && s.halfRoom (p.stack / 4)
      | none => false)
    let s1 := idle.foldl (fun t pid => t.kilnStart pid true o.runClass) s
    let s2 := pids.foldl (fun t pid => match t.pages.get? pid with
      | some p => if p.st = PageState.kilnEvict then t.setPage pid { p with st := .kilnKeep false }
        else if !p.st.framed ∧ t.lined pid then t.queueMove pid .clean o.runClass else t
      | none => t) s1
    let o1 := { o with pinned := (o.pinned ++ idle).eraseDups }
    let left := pids.filter (fun pid => match s2.pages.get? pid with
      | some p => p.st == .dirty || p.st == .kilnKeep true || p.st == .kilnKeep false || s2.lined pid
      | none => false)
    if left.isEmpty then s2.finish o1 { dw1 := o1.pinned.length } else s2.setOp { o1 with waits := left }

/-- PAGE_HINT: R117, R118, R120. -/
def pageHint (op : Nat) (s : State) : State :=
  s.onOp op fun o =>
    if o.opcode ≠ 0x30 then s
    else if o.dw 8 = 0 then s.finish o {}
    else
      match o.hinted with
      | some pids => s.cleanWait o pids
      | none =>
        match s.hintRange o with
        | .inl st => s.fail o st
        | .inr r =>
          let pids := s.hintPages r
          match bits (o.dw 1) 3 2 with
          | 0 =>
            let todo := pids.filter (fun pid => match s.pages.get? pid with
              | some p => p.st == .kiln && (s.recordStatus p).isNone
                  && !(s.kln.moves.any (fun m => m.page == pid && m.kind == .willneed))
              | none => false)
            (todo.foldl (fun t pid => t.queueMove pid .willneed o.runClass) s).finish o { dw1 := todo.length }
          | 1 =>
            let cs := pids.filter (fun pid => match s.pages.get? pid with
              | some p => s.counted p
              | none => false)
            let s1 := cs.foldl (fun t pid => match t.pages.get? pid with
              | some p => if p.overflow then t else t.setPage pid { p with ctr := 0 }
              | none => t) s
            s1.finish o { dw1 := cs.length }
          | _ =>
            let o1 := { o with hinted := some pids }
            (s.setOp o1).cleanWait o1 pids

def execPageHint (op : Nat) (s : State) : Res := .next (pageHint op s)
def execPin (op : Nat) (s : State) : Res := .next (pin op s)
def execUnpin (op : Nat) (s : State) : Res := .next (unpin op s)
def execCowCopyDone (page : Nat) (s : State) : Res := .next (cowCopyDone page s)
def execPendingTableRoom (s : State) : Res := .next (pendingTableRoom s)
def execSteepingDone (page : Nat) (r : SteepResult) (s : State) : Res := .next (steepingDone page r s)
def execKilningDone (page : Nat) (r : KilnResult) (s : State) : Res := .next (kilningDone page r s)
def execPageMoveStart (page : Nat) (s : State) : Res := .next (pageMoveStart page s)
def execEvictionStart (half : Nat) (stack : Option Nat) (s : State) : Res := .next (evictionStart half stack s)
def execCounterHalve (s : State) : Res := .next (counterHalve s)
def execFetchDeadline (fetch : LateFetch) (s : State) : Res := .next (fetchDeadline fetch.page fetch.result s)
def execCollection (stack : Nat) (s : State) : Res := .next (collection stack s)
def execKilnSpaceTimeout (op : Nat) (s : State) : Res := .next (kilnSpaceTimeout op s)
def execJournalCommitDone (op : Nat) (s : State) : Res := .next (journalCommitDone op s)
def execJournalCheckpoint (s : State) : Res := .next (journalCheckpoint s)

end Sys2Proof.Machine
end

