-- ==== Sys2Proof/Machine/Cxl.lean ====
section
/-! DEFINITION. CXL.mem (06_pool.md R181, R189, R190; 03_attention_calls.md R92; 04_steep_and_kiln.md R123 to R129; 05_grist.md R167; 09_ports.md R281, R282, R289, R292, R310). -/

namespace Sys2Proof.Machine

/-- What a CXL.mem address reaches. -/
inductive CxlTarget where
  /-- Before READY or after a flush: poison, not counted (R138, R282). -/
  | dead
  /-- R310. -/
  | insecure
  /-- R361. -/
  | parked
  /-- R292. -/
  | miss
  /-- R181. -/
  | refused
  /-- The mailbox of a slot, at an offset (R92). -/
  | mailbox (slot off : Nat)
  | extent (record off : Nat) (e : Ext)
  deriving DecidableEq, Repr

/-- R310: the port carries the request. -/
def Port.admits (q : Port) (ide : Option Nat) : Bool := !q.ideRequired || ide.isSome

/-- The port's link carries CXL.mem (R280). -/
def State.carries (s : State) (port : Nat) : Bool := decide (port < Config.nPorts) && (s.port port).cxl && (s.port port).width != 0

/-- R361: CXL.mem, peer windows and doorbells are refused while PARKED, on the way out, and from the end of entry step 1. -/
def State.parkRefuses (s : State) : Bool :=
  s.pwr.state == .parked || s.pwr.state == .leaving || (s.pwr.state == .entering && s.pwr.drained)

/-- R92: the mailbox that the granule of an address maps. -/
def State.mailboxAt (s : State) (port addr : Nat) : Option (Nat × Nat) :=
  (s.slots.find? (fun e => e.2.bound && e.2.fast && e.2.mailboxEn && !e.2.mboxDisabled && (s.part e.2.partner).port == port
    && decide (e.2.mboxBase ≤ addr) && decide (addr < e.2.mboxBase + Config.granuleBytes))).map (fun e => (e.1, addr - e.2.mboxBase))

/-- Resolves a CXL.mem request. -/
def State.cxlTarget (s : State) (port addr len : Nat) (ide : Option Nat) : CxlTarget :=
  if !s.serving then .dead
  else if !(s.port port).admits ide then .insecure
  else if s.parkRefuses then .parked
  else
    match (decodeHpa (s.port port).hdm addr).bind (s.extentOn port) with
    | none => .miss
    | some (r, e, off) =>
      if e.granules * Config.granuleBytes < off + len then .miss
      else if e.refusal.isSome then .refused
      else match s.mailboxAt port addr with
        | some (n, o) => .mailbox n o
        | none => .extent r off e

/-- Counts a refused request (R181, R292, R310, R361). -/
def State.countRefused (s : State) (port : Nat) (t : CxlTarget) : State :=
  let q := s.port port
  match t with
  | .insecure => s.setPort port { q with ideRefuse := inc32 q.ideRefuse }
  | .parked => { s with pwr := { s.pwr with parkedRefuse := inc32 s.pwr.parkedRefuse } }
  | .miss => s.setPort port { q with memMiss := inc32 q.memMiss }
  | .refused => { s with pool := { s.pool with refusedCnt := inc32 s.pool.refusedCnt } }
  | _ => s

/-- A read of an extent's page, or of a grist view (R125, R167). A page that nothing has written is all zeros, and counts. -/
def State.readExtent (s : State) (r : ReadWait) (e : Ext) (off : Nat) : State :=
  match e.view with
  | some _ => s.startRead { r with target := .view r.record off }
  | none => match s.pageAt (.group e.group) (off / 65536) with
    | none => (s.bumpZero (.group e.group) (off / 65536)).answerRead r (List.replicate r.len 0)
    | some pid => s.startRead { r with target := .page pid (off % 65536) }

/-- CXL_MEM_READ. -/
def cxlMemRead (port addr len : Nat) (ide : Option Nat) (s : State) : State :=
  if !s.carries port ∨ len = 0 ∨ 64 < addr % 64 + len then s
  else s.arrives port ide fun s =>
    let s := s.awaken
    let r : ReadWait := { id := s.nextRead, port := port, len := len, target := .page 0 0, pages := [], record := 0, arrival := s.tim.clock }
    let s1 := { s with nextRead := s.nextRead + 1 }
    match s.cxlTarget port addr len ide with
    | .mailbox n off => s1.emit (.cxlData port r.id ((s.slot n).mbox.slice off len))
    | .extent rec0 off e => s1.readExtent { r with record := rec0 } e off
    | t => (s1.countRefused port t).emit (.cxlPoison port r.id)

/-- A write into an extent's page: the page is the record's own, in its frame or through the pending-write table (R124, R125). -/
def State.writeExtent (s : State) (port : Nat) (peer : Option Nat) (rec0 : Nat) (e : Ext) (off : Nat) (bs : List Byte) : State :=
  match s.ownPage (.group e.group) (off / 65536) with
  | none => s
  | some (pid, s1) => (s1.hostWrite { port := port, peer := peer, record := rec0, pieces := [(pid, off % 65536, bs)], since := s1.tim.clock }).reapTables

/-- A write into a mailbox: the areas that a partner may write (R92). -/
def State.writeMailbox (s : State) (n off : Nat) (bs : List Byte) : State :=
  let sl := s.slot n
  s.setSlot n { sl with mbox := bs.zipIdx.foldl (fun m b => if mailboxWritable (off + b.2) then m.write (off + b.2) [b.1] else m) sl.mbox }

/-- R167: a write that reaches a view, or a view's blob, is dropped. -/
def State.viewDrop (s : State) (port : Nat) : State :=
  { s with grs := { s.grs with viewDropCnt := inc32 s.grs.viewDropCnt } }.emit (.cxlDropped port)

/-- CXL_MEM_WRITE. -/
def cxlMemWrite (port addr : Nat) (bs : List Byte) (ide : Option Nat) (s : State) : State :=
  if !s.carries port ∨ bs.length = 0 ∨ 64 < addr % 64 + bs.length then s
  else s.arrives port ide fun s =>
    let s := s.awaken
    match s.cxlTarget port addr bs.length ide with
    | .mailbox n off => (s.writeMailbox n off bs).emit (.cxlDone port)
    | .extent rec0 off e => if s.viewGuard rec0 then s.viewDrop port else s.writeExtent port none rec0 e off bs
    | t => (s.countRefused port t).emit (.cxlDropped port)

/-- CXL_MEM_READ_TIMEOUT: R129. A move the read started goes on. -/
def cxlMemReadTimeout (id : Nat) (s : State) : State :=
  match s.reads.find? (fun r => r.id == id && r.peer.isNone) with
  | none => s
  | some r =>
    let s1 := s.expire (r.arrival + 2000000)
    let s2 := { s1.dropRead r with kln := { s1.kln with poisonCnt := inc32 s1.kln.poisonCnt } }
    (s2.endRead r).poisonRead r

def execCxlMemRead (port addr len : Nat) (ide : Option Nat) (s : State) : Res := .next (cxlMemRead port addr len ide s)
def execCxlMemWrite (port addr : Nat) (data : List Byte) (ide : Option Nat) (s : State) : Res := .next (cxlMemWrite port addr data ide s)
def execCxlMemReadTimeout (read : Nat) (s : State) : Res := .next (cxlMemReadTimeout read s)

end Sys2Proof.Machine
end

