-- ==== Sys2Proof/Machine/Pool.lean ====
section
/-! DEFINITION. Extents, leases and share groups (06_pool.md R175 to R188, R435), the host side of dynamic capacity (09_ports.md R290, R291), HEARTBEAT, grist views (05_grist.md R167), the spread pool (R206 to R213) and the memory device mailbox (R293). -/

namespace Sys2Proof.Machine

/-- The lowest number that a table does not use. -/
def freeKey {α : Type} (m : Map α) : Nat := ((List.range (m.length + 1)).find? (fun k => (m.get? k).isNone)).getD m.length

/-- Size of an extent in bytes. -/
def Ext.bytes (e : Ext) : Nat := e.granules * Config.granuleBytes

def sixtyFourTib : Nat := 70368744177664

/-- The function that carries an extent's partner. -/
def State.extPort (s : State) (e : Ext) : Nat := (s.part e.partner).port

def State.setExt (s : State) (r : Nat) (e : Ext) : State := { s with pool := { s.pool with recs := s.pool.recs.set r e } }

/-- Records of a share group. -/
def State.groupRecs (s : State) (g : Nat) : Nat := (s.pool.recs.filter (fun e => e.2.group == g)).length

/-- R291: an event of the Dynamic Capacity log: 0 Add Capacity, 1 Release, 2 forced Release; then DPA, length, tenant and record of the tag, position. -/
def State.capacityEvent (s : State) (kind r : Nat) (e : Ext) : State :=
  s.logEvent (s.extPort e) 4 [kind, e.dpa, e.bytes, e.tenant, r, e.position]

/-- The pages of a share group. -/
def State.groupPages (s : State) (g : Nat) : List Nat := ((s.pool.groups.get? g).map (fun q => q.pages.map (·.2))).getD []

/-- A descriptor or call ends with a status of R181. -/
def State.endOp (s : State) (o : Op) (st : Status) : State :=
  if o.binds then s.bindFails o st else s.endFor o st

/-- R126, R181, R185: a scrub takes a page's lock: moves and lines go, and what waits on the page ends; a framed page is zero-filled at class 2. -/
def State.scrubPage (s : State) (st : Status) (pid : Nat) : State :=
  let s1 := ((s.ops.filter (fun o => o.phase == .running && o.waits.contains pid)).map (·.id)).foldl (fun t id => match t.op? id with
    | some o => if o.phase = .running then t.endOp o st else t
    | none => t) s
  let s2 := (s1.reads.filter (fun r => r.pages.contains pid)).foldl (fun t r =>
    { (t.dropRead r).endRead r with pool := { t.pool with refusedCnt := inc32 t.pool.refusedCnt } }.poisonRead r) s1
  (s2.abandonPage pid).zeroFill pid

/-- R185: the scrub of a share group's pages, once none of its records but SCRUBBING ones is left; `before`: the state before the record that ends left them. -/
def State.scrubGroup (s before : State) (g : Nat) (st : Status) : State :=
  if s.scrubbing g ∧ !before.scrubbing g then (s.groupPages g).foldl (fun t pid => t.scrubPage st pid) s else s

/-- R178: the group's last record reaches FREE: its pages go, scrubbed if no scrub of a record has done so yet. -/
def State.freeGroup (s : State) (e : Ext) : State :=
  let st := e.refusal.getD .extentDraining
  let s1 := if s.scrubbing e.group then s else (s.groupPages e.group).foldl (fun t pid => t.scrubPage st pid) s
  (s1.groupPages e.group).foldl (fun t pid => t.freePage pid) s1

/-- R435: the record reaches FREE by a path other than a device reset. With its group's last record the pages of the group go (R178); the end of a view empties the units' caches (R167). -/
def State.released (s : State) (r : Nat) : State :=
  match s.pool.recs.get? r with
  | none => s
  | some e =>
    let last := s.groupRecs e.group ≤ 1
    let s1 := if last then s.freeGroup e else s
    let s2 := { s1 with
      grs := if e.view.isSome then { s1.grs with cache := [] } else s1.grs
      pool := { s1.pool with
        recs := s1.pool.recs.erase r
        groups := if last then s1.pool.groups.erase e.group else s1.pool.groups } }
    (s2.scrubGroup s e.group .extentDraining).reapTables.emit (.fm "EXTENT_RELEASED" r)

/-! ### Adding records -/

/-- R435: the refusals that EXTENT_ADD and VIEW_BIND share, in two parts: ALIGN and BOUNDS, then ACCESS. -/
def State.addBounds (s : State) (tenant partner dpa granules leaseMs : Nat) : Option Status :=
  let size := granules * Config.granuleBytes
  let port := (s.part partner).port
  firstOf [
    (dpa % Config.granuleBytes != 0, .align),
    (decide (1023 < tenant) || decide (4095 < partner) || granules == 0 || decide (65536 < granules) || decide (sixtyFourTib < dpa + size)
      || decide (leaseMs < 1000) || decide (3600000 < leaseMs)
      || s.pool.recs.any (fun e => (s.extPort e.2 == port || e.2.partner == partner) && decide (e.2.dpa < dpa + size)
          && decide (dpa < e.2.dpa + e.2.bytes)), .bounds)]

def State.addAccess (s : State) (tenant partner : Nat) : Bool :=
  !s.tenantActive tenant || (s.part partner).tenant != some tenant

def State.addBusy (s : State) (partner : Nat) : Bool :=
  decide (Config.nRecords ≤ s.pool.recs.length) || decide (4096 ≤ (s.pool.recs.filter (fun e => e.2.partner == partner)).length)

/-- Makes a record OFFERED and posts its event (R180, R291). -/
def State.offer (s : State) (e : Ext) : State :=
  let r := freeKey s.pool.recs
  let e1 := { e with st := .offered, since := s.tim.clock, born := s.pool.nextBorn }
  let s1 := { s with pool := { s.pool with nextBorn := s.pool.nextBorn + 1, recs := s.pool.recs.set r e1, withdrawn := s.pool.withdrawn.filter (fun w =>
    !(w.1 == s.extPort e && decide (w.2.1 < e.dpa + e.bytes) && decide (e.dpa < w.2.1 + w.2.2))) } }
  (s1.capacityEvent 0 r e1).success [r]

/-- EXTENT_ADD: R175 to R180, R186, R290, R435. DESIGN CHOICE (log 12): a share record that is a grist view is refused ACCESS. -/
def extentAdd (ses tenant partner dpa granules leaseMs share : Nat) (s : State) : State :=
  let ps := leBytes tenant 2 ++ leBytes partner 2 ++ leBytes dpa 8 ++ leBytes granules 4 ++ leBytes leaseMs 4 ++ leBytes share 4
  s.mgmt ses .poolState 0xC400 ps fun s =>
    let new := share == 0xFFFFFFFF
    let mate := s.pool.recs.get? share
    let badMate := match mate with
      | some m => !(m.tenant == tenant && (m.st == .offered || m.st == .active)) || m.view.isSome
      | none => true
    match firstOf [
      (dpa % Config.granuleBytes != 0, .align),
      (!new && decide (Config.nRecords ≤ share), .bounds),
      ((s.addBounds tenant partner dpa granules leaseMs).isSome, .bounds),
      (s.addAccess tenant partner, .access),
      (!new && badMate, .access),
      (!new && (mate.map (·.granules)) != some granules, .bounds),
      (s.addBusy partner || (!new && (match mate with
        | some m => decide (64 ≤ s.groupRecs m.group)
        | none => false)), .busy),
      (new && decide (s.poolFree < granules * Config.granuleBytes), .resvExceeds)] with
    | some st => s.refuse st
    | none =>
      let e : Ext := { st := .offered, tenant := tenant, partner := partner, dpa := dpa, granules := granules, leaseMs := leaseMs, group := s.pool.nextGroup }
      match mate, new with
      | some m, false => s.offer { e with group := m.group, position := s.groupRecs m.group }
      | _, _ =>
        let g : Group := { tenant := tenant, granules := granules, creator := freeKey s.pool.recs }
        ({ s with pool := { s.pool with groups := s.pool.groups.set s.pool.nextGroup g, nextGroup := s.pool.nextGroup + 1 } }).offer e

/-- VIEW_BIND: R155, R157, R163, R167, R343, R435. A view reserves nothing and has no pages. A blob header in another tenant's tile is refused INTEGRITY, before GRIST_CORRUPT (log 12). -/
def viewBind (ses tenant partner dpa granules leaseMs blobRecord blobOffset : Nat) (s : State) : State :=
  let ps := leBytes tenant 2 ++ leBytes partner 2 ++ leBytes dpa 8 ++ leBytes granules 4 ++ leBytes leaseMs 4 ++ leBytes blobRecord 4 ++ leBytes blobOffset 8
  s.mgmt ses .poolState 0xC401 ps fun s =>
    let blob := s.pool.recs.get? blobRecord
    let foreign := (blob.map (fun b => s.spanForeign (extSpan blobRecord b blobOffset 64))).getD false
    let head := if foreign then none else blob.bind (fun b => Grist.blobHead (s.spanBytes (extSpan blobRecord b blobOffset 64)))
    let mask := (head.map (·.mask)).getD 0
    match firstOf [
      (dpa % Config.granuleBytes != 0 || blobOffset % 64 != 0, .align),
      (decide (Config.nRecords ≤ blobRecord) || (s.addBounds tenant partner dpa granules leaseMs).isSome
        || (match blob with
          | some b => decide (b.bytes < blobOffset + 64) || (match head with
            | some h => decide (b.bytes < blobOffset + h.total)
            | none => false)
          | none => false), .bounds),
      (s.addAccess tenant partner || (match blob with
        | some b => !(b.tenant == tenant && b.st == .active && b.view.isNone)
        | none => true), .access),
      (foreign, .integrity),
      (head.isNone, .gristCorrupt),
      ((Grist.blobTables mask).any (fun t => !s.tableLoaded tenant t), .tableMissing),
      (s.addBusy partner, .busy)] with
    | some st => (s.countCorrupt st).refuse st
    | none =>
      let v : View := ⟨blobRecord, blobOffset, (head.map (·.n)).getD 0, mask⟩
      ({ s with pool := { s.pool with nextGroup := s.pool.nextGroup + 1 } }).offer
        { st := .offered, tenant := tenant, partner := partner, dpa := dpa, granules := granules, leaseMs := leaseMs
          group := s.pool.nextGroup, view := some v }

/-! ### Draining (R181 to R185) -/

/-- R184: mailboxes whose granule lies in the extent are disabled. -/
def State.disableMailboxes (s : State) (r : Nat) : State :=
  { s with slots := s.slots.map (fun (e : Nat × Slot) =>
    if e.2.bound ∧ e.2.mailboxEn ∧ ((s.locate e.2.partner e.2.mboxBase).map (·.1)) = some r then (e.1, { e.2 with mboxDisabled := true }) else e) }

/-- Addresses that an operation names in device or partner memory. -/
def Op.addrs (o : Op) : List Nat :=
  match o.opcode with
  | 0x10 => (if bits (o.dw 1) 27 26 = 0 then [o.q 2] else []) ++ (if bits (o.dw 1) 11 10 = 0 then [o.q 4] else [])
  | 0x11 => if bits (o.dw 1) 11 10 = 0 then [o.q 2] else []
  | 0x12 => (if bits (o.dw 1) 27 26 = 0 ∧ bits (o.dw 1) 31 30 = 0 then [o.q 2] else []) ++ (if bits (o.dw 1) 11 10 = 0 then [o.q 4] else [])
  | 0x13 => (if bits (o.dw 1) 27 26 = 0 then [o.q 2] else []) ++ (if bits (o.dw 1) 11 10 = 0 ∧ !bit (o.dw 7) 19 then [o.q 4] else [])
  | 0x14 => o.q 2 :: (if bit (o.dw 1) 31 then [] else [o.q 6])
  | 0x15 => (if bit (o.dw 1) 31 then [] else [o.q 2]) ++ [o.q 5]
  | 0x30 => if bits (o.dw 1) 1 0 = 0 then [o.q 2] else []
  | 0x31 => if bits (o.dw 1) 1 0 = 0 then [o.q 2] else []
  | 0x32 => if bits (o.dw 1) 1 0 = 0 then [o.q 2] else []
  | 0x40 => if bit (o.dw 8) 31 then [o.q 9] else []
  | 0x41 => if bit (o.dw 2) 31 then [] else [o.q 5]
  | 0x42 => [o.q 5, o.q 7]
  | 0x44 => if bit (o.dw 6) 31 then [o.q 7] else []
  | 0x50 => [o.q 2]
  | 0x60 => [o.q 4]
  | 0x61 => [o.q 4]
  | 0x70 => if bit (o.dw 1) 12 ∨ bits (o.dw 1) 11 10 ≠ 0 then [] else [o.q 2]
  | _ => []

/-- The running operation uses the extent. -/
def State.opUses (s : State) (o : Op) (r : Nat) : Bool :=
  o.mailbox.isNone && o.phase == .running && o.addrs.any (fun a => (s.locate o.partner a).map (·.1) == some r)

/-- R182: operations that run against a record when it enters DRAINING go on. -/
def State.acceptRunning (s : State) (r : Nat) : State :=
  { s with ops := s.ops.map (fun (o : Op) => if s.opUses o r then { o with accepted := o.accepted ++ [r] } else o) }

/-- R180: an ACTIVE record enters DRAINING. -/
def State.drain (s : State) (r : Nat) (cause : Cause) : State :=
  match s.pool.recs.get? r with
  | some e =>
    if e.st = .active then ((s.acceptRunning r).disableMailboxes r).setExt r { e with st := .draining, cause := cause, since := s.tim.clock } else s
  | none => s

/-- A request to the extent is in flight: one that has been accepted and not answered (R180, R182). -/
def State.inFlight (s : State) (r : Nat) : Bool :=
  s.ops.any (fun o => s.opUses o r) || s.reads.any (fun d => d.record == r) || s.kln.pendWait.any (fun w => w.record == r)

/-- R182, R183: what still runs 1 ms after the entry ends: reads with poison, operations with the status of R181. A write that still waits for room is refused as a new one would be, though R182 names reads alone (DESIGN CHOICE, log 15). -/
def State.endStragglers (s : State) (r : Nat) (st : Status) : State :=
  let s1 := (s.reads.filter (fun d => d.record == r)).foldl (fun t d => ((t.dropRead d).endRead d).poisonRead d) s
  let s2 := (s1.kln.pendWait.filter (fun w => w.record == r)).foldl (fun t w => t.refuseWrite w) s1
  ((s2.ops.filter (fun o => s2.opUses o r)).map (·.id)).foldl (fun t id => match t.op? id with
    | some o => if o.phase = .running then t.endOp o st else t
    | none => t) s2

/-- DRAIN_END: R126, R180, R182, R183, R185, R359. The scrub of a group's pages starts with its last record. -/
def drainEnd (r : Nat) (s : State) : State :=
  match s.pool.recs.get? r with
  | none => s
  | some e =>
    if e.st ≠ .draining then s
    else
      let st := e.refusal.getD .extentDraining
      let s1 := (if s.inFlight r then (s.expire (e.since + 1000000)).endStragglers r st else s).awaken
      (s1.setExt r { e with st := .scrubbing }).scrubGroup s1 e.group st

/-- SCRUB_COMPLETE: R126, R185, R435. -/
def scrubComplete (r : Nat) (s : State) : State :=
  match s.pool.recs.get? r with
  | none => s
  | some e => if e.st = .scrubbing then (s.released r).evictEnds else s

/-- EXTENT_WITHDRAW: R179, R180, R291. -/
def extentWithdraw (ses r : Nat) (s : State) : State :=
  s.mgmt ses .poolState 0xC402 (leBytes r 4) fun s =>
    if Config.nRecords ≤ r then s.refuse .bounds
    else
      match s.pool.recs.get? r with
      | none => s.refuse .access
      | some e =>
        match e.st with
        | .offered => (s.released r).success []
        | .active =>
          let s1 := (s.drain r .withdrawn).capacityEvent 2 r e
          { s1 with pool := { s1.pool with withdrawn := s1.pool.withdrawn ++ [(s.extPort e, e.dpa, e.bytes)] } }.success []
        | .draining => s.success []
        | .scrubbing => s.success []

/-! ### Leases (R186 to R188) -/

/-- Sets the expiry of an ACTIVE record to now plus its lease. -/
def State.renew (s : State) (r : Nat) : State :=
  match s.pool.recs.get? r with
  | some e => if e.st = .active then s.setExt r { e with expiry := s.leaseMs + e.leaseMs } else s
  | none => s

def State.extActive (s : State) (r : Nat) : Bool :=
  match s.pool.recs.get? r with
  | some e => e.st == .active
  | none => false

/-- LEASE_SET: R179, R180, R186. -/
def leaseSet (ses r ms : Nat) (s : State) : State :=
  s.mgmt ses .poolState 0xC403 (leBytes r 4 ++ leBytes ms 4) fun s =>
    if Config.nRecords ≤ r ∨ ms < 1000 ∨ 3600000 < ms then s.refuse .bounds
    else
      match s.pool.recs.get? r with
      | some e => if e.st = .active then ((s.setExt r { e with leaseMs := ms }).renew r).success [] else s.refuse .leaseExpired
      | none => s.refuse .leaseExpired

/-- LEASE_RENEW: R179, R180. -/
def leaseRenew (ses r : Nat) (s : State) : State :=
  s.mgmt ses .poolState 0xC404 (leBytes r 4) fun s =>
    if Config.nRecords ≤ r then s.refuse .bounds
    else if s.extActive r then (s.renew r).success []
    else s.refuse .leaseExpired

/-- Code of a record's state in a query's payload. -/
def recStateCode : RecState → Nat
  | .offered => 1
  | .active => 2
  | .draining => 3
  | .scrubbing => 4

/-- EXTENT_QUERY: R179. The record and the milliseconds left on its lease. -/
def extentQuery (ses r : Nat) (s : State) : State :=
  s.mgmt ses .other 0xC405 (leBytes r 4) fun s =>
    if Config.nRecords ≤ r then s.refuse .bounds
    else
      match s.pool.recs.get? r with
      | none => s.success [0]
      | some e => s.success [recStateCode e.st, b2n (e.cause == .lease), e.tenant, e.partner, e.dpa, e.granules, e.leaseMs
          , if e.st = .active then e.expiry - s.leaseMs else 0]

/-- R187: DW2 and DW3 of a HEARTBEAT. -/
def State.earliest (s : State) (partner : Nat) : Nat :=
  match ((s.pool.recs.filter (fun e => e.2.partner == partner && e.2.st == .active)).map (fun e => e.2.expiry - s.leaseMs)).min? with
  | some m => m
  | none => 2 ^ 64 - 1

/-- The record is in DRAINING or SCRUBBING with cause lease. -/
def Ext.lapsed (e : Ext) : Bool := (e.st == .draining || e.st == .scrubbing) && e.cause == .lease

/-- HEARTBEAT: R187. -/
def heartbeat (op : Nat) (s : State) : State :=
  s.onOp op fun o =>
    if o.opcode ≠ 0x02 then s else
    let one := bit (o.dw 1) 18
    let r := bits (o.dw 1) 17 0
    if !(o.zero 1 31 19 && o.zeroFrom 2) || (!one && r != 0) then s.finish o { status := .unsupported, dw23 := s.earliest o.partner }
    else if one then
      match s.pool.recs.get? r with
      | none => s.finish o { status := .access, dw23 := s.earliest o.partner }
      | some e =>
        if e.partner ≠ o.partner then s.finish o { status := .access, dw23 := s.earliest o.partner }
        else if e.st ≠ .active then s.finish o { status := .leaseExpired, dw1 := b2n e.lapsed * 65536, dw23 := s.earliest o.partner }
        else
          let s1 := s.renew r
          s1.finish o { dw1 := 1, dw23 := s1.earliest o.partner }
    else
      let mine := s.pool.recs.filter (fun e => e.2.partner == o.partner)
      let live := (mine.filter (fun e => e.2.st == .active)).map (·.1)
      let s1 := live.foldl (fun t k => t.renew k) s
      s1.finish o { dw1 := live.length + (mine.filter (fun e => e.2.lapsed)).length * 65536, dw23 := s1.earliest o.partner }

/-- LEASE_EXPIRE: R188, R180, R359. -/
def leaseExpire (r : Nat) (s : State) : State :=
  match s.pool.recs.get? r with
  | some e => if e.st = .active ∧ s.leaseRuns then ((s.leaseTo e.expiry).advance 1).awaken.drain r .lease else s
  | none => s

/-- OFFER_LAPSE: R180, R359, R435. DESIGN CHOICE (log 12): the lease length passes on the device's clock, in PARKED too: no lease runs before the host has accepted. -/
def offerLapse (r : Nat) (s : State) : State :=
  match s.pool.recs.get? r with
  | some e => if e.st = .offered then (s.expire (e.since + e.leaseMs * 1000000)).awaken.released r else s
  | none => s

/-! ### The memory device mailbox (R291, R293) -/

/-- The mailbox of a function answers from READY onward (R282), through the gates of a BAR (R285, R310). -/
def State.memMailbox (s : State) (port : Nat) (ide : Option Nat) (k : State → State) : State :=
  if Config.nPorts ≤ port ∨ s.rst.stage ≠ .up ∨ (s.port port).width = 0 ∨ (s.port port).flrBusy then s
  else s.barGate port ide (fun t => k t.awaken)

def State.mailOk (s : State) (port : Nat) (payload : List Nat) : State := s.emit (.mailbox port "Success" payload)
def State.mailBad (s : State) (port : Nat) (code : String) : State := s.emit (.mailbox port code [])

/-- Records of a function that a DPA range of a host command touches. -/
def State.touching (s : State) (port dpa len : Nat) : List (Nat × Ext) :=
  s.pool.recs.filter (fun e => s.extPort e.2 == port && decide (e.2.dpa < dpa + len) && decide (dpa < e.2.dpa + e.2.bytes))

/-- ADD_DYNAMIC_CAPACITY_RESPONSE: R180, R291, R435. `offered` is the record whose event the response answers. -/
def addDynamicCapacityResponse (port offered : Nat) (accepted : List DcExtent) (ide : Option Nat) (s : State) : State :=
  s.memMailbox port ide fun s =>
    let stale := accepted.any (fun x =>
      let hit := s.touching port x.dpa x.length
      hit.isEmpty || hit.any (fun e => e.2.st != .offered))
    match s.pool.recs.get? offered with
    | none => if accepted.isEmpty then s.mailOk port [] else s.mailBad port "Invalid Input"
    | some e =>
      if stale ∨ (e.st ≠ .offered ∧ !accepted.isEmpty) ∨ s.extPort e ≠ port then s.mailBad port "Invalid Input"
      else if e.st ≠ .offered then s.mailOk port []
      else if accepted.any (fun x => x.dpa == e.dpa && x.length == e.bytes) then
        ((s.setExt offered { e with st := .active }).renew offered).mailOk port []
      else (s.released offered).mailOk port []

/-- RELEASE_DYNAMIC_CAPACITY: R180, R291. -/
def releaseDynamicCapacity (port dpa len : Nat) (ide : Option Nat) (s : State) : State :=
  s.memMailbox port ide fun s =>
    let past := s.pool.withdrawn.any (fun w => w == (port, dpa, len))
    match s.pool.recs.find? (fun e => s.extPort e.2 == port && e.2.dpa == dpa && e.2.bytes == len) with
    | some (r, e) =>
      match e.st with
      | .active => (s.drain r .withdrawn).mailOk port []
      | .offered => s.mailBad port "Invalid Input"
      | .draining => s.mailOk port []
      | .scrubbing => s.mailOk port []
    | none => if past then s.mailOk port [] else s.mailBad port "Invalid Input"

/-- GET_DYNAMIC_CAPACITY_EXTENT_LIST: R291. -/
def getDynamicCapacityExtentList (port : Nat) (ide : Option Nat) (s : State) : State :=
  s.memMailbox port ide fun s =>
    let es := s.pool.recs.filter (fun e => s.extPort e.2 == port && e.2.st == .active)
    s.mailOk port (es.length :: es.flatMap (fun e => [e.2.dpa, e.2.bytes, e.2.tenant, e.1, e.2.position]))

/-- GET_DYNAMIC_CAPACITY_CONFIGURATION: R290: one region, its base, length and block size. -/
def getDynamicCapacityConfiguration (port : Nat) (ide : Option Nat) (s : State) : State :=
  s.memMailbox port ide fun s => s.mailOk port [1, 0, sixtyFourTib, Config.granuleBytes]

/-- IDENTIFY_MEMORY_DEVICE: R290, R293: total, volatile-only and persistent-only capacity, and the DC regions. -/
def identifyMemoryDevice (port : Nat) (ide : Option Nat) (s : State) : State := s.memMailbox port ide fun s => s.mailOk port [0, 0, 0, 1]

/-- Opcodes of R293's commands in the CXL command set (log 5: from the CXL specification). -/
def mailboxOpcodes : List Nat :=
  [0x0100, 0x0101, 0x0102, 0x0103, 0x0300, 0x0301, 0x0400, 0x0401, 0x4000, 0x4200, 0x4800, 0x4801, 0x4802, 0x4803]

/-- GET_SUPPORTED_LOGS: R293: the Command Effects Log alone, and its size. -/
def getSupportedLogs (port : Nat) (ide : Option Nat) (s : State) : State := s.memMailbox port ide fun s => s.mailOk port [1, 4 * mailboxOpcodes.length]

/-- GET_LOG: R293. -/
def getLog (port : Nat) (effectsLog : Bool) (ide : Option Nat) (s : State) : State :=
  s.memMailbox port ide fun s => if effectsLog then s.mailOk port mailboxOpcodes else s.mailBad port "Invalid Log"

/-- GET_EVENT_RECORDS: R293: the overflow flag, the number of records, then each record. -/
def getEventRecords (port log : Nat) (ide : Option Nat) (s : State) : State :=
  s.memMailbox port ide fun s =>
    if 5 ≤ log then s.mailBad port "Invalid Input"
    else
      let q := s.port port
      let es := q.events.filter (fun e => e.log == log)
      s.mailOk port (b2n (q.overflow.contains log) :: es.length :: es.flatMap (fun e => e.handle :: e.timestamp.toNat :: e.body.length :: e.body))

/-- CLEAR_EVENT_RECORDS: R293. The overflow flag of the log clears with them. -/
def clearEventRecords (port log : Nat) (handles : List Nat) (ide : Option Nat) (s : State) : State :=
  s.memMailbox port ide fun s =>
    let q := s.port port
    if 5 ≤ log then s.mailBad port "Invalid Input"
    else if !(handles.all (fun h => q.events.any (fun e => e.log == log && e.handle == h))) then s.mailBad port "Invalid Handle"
    else
      (s.setPort port { q with events := q.events.filter (fun e => !(e.log == log && handles.contains e.handle))
                               overflow := q.overflow.filter (· != log) }).mailOk port []

/-- GET_EVENT_INTERRUPT_POLICY: R293. -/
def getEventInterruptPolicy (port : Nat) (ide : Option Nat) (s : State) : State := s.memMailbox port ide fun s => s.mailOk port (s.port port).policy

/-- SET_EVENT_INTERRUPT_POLICY: R293: one byte for each of the five logs. -/
def setEventInterruptPolicy (port : Nat) (policy : List Nat) (ide : Option Nat) (s : State) : State :=
  s.memMailbox port ide fun s =>
    if policy.length ≠ 5 then s.mailBad port "Invalid Payload Length"
    else (s.setPort port { s.port port with policy := policy.map (· % 256) }).mailOk port []

/-- GET_HEALTH_INFO: R293; the figure stops changing in shedding stage 2 (R393). -/
def getHealthInfo (port : Nat) (ide : Option Nat) (s : State) : State :=
  s.memMailbox port ide fun s =>
    let used := bits s.klnWear 15 0
    s.mailOk port [min 100 (used / 100)]

/-- GET_TIMESTAMP: R293. -/
def getTimestamp (port : Nat) (ide : Option Nat) (s : State) : State := s.memMailbox port ide fun s => s.mailOk port [s.tim.time.toNat]

/-- SET_TIMESTAMP: R293: an offset of this function's event records; TIME is unchanged. -/
def setTimestamp (port : Nat) (value : DWord) (ide : Option Nat) (s : State) : State :=
  s.memMailbox port ide fun s =>
    (s.setPort port { s.port port with tsOffset := (value.toNat : Int) - s.tim.time.toNat }).mailOk port []

/-- UNSUPPORTED_MAILBOX_COMMAND: R293. -/
def unsupportedMailboxCommand (port _opcode : Nat) (ide : Option Nat) (s : State) : State := s.memMailbox port ide fun s => s.mailBad port "Unsupported"

/-! ### The spread pool (R206, R207) -/

/-- POOL_JOIN: R206. -/
def poolJoin (ses ns member : Nat) (s : State) : State :=
  s.mgmt ses .poolState 0xC420 (leBytes ns 4 ++ leBytes member 2) fun s =>
    if 20479 < member then s.refuse .bounds
    else if s.pool.ns.isSome then s.refuse .busy
    else { s with pool := { s.pool with ns := some (ns, member) } }.success []

/-- MEMBER_SET: R206. -/
def memberSet (ses member kind pbr port : Nat) (s : State) : State :=
  s.mgmt ses .poolState 0xC421 (leBytes member 2 ++ leBytes kind 1 ++ leBytes pbr 2 ++ leBytes port 1) fun s =>
    if 20479 < member ∨ Config.nPorts ≤ port ∨ 2 < kind ∨ 4095 < pbr then s.refuse .bounds
    else { s with pool := { s.pool with members := s.pool.members.set member ⟨kind, pbr, port⟩ } }.success []

/-- MEMBER_REMOVE: R206. -/
def memberRemove (ses member : Nat) (s : State) : State :=
  s.mgmt ses .poolState 0xC422 (leBytes member 2) fun s =>
    if (s.pool.members.get? member).isNone then s.refuse .versionGone
    else { s with pool := { s.pool with members := s.pool.members.erase member } }.success []

/-- REMOTE_GRANT: R207, R338, R435. -/
def remoteGrant (ses member base len tenant rights : Nat) (s : State) : State :=
  s.mgmt ses .poolState 0xC423 (leBytes member 2 ++ leBytes base 8 ++ leBytes len 8 ++ leBytes tenant 2 ++ leBytes rights 1) fun s =>
    if base % 4096 ≠ 0 ∨ len % 4096 ≠ 0 then s.refuse .align
    else if (s.pool.members.get? member).isNone ∨ s.tenantLeaving tenant then s.refuse .access
    else if 65536 ≤ s.pool.grants.length then s.refuse .busy
    else
      let n := freeKey s.pool.grants
      { s with pool := { s.pool with grants := s.pool.grants.set n ⟨member, base, len, tenant, rights⟩ } }.success [n]

/-- REMOTE_REVOKE: R207. -/
def remoteRevoke (ses n : Nat) (s : State) : State :=
  s.mgmt ses .poolState 0xC424 (leBytes n 2) fun s =>
    if (s.pool.grants.get? n).isNone then s.refuse .versionGone
    else { s with pool := { s.pool with grants := s.pool.grants.erase n } }.success []

/-! ### Peer windows (R210 to R213) -/

def Window.base (w : Window) : Nat := bits w.baseLo 31 21 * 2097152 + bits w.baseHi 19 0 * 2 ^ 32
def Window.granules (w : Window) : Nat := bits w.size 16 0
def Window.record (w : Window) : Nat := bits w.tgt 17 0
def Window.offset (w : Window) : Nat := bits w.off 15 0
def Window.enabled (w : Window) : Bool := bit w.ctl 0
def Window.readable (w : Window) : Bool := bit w.ctl 1
def Window.writable (w : Window) : Bool := bit w.ctl 2

def State.shadowWin (s : State) (n : Nat) : Window := s.pool.shadow.get n {}
def State.activeWin (s : State) (n : Nat) : Window := s.pool.act.get n {}

/-- R211: the source filter. -/
def Window.passes (w : Window) (member : Nat) : Bool :=
  bit w.src 31 || Nat.land member (bits w.src 29 15) == Nat.land (bits w.src 14 0) (bits w.src 29 15)

/-- R210: the window that serves a request. DESIGN CHOICE (log 15): of members that share a PBR ID, the lowest-numbered is the source. -/
def State.windowFor (s : State) (pbr addr : Nat) (write : Bool) : Option (Nat × Window) :=
  match s.pool.members.find? (fun m => m.2.pbr == pbr) with
  | none => none
  | some (member, _) => ((List.range 64).map (fun n => (n, s.activeWin n))).find? (fun w =>
      w.2.enabled && decide (w.2.base ≤ addr) && decide (addr < w.2.base + w.2.granules * Config.granuleBytes) && w.2.passes member
        && (if write then w.2.writable else w.2.readable))

/-- PEER_WINDOW_REQUEST: R181, R210, R213, R310, R361. A request crosses no 4 KiB boundary. -/
def peerWindowRequest (port pbr addr : Nat) (write : Option (List Byte)) (len : Nat) (ide : Option Nat) (s : State) : State :=
  let len := match write with
    | some bs => bs.length
    | none => len
  if Config.nPorts ≤ port ∨ (s.port port).width = 0 ∨ !s.serving ∨ len = 0 ∨ 4096 < addr % 4096 + len then s
  else s.arrives port ide fun s =>
    if !(s.port port).admits ide then
      (s.setPort port { s.port port with ideRefuse := inc32 (s.port port).ideRefuse }).emit (.peerUr pbr)
    else
    let s := s.awaken
    if s.parkRefuses then
      let s1 := { s with pwr := { s.pwr with parkedRefuse := inc32 s.pwr.parkedRefuse } }
      if write.isSome then s1 else s1.emit (.peerPoison pbr)
    else
      match s.windowFor pbr addr write.isSome with
      | none => { s with pool := { s.pool with peerUrCnt := inc32 s.pool.peerUrCnt } }.emit (.peerUr pbr)
      | some (n, w) =>
        let off := w.offset * Config.granuleBytes + (addr - w.base)
        let refused := { s with pool := { s.pool with refusedCnt := inc32 s.pool.refusedCnt } }.emit
          (if write.isSome then .peerAbort pbr else .peerPoison pbr)
        match (s.pool.recs.get? w.record).filter (fun e => e.st == .active && s.pool.actBorn.get? n == some e.born) with
        | none => refused
        | some e =>
          match write with
          | some bs =>
            if s.viewGuard w.record then { s with grs := { s.grs with viewDropCnt := inc32 s.grs.viewDropCnt } }.emit (.peerAbort pbr)
            else s.writeExtent port (some pbr) w.record e off bs
          | none =>
            let r : ReadWait := { id := s.nextRead, port := port, len := len, target := .page 0 0, pages := [], record := w.record
                                  arrival := s.tim.clock, peer := some pbr }
            { s with nextRead := s.nextRead + 1 }.readExtent r e off

/-- R212: why a commit of a shadow copy is refused. -/
def State.commitRefused (s : State) (w : Window) : Bool :=
  w.enabled && (w.granules == 0 || decide (65536 < w.granules) || decide (2 ^ 52 < w.base + w.granules * Config.granuleBytes)
    || (match s.pool.recs.get? w.record with
      | some e => e.st != .active || decide (e.granules < w.offset + w.granules)
      | none => true))

/-- The commit of window n: the copy in one step, or ERR (R212). -/
def State.commitWindow (s : State) (n : Nat) (ctl : Word) : State :=
  let w := { s.shadowWin n with ctl := w32 (bits ctl 2 0) }
  if s.commitRefused w then { s with pool := { s.pool with shadow := s.pool.shadow.set n { w with ctl := w32 (bits ctl 2 0 + 16) } } }
  else
    let born := match s.pool.recs.get? w.record with
      | some e => s.pool.actBorn.set n e.born
      | none => s.pool.actBorn.erase n
    { s with pool := { s.pool with shadow := s.pool.shadow.set n w, act := s.pool.act.set n w, actBorn := born } }

/-- POOL_PW_COMMIT: a write of POOL_PW_CTL with COMMIT set (R211, R212). -/
def poolPwCommit (ses n : Nat) (value : Word) (s : State) : State :=
  s.mgmt ses .poolState 0xC641 (leBytes (0xB1018 + 64 * n) 4 ++ leBytes value.toNat 4) fun s =>
    if 64 ≤ n ∨ !bit value 3 then s else (s.commitWindow n value).success []

def execHeartbeat (op : Nat) (s : State) : Res := .next (heartbeat op s)
def execPeerWindowRequest (port pbr addr : Nat) (write : Option (List Byte)) (len : Nat) (ide : Option Nat) (s : State) : Res :=
  .next (peerWindowRequest port pbr addr write len ide s)
def execPoolPwCommit (ses window : Nat) (value : Word) (s : State) : Res := .next (poolPwCommit ses window value s)
def execExtentAdd (ses tenant partner dpa granules leaseMs share : Nat) (s : State) : Res :=
  .next (extentAdd ses tenant partner dpa granules leaseMs share s)
def execViewBind (ses tenant partner dpa granules leaseMs blobRecord blobOffset : Nat) (s : State) : Res :=
  .next (viewBind ses tenant partner dpa granules leaseMs blobRecord blobOffset s)
def execExtentWithdraw (ses record : Nat) (s : State) : Res := .next (extentWithdraw ses record s)
def execLeaseSet (ses record leaseMs : Nat) (s : State) : Res := .next (leaseSet ses record leaseMs s)
def execLeaseRenew (ses record : Nat) (s : State) : Res := .next (leaseRenew ses record s)
def execExtentQuery (ses record : Nat) (s : State) : Res := .next (extentQuery ses record s)
def execPoolJoin (ses ns member : Nat) (s : State) : Res := .next (poolJoin ses ns member s)
def execMemberSet (ses member kind pbr port : Nat) (s : State) : Res := .next (memberSet ses member kind pbr port s)
def execMemberRemove (ses member : Nat) (s : State) : Res := .next (memberRemove ses member s)
def execRemoteGrant (ses member base length tenant rights : Nat) (s : State) : Res := .next (remoteGrant ses member base length tenant rights s)
def execRemoteRevoke (ses grant : Nat) (s : State) : Res := .next (remoteRevoke ses grant s)
def execAddDynamicCapacityResponse (via : Via) (offered : Nat) (accepted : List DcExtent) (s : State) : Res :=
  .next (addDynamicCapacityResponse via.port offered accepted via.ide s)
def execReleaseDynamicCapacity (via : Via) (dpa length : Nat) (s : State) : Res :=
  .next (releaseDynamicCapacity via.port dpa length via.ide s)
def execGetDynamicCapacityExtentList (via : Via) (s : State) : Res :=
  .next (getDynamicCapacityExtentList via.port via.ide s)
def execGetDynamicCapacityConfiguration (via : Via) (s : State) : Res :=
  .next (getDynamicCapacityConfiguration via.port via.ide s)
def execIdentifyMemoryDevice (via : Via) (s : State) : Res :=
  .next (identifyMemoryDevice via.port via.ide s)
def execGetSupportedLogs (via : Via) (s : State) : Res :=
  .next (getSupportedLogs via.port via.ide s)
def execGetLog (via : Via) (effectsLog : Bool) (s : State) : Res :=
  .next (getLog via.port effectsLog via.ide s)
def execGetEventRecords (via : Via) (log : Nat) (s : State) : Res :=
  .next (getEventRecords via.port log via.ide s)
def execClearEventRecords (via : Via) (log : Nat) (handles : List Nat) (s : State) : Res :=
  .next (clearEventRecords via.port log handles via.ide s)
def execGetEventInterruptPolicy (via : Via) (s : State) : Res :=
  .next (getEventInterruptPolicy via.port via.ide s)
def execSetEventInterruptPolicy (via : Via) (policy : List Nat) (s : State) : Res :=
  .next (setEventInterruptPolicy via.port policy via.ide s)
def execGetHealthInfo (via : Via) (s : State) : Res :=
  .next (getHealthInfo via.port via.ide s)
def execGetTimestamp (via : Via) (s : State) : Res :=
  .next (getTimestamp via.port via.ide s)
def execSetTimestamp (via : Via) (value : DWord) (s : State) : Res :=
  .next (setTimestamp via.port value via.ide s)
def execUnsupportedMailboxCommand (via : Via) (opcode : Nat) (s : State) : Res :=
  .next (unsupportedMailboxCommand via.port opcode via.ide s)
def execLeaseExpire (record : Nat) (s : State) : Res := .next (leaseExpire record s)
def execOfferLapse (record : Nat) (s : State) : Res := .next (offerLapse record s)
def execDrainEnd (record : Nat) (s : State) : Res := .next (drainEnd record s)
def execScrubComplete (record : Nat) (s : State) : Res := .next (scrubComplete record s)

end Sys2Proof.Machine
end

