-- ==== Sys2Proof/Machine/Ports.lean ====
section
/-! DEFINITION. Port functions (09_ports.md R276 to R310): Bus Master Enable, FLR, D-states, links, link power, interrupts, DMA completions, errors and link encryption. -/

namespace Sys2Proof.Machine

/-- Partners that a function carries. -/
def State.partnersOf (s : State) (port : Nat) : List Nat :=
  (s.parts.filter (fun p => p.2.port == port && (p.2.tenant.isSome || !p.2.rings.isEmpty || p.2.dp.active))).map (·.1)

/-- A commit of the operation that waits for its records is given up: the version is OPEN again (R198, R200). -/
def State.dropCommit (s : State) (o : Op) : State :=
  match s.vers.find? (fun v => v.2.commitOp == some o.id && v.2.st == .committing) with
  | some (v, _) => s.reopenVersion v
  | none => s

/-- Ends an operation that has not finished, with no effect of its own (R22, R267, R276, R277, R374). One that has finished, but has no record yet, keeps its effect and its status, and at an FLR gets no record: R277 step 2 ends it ABORTED, while R22 and R275 say that a call ends with all of its effect or none (DESIGN CHOICE, log 19). -/
def State.abortOp (s : State) (o : Op) (st : Status) : State :=
  match o.phase with
  | .finished => s
  | .fenced => s.fail o st
  | _ => (s.dropCommit o).endOp o st

def State.abortOps (s : State) (pick : Op → Bool) (st : Status) : State :=
  ((s.ops.filter (fun o => pick o && o.phase != .finished)).map (·.id)).foldl (fun t id => match t.op? id with
    | some o => t.abortOp o st
    | none => t) s

/-! ### Bus Master Enable and D-states (R276, R285) -/

/-- Replaces one request of an operation. -/
def Op.setRead (o : Op) (old new : DmaRead) : Op := { o with reads := o.reads.map (fun r => if r = old then new else r) }

/-- So many bytes of the request have come, and are not used: it fails with a status, and holds its tag until all of it has come (R297). -/
def DmaRead.spoiled (r : DmaRead) (n : Nat) (st : Status) : DmaRead :=
  { r with got := (r.got ++ List.replicate n 0).take r.len, bad := some (r.bad.getD st) }

/-- R220: a request failed, with so many bytes of it. A slot call ends with its status, and so does any operation that the function may not serve any more (R276); any other ends with that of its lowest failing request, once all are answered (R166, R209, R235). -/
def State.dmaFails (s : State) (o : Op) (r : DmaRead) (n : Nat) (st : Status) : State :=
  let o1 := o.setRead r (r.spoiled n st)
  let s1 := s.setOp o1
  if o.phase ≠ .running then s1 else if o.isSlotCall ∨ st = .halted then s1.endOp o1 st else s1

/-- A request of the function that a read still waits for: `issued` says whether it has left. -/
def DmaRead.outstanding (r : DmaRead) (port : Nat) (issued : Bool) : Bool :=
  r.port == port && r.tag.isSome == issued && decide (r.got.length < r.len)

/-- R276: fetched descriptors of the function that have not started complete HALTED, and so do running operations that still need a request through it. The data of reads that have left is discarded when it comes. Others stop when they next need the function. -/
def State.halt (s : State) (port : Nat) : State :=
  let s1 := s.abortOps (fun o => o.mailbox.isNone && (s.part o.partner).port == port && (o.phase == .fenced || o.phase == .waitTurn || o.phase == .turn)) .halted
  let s2 := { s1 with ops := s1.ops.map (fun (o : Op) =>
    { o with reads := o.reads.map (fun (r : DmaRead) => if r.outstanding port true ∧ !r.ack then { r with stale := true } else r) }) }
  ((s2.ops.filter (fun o => o.phase == .running)).map (·.id)).foldl (fun t id => match t.op? id with
    | some o => match o.reads.find? (·.outstanding port false) with
      | some r => t.dmaFails o r r.len .halted
      | none => t
    | none => t) s2

/-- R276: held records in completion order with their interrupts, then what else was held, in order, then the requests that waited. That a record's interrupt goes before interrupts and OUT_DMA writes that were held earlier is a choice: the spec orders each only after its own record or header (DESIGN CHOICE, log 14). -/
def State.resumeFunction (s : State) (port : Nat) : State :=
  if !s.mayRequest port then s
  else
    let recs := (s.ops.filter (fun o => o.recordHeld && (s.part o.partner).port == port)).map (·.id)
    let s1 := recs.foldl (fun t id => match t.op? id with
      | some o =>
        let o1 := { o with recordHeld := false }
        (t.setOp o1).writeRecordFor o1
      | none => t) s
    let held := (s1.port port).held
    let s2 := s1.setPort port { s1.port port with held := [] }
    (held.foldl (fun t m => t.send port m) s2).issueReads port

/-- The port exists and its link is up. -/
def State.live (s : State) (port : Nat) : Bool := decide (port < Config.nPorts) && s.linkUp port

/-- BUS_MASTER_ENABLE_CLEAR: R276. -/
def busMasterEnableClear (port : Nat) (s : State) : State :=
  if !s.live port then s else (s.setPort port { s.port port with bme := false }).halt port

/-- BUS_MASTER_ENABLE_SET: R276. -/
def busMasterEnableSet (port : Nat) (s : State) : State :=
  if !s.live port then s else (s.setPort port { s.port port with bme := true }).resumeFunction port

/-- D3HOT_ENTRY: R285. -/
def d3hotEntry (port : Nat) (s : State) : State :=
  if !s.live port then s else (s.setPort port { s.port port with d3 := true }).halt port

/-- D0_RETURN: R285. -/
def d0Return (port : Nat) (s : State) : State :=
  if !s.live port then s else (s.setPort port { s.port port with d3 := false }).resumeFunction port

/-! ### FLR, PERST and link loss (R277, R306 to R308) -/

/-- R277: every fetched descriptor of a partner ends ABORTED without a record; its session ends; its ring contexts return to reset. -/
def State.partnerReset (s : State) (partner : Nat) : State :=
  let s1 := s.endSession partner .aborted 0
  let ids := (s1.ops.filter (fun o => o.mailbox.isNone && o.partner == partner)).map (·.id)
  let s2 := ids.foldl (fun t id => match t.op? id with
    | some o =>
      let t1 := t.abortOp o .aborted
      (t1.noRecord partner).retire ((t1.op? id).getD o)
    | none => t) s1
  s2.setPart partner { s2.part partner with rings := [], coalesce := none }

/-- R307, R308: the function in its reset state. What the PORT_ block of the device holds, the AER log and the IDE streams stay. -/
def Port.functionReset (q : Port) : Port :=
  { q with memSpace := false, bme := false, d3 := false, msi := .none, msiPending := [], pendingV := [], msixTable := [], mrrs := 512, mps := 128
           tagBits := 8, relaxed := true, ctoNs := 40000000, aspmL1 := false, l0pLink := false, held := [], hdm := [], hdmCtl := 0, doe := {}, events := []
           nextHandle := 1, overflow := [], policy := [0, 0, 0, 0, 0], tsOffset := 0, cfg := [] }

/-- R306: the masks and severities of AER are sticky (PCIe's, log 5). -/
def sticky : List Nat := [0x108, 0x10C, 0x114]

/-- R306: FLR clears the configuration space, the MSI-X table and the PBA. What CXL keeps of a function through FLR stays: the decoders, the event logs and their policy, the timestamp (log 5). -/
def Port.flrReset (q : Port) : Port :=
  { q.functionReset with
    hdm := q.hdm, hdmCtl := q.hdmCtl, events := q.events, nextHandle := q.nextHandle, overflow := q.overflow, policy := q.policy, tsOffset := q.tsOffset
    cfg := q.cfg.filter (fun e => sticky.contains e.1) }

/-- FLR: R277, R306. -/
def flr (port : Nat) (s : State) : State :=
  if !s.live port then s
  else
    let s1 := (s.partnersOf port).foldl (fun t p => t.partnerReset p) s
    s1.setPort port { (s1.port port).flrReset with flrBusy := true }

/-- FLR_RESET_COMPLETE: R277. -/
def flrResetComplete (port : Nat) (s : State) : State := s.setPort port { s.port port with flrBusy := false }

/-- R307: the link and the function, its DOE with it, as after a conventional reset. -/
def State.linkReset (s : State) (port : Nat) : State :=
  let s1 := (s.partnersOf port).foldl (fun t p => t.partnerReset p) s
  let q := (s1.port port).functionReset
  { s1.setPort port { q with width := 0, speed := 0, flit := false, cxl := false, l0pWidth := 0, inL1 := false, flrBusy := false, ide := [], governed := false } with
    reads := s1.reads.filter (fun r => r.port != port)
    sec := { s1.sec with spdm := s1.sec.spdm.erase port } }

/-- R307: a link loss that PERST_N did not cause is counted. -/
def State.linkLost (s : State) (port : Nat) : State :=
  let up := s.linkUp port
  let s1 := s.linkReset port
  if up then s1.setPort port { s1.port port with linkDown := inc32 (s1.port port).linkDown } else s1

/-- PERST: R307. -/
def perst (port : Nat) (s : State) : State :=
  if Config.nPorts ≤ port then s
  else
    let s1 := s.linkReset port
    { s1 with pins := { s1.pins with perstLow := (s1.pins.perstLow.filter (· != port)) ++ [port] } }

/-- LINK_LOSS: R307. -/
def linkLoss (port : Nat) (s : State) : State := if s.live port then s.linkLost port else s

/-- R282, R311: the port may train. -/
def State.mayTrain (s : State) (port : Nat) (speed : Nat) (flit cxl : Bool) : Bool :=
  match s.rst.stage with
  | .up => !s.geo.pOffline.contains port && flit
  | .bringup n => decide (9 ≤ n) && !s.geo.pOffline.contains port && flit
  | .recovery => port == 0 && decide (speed ≤ 4) && !cxl
  | _ => false

/-- LINK_UP: R280 to R282, R308, R311. Its function is in its reset state. -/
def linkUp (port width speed : Nat) (flit cxl : Bool) (s : State) : State :=
  if Config.nPorts ≤ port ∨ s.linkUp port ∨ !s.mayTrain port speed flit cxl ∨ width = 0 ∨ 4 < width ∨ 6 < speed then s
  else
    let q := (s.port port).functionReset
    let s1 := s.setPort port { q with width := width, speed := speed, flit := flit, cxl := cxl, l0pWidth := width, inL1 := false, flrBusy := false }
    { s1 with
      pins := { s1.pins with perstLow := s1.pins.perstLow.filter (· != port) }
      sec := { s1.sec with spdm := s1.sec.spdm.erase port } }

/-! ### Link power (R301, R302) -/

/-- R302: the port carries a partner that holds a bound fast slot with MAILBOX_EN. -/
def State.carriesMailbox (s : State) (port : Nat) : Bool :=
  s.slots.any (fun e => e.2.bound && e.2.fast && e.2.mailboxEn && (s.part e.2.partner).port == port)

/-- L0P_MIN as WIDTH encodes it. -/
def l0pMin (ctl : Word) : Nat :=
  match bits ctl 28 27 with
  | 1 => 2
  | 2 => 1
  | _ => 3

/-- R301: the port's queues are empty: nothing waits to leave through it, and no request through it is out. -/
def State.portIdle (s : State) (port : Nat) : Bool :=
  (s.port port).held.isEmpty && (s.port port).wcb.isEmpty && !(s.reads.any (fun r => r.port == port))
    && !(s.ops.any (fun o => o.reads.any (fun r => r.port == port && decide (r.got.length < r.len))))

/-- L0P_ENTRY: R301, R302. -/
def l0pEntry (port : Nat) (s : State) : State :=
  let q := s.port port
  if s.live port ∧ bit q.pmCtl 31 ∧ q.l0pLink ∧ !(s.carriesMailbox port) ∧ s.portIdle port then
    let s1 := s.advance (max 1 (bits q.pmCtl 23 16) * 1000)
    s1.setPort port { q with l0pWidth := min q.width (l0pMin q.pmCtl) }
  else s

/-- L1_ENTRY: R301, R302; STANDBY and PARKED take every port there. -/
def l1Entry (port : Nat) (s : State) : State :=
  let q := s.port port
  let own := q.aspmL1 && bits q.pmCtl 15 0 != 0 && !(s.carriesMailbox port) && s.portIdle port
  let forced := s.pwr.state == .standby || s.pwr.state == .parked
  if !s.live port || q.inL1 then s
  else if forced then s.setPort port { q with inL1 := true }
  else if own then (s.advance (bits q.pmCtl 15 0 * 1000)).setPort port { q with inL1 := true }
  else s

/-- L1_EXIT: R301. -/
def l1Exit (port : Nat) (s : State) : State :=
  let q := s.port port
  if q.inL1 then s.setPort port { q with inL1 := false } else s

/-! ### Interrupts -/

/-- The function's BAR0 takes writes: from READY on, with its link up (R282). -/
def State.barUp (s : State) (port : Nat) : Bool := s.live port && s.rst.stage == .up && !(s.port port).flrBusy

/-- MSIX_UNMASK: R282, R285, R287, R303, R310: with MSI enabled it clears a mask bit of the configuration space, else one of the MSI-X table in BAR0; what was pending and is not masked any more is sent. -/
def msixUnmask (port vector : Nat) (ide : Option Nat) (s : State) : State :=
  if 2048 ≤ vector ∨ !s.live port ∨ (s.port port).flrBusy then s
  else match (s.port port).msi with
    | .msi n =>
      let q := s.port port
      (s.setPort port { q with cfg := q.cfg.set 0x60 (q.cfg.get 0x60 0 &&& ~~~(w32 (2 ^ (vector % n)))) }).sendPending port
    | _ =>
      if !s.barUp port then s
      else s.barGate port ide fun t =>
        let q := t.port port
        (t.setPort port { q with msixTable := q.msixTable.set (4 * vector + 3) (q.msixTable.get (4 * vector + 3) 1 &&& 0xFFFFFFFE) }).sendPending port

/-! ### HDM decoders -/

/-- The Interleave Ways that CXL encodes as a code of the decoder's control register, and the code of a number of ways (log 5). -/
def waysOf (code : Nat) : Nat := [1, 2, 4, 8, 16, 0, 0, 0, 3, 6, 12].getD code 0
def waysCode (ways : Nat) : Nat := ((List.range 11).find? (fun c => waysOf c == ways)).getD 15

/-- R289: a decoder commits with 1-way interleave only. -/
def Decoder.commit (d : Decoder) (ways : Nat) : Decoder := { d with committed := ways == 1, err := ways != 1 }

/-- HDM_DECODER_COMMIT: R281, R282, R285, R289, R310: a write of BAR0. -/
def hdmDecoderCommit (port decoder base size ways : Nat) (ide : Option Nat) (s : State) : State :=
  if !s.barUp port then s
  else s.barGate port ide fun s =>
    let q := s.port port
    if !q.cxl ∨ 4 ≤ decoder ∨ (q.hdm.get decoder {}).committed then s
    else s.setPort port { q with hdm := q.hdm.set decoder (Decoder.commit { base := base, size := size, ctl := w32 (0x200 + 16 * waysCode ways) } ways) }

/-! ### DMA completions (R220, R295 to R299) -/

/-- The operation and request that hold a tag of a function. -/
def State.tagHolder (s : State) (port tag : Nat) : Option (Op × DmaRead) :=
  s.ops.findSome? (fun o => (o.reads.find? (fun r => r.port == port && r.tag == some tag && decide (r.got.length < r.len))).map (fun r => (o, r)))

/-- Bytes that a completion brings for a request of which `owed` are still out: one without data is the last. -/
def answerBytes (a : DmaAnswer) (owed : Nat) : Nat :=
  match a with
  | .data bs => bs.length
  | .poison n => n
  | .ur => owed
  | .ca => owed

/-- A completion for no request of an operation: one whose operation has ended is dropped, and its tag is free once all that it owes has come (R297); any other is unexpected (R304, R307). -/
def State.strayCompletion (s : State) (port tag : Nat) (answer : DmaAnswer) : State :=
  let q := s.port port
  match q.retired.get? tag with
  | some owed =>
    let left := owed - answerBytes answer owed
    (s.setPort port { q with retired := if left = 0 then q.retired.erase tag else q.retired.set tag left }).issueReads port
  | none => s.aer port .unexpectedCompletion

/-- R310: a completion outside the Secure streams that its port requires is refused: it is dropped, and counted. -/
def State.completionGate (s : State) (port : Nat) (ide : Option Nat) (k : State → State) : State :=
  s.arrives port ide fun s =>
    let q := s.port port
    if q.ideRequired && ide.isNone then s.setPort port { q with ideRefuse := inc32 q.ideRefuse } else k s

/-- DMA_COMPLETION: R220, R276, R295, R297, R304, R310. -/
def dmaCompletion (port tag : Nat) (answer : DmaAnswer) (ide : Option Nat) (s : State) : State :=
  if !s.live port ∨ (s.port port).flrBusy then s
  else s.completionGate port ide fun s =>
    match s.tagHolder port tag with
    | none => s.strayCompletion port tag answer
    | some (o, r) =>
      let q := s.port port
      let after :=
        if (r.stale ∨ !q.bme ∨ q.d3) ∧ !r.ack then s.dmaFails o r (answerBytes answer r.len) .halted
        else match answer with
          | .data bs =>
            let got := if r.ack then List.replicate r.len 0 else (r.got ++ bs).take r.len
            s.setOp (o.setRead r { r with got := got })
          | .ur => s.dmaFails o r r.len .access
          | .ca => s.dmaFails o r r.len .access
          | .poison n => (s.dmaFails o r n .media).aer port .poisonedTlp
      after.issueReads port

/-- DMA_COMPLETION_TIMEOUT: R299, R304; a read that Bus Master Enable has cut off ends its operation HALTED (R276). -/
def dmaCompletionTimeout (port tag : Nat) (s : State) : State :=
  let q := s.port port
  match s.tagHolder port tag with
  | some (o, r) =>
    let s1 := s.expire (r.issuedAt + q.ctoNs)
    ((s1.dmaFails o r r.len (if r.stale then .halted else .deadline)).aer port .completionTimeout).issueReads port
  | none => if (q.retired.get? tag).isSome then (s.setPort port { q with retired := q.retired.erase tag }).issueReads port else s

/-! ### Errors (R286, R304, R310) -/

/-- UNDECODED_REQUEST: R280, R286, R304. -/
def undecodedRequest (port : Nat) (_what : BadRequest) (s : State) : State :=
  if !s.live port then s else (s.emit (.unsupportedRequest port)).aer port .unsupportedRequest

/-- MALFORMED_TLP: R304: the TLP is dropped. -/
def malformedTlp (port : Nat) (what : BadTlp) (s : State) : State :=
  if !s.live port then s
  else s.aer port (match what with
    | .malformed => .malformed
    | .flowControl => .flowControl
    | .receiverOverflow => .receiverOverflow)

/-- IDE_CHECK_FAIL: R304, R310: the TLP is dropped, and its stream Insecure until it is keyed again. -/
def ideCheckFail (port stream : Nat) (misrouted : Bool) (s : State) : State :=
  if !s.live port then s
  else
    let q := s.port port
    (s.setPort port { q with ide := q.ide.modify stream (fun i => { i with st := .insecure }) }).aer port (if misrouted then .ideMisrouted else .ideCheck)

def execMsixUnmask (via : Via) (vector : Nat) (s : State) : Res := .next (msixUnmask via.port vector via.ide s)
def execBusMasterEnableClear (port : Nat) (s : State) : Res := .next (busMasterEnableClear port s)
def execBusMasterEnableSet (port : Nat) (s : State) : Res := .next (busMasterEnableSet port s)
def execFlr (port : Nat) (s : State) : Res := .next (flr port s)
def execFlrResetComplete (port : Nat) (s : State) : Res := .next (flrResetComplete port s)
def execD3hotEntry (port : Nat) (s : State) : Res := .next (d3hotEntry port s)
def execD0Return (port : Nat) (s : State) : Res := .next (d0Return port s)
def execPerst (port : Nat) (s : State) : Res := .next (perst port s)
def execLinkLoss (port : Nat) (s : State) : Res := .next (linkLoss port s)
def execLinkUp (port width speed : Nat) (flit cxl : Bool) (s : State) : Res := .next (linkUp port width speed flit cxl s)
def execL0pEntry (port : Nat) (s : State) : Res := .next (l0pEntry port s)
def execL1Entry (port : Nat) (s : State) : Res := .next (l1Entry port s)
def execL1Exit (port : Nat) (s : State) : Res := .next (l1Exit port s)
def execHdmDecoderCommit (via : Via) (decoder base size ways : Nat) (s : State) : Res :=
  .next (hdmDecoderCommit via.port decoder base size ways via.ide s)
def execDmaCompletion (via : Via) (tag : Nat) (answer : DmaAnswer) (s : State) : Res := .next (dmaCompletion via.port tag answer via.ide s)
def execDmaCompletionTimeout (port tag : Nat) (s : State) : Res := .next (dmaCompletionTimeout port tag s)
def execUndecodedRequest (port : Nat) (what : BadRequest) (s : State) : Res := .next (undecodedRequest port what s)
def execMalformedTlp (tlp : DroppedTlp) (s : State) : Res := .next (malformedTlp tlp.port tlp.what s)
def execIdeCheckFail (port : Nat) (check : IdeCheck) (s : State) : Res := .next (ideCheckFail port check.stream check.misrouted s)

end Sys2Proof.Machine
end

