-- ==== Sys2Proof/Machine/Qos.lean ====
section
/-! DEFINITION. Regulation and the steep controllers: reservation writes (R320), fast markings that take effect (R70), credits and urgency (R313 to R319), age limits, row timers and refresh (R327 to R331), and the doorbell and start of a slot call. -/

namespace Sys2Proof.Machine

/-! ### Changes that the arbiter applies (R321, R322) -/

/-- R320: the status of a refused write of a reservation entry. -/
def State.resvRefusal (s : State) (i : Nat) (w : Word) : Option Status :=
  let kind := resvKind w
  let cls := resvCls w
  let v := resvValid w
  let twin := s.qos.valid.any (fun e => e.1 != i && resvKind e.2 == kind && resvId e.2 == resvId w && (kind == 1 || resvCls e.2 == cls))
  let old := s.qos.resv.get i 0
  let before := if resvValid old then resvMin old else 0
  let lowers := decide (resvMin w < before)
  let sum := s.minimaSum - before + resvMin w
  firstOf [
    (bits w 15 11 != 0 || (v && (decide (2 ≤ kind) || (kind == 0 && (cls == 0 || (cls == 7 && resvMin w != 0))) || (kind == 1 && cls != 0))), .unsupported),
    (v && (decide (1024 < resvMin w) || (kind == 0 && decide (1023 < resvId w)) || (kind == 1 && decide (27 < resvId w))), .bounds),
    (v && twin, .access),
    (v && !lowers && decide (s.qos.eff < sum), .resvExceeds)]

/-- Applies a write of a reservation entry and answers it (R320, R321). -/
def State.applyResv (s : State) (i : Nat) (w : Word) : State :=
  match s.resvRefusal i w with
  | some st => s.refuse st
  | none =>
    let table := if w = 0 then s.qos.resv.erase i else s.qos.resv.set i w
    (({ s with qos := { s.qos with resv := table } }).recompute.serveStarved).success []

/-! ### Fast markings -/

/-- Markings in force, those whose FAST_CLEAR has not taken effect included (R437). -/
def State.markings (s : State) : Nat := (s.slots.filter (fun e => e.2.mark.isSome)).length

/-- R114, R397: quotas of all tenants in GiB, `tenant` counted at `quota`. -/
def State.quotaSum (s : State) (tenant quota : Nat) : Nat :=
  quota + ((s.tenants.filter (fun t => t.1 != tenant)).map (fun t => t.2.quota)).sum

/-- R114, R397: the quotas, the markings and the journal of `sizeGib` pass their limits. -/
def pinsFit (quotas marks sizeGib : Nat) : Bool :=
  decide (quotas + 96 * marks ≤ 704) && decide (sizeGib + quotas + 96 * marks ≤ 752)

/-- SIZE_GIB of JRN_CTL. -/
def State.jrnGib (s : State) : Nat := bits s.jrn.ctl 22 16

/-- Judges and applies FAST_MARK, and answers it (R65, R437, R70). -/
def State.applyMark (s : State) (slot tenant : Nat) : State :=
  let sl := s.slot slot
  let held := sl.bound || sl.binding.isSome
  let other := (match sl.mark with
    | some t => t != tenant
    | none => false) || (held && sl.tenant != tenant)
  if 1023 < tenant then s.refuse .bounds
  else if !s.tenantActive tenant ∨ other then s.refuse .access
  else if sl.mark.isSome then
    (if sl.change = .clearing then s.setSlot slot { sl with change := .none } else s).success []
  else if s.fastLimit ≤ s.markings then s.refuse .busy
  else if !pinsFit (s.quotaSum 1024 0) (s.markings + 1) s.jrnGib ∨ s.qos.eff < s.minimaSum + Config.fastMin then s.refuse .resvExceeds
  else if held then (s.setSlot slot { sl with mark := some tenant, change := .adding }).success []
  else ((s.setSlot slot { sl with mark := some tenant }).syncFast).success []

/-- Judges and applies FAST_CLEAR, and answers it (R63, R70, R339). -/
def State.applyClear (s : State) (slot : Nat) : State :=
  let sl := s.slot slot
  if sl.mark.isNone then s.refuse .access
  else if sl.change = .adding then (s.setSlot slot { sl with mark := none, change := .none }).success []
  else if sl.bound ∨ sl.binding.isSome then (s.setSlot slot { sl with change := .clearing }).success []
  else ((s.setSlot slot { sl with mark := none }).syncFast).success []

/-- Applies one change in its turn. -/
def State.applyChange (s : State) (c : QosChange) : State :=
  match c with
  | .gov n => ({ s with qos := { s.qos with gov := n } }).recompute.serveStarved
  | .hot on => ({ s with qos := { s.qos with hot := on } }).recompute.serveStarved
  | .resv i w => s.applyResv i w
  | .clear i =>
    match s.qos.resv.get? i with
    | some w => ({ s with qos := { s.qos with resv := s.qos.resv.set i (w &&& 0x7FFFFFFF) } }).recompute.serveStarved
    | none => s
  | .mark n t => s.applyMark n t
  | .unmark n => s.applyClear n
  | .marks => s.syncFast

/-- R321, R322: a change is applied at once, or held while the arbiter of H1 takes over. -/
def State.arbitrate (s : State) (c : QosChange) : State :=
  if s.qos.takeover then { s with qos := { s.qos with held := s.qos.held ++ [c] } } else s.applyChange c

/-- QOS_RESV_WRITE: R320. -/
def qosResvWrite (ses index : Nat) (value : Word) (s : State) : State :=
  s.mgmt ses .poolState 0xC641 (leBytes (0x71000 + 4 * index) 4 ++ leBytes value.toNat 4) fun s =>
    if 512 ≤ index then s.refuse .bounds else s.arbitrate (.resv index value)

/-! ### Slot calls -/

/-- FAST_MARKING_APPLY: R70. -/
def fastMarkingApply (slot : Nat) (s : State) : State :=
  if (s.slot slot).bound ∧ (s.slot slot).change ≠ .none ∧ !s.slotBusy slot then s.applyMarking slot else s

/-- SLOT_CALL_START: R71, R318. -/
def slotCallStart (op : Nat) (s : State) : State := s.slotCallStart op

/-- BOB_SLOT_DB: R95, R247, R285, R300, R310. -/
def bobSlotDb (port partner : Nat) (value : Word) (nbytes : Nat) (ide : Option Nat) (s : State) : State :=
  s.partnerPage port partner true ide fun s => if 4 < nbytes then s.dropDoorbell partner else s.slotDoorbell port partner value

/-! ### Credits and urgency -/

/-- R319: the watermark of a source of urgency, KiB. -/
def State.urgentMark (s : State) : Urgent → Nat
  | .slot _ _ => bits s.qos.urgCtl 7 0
  | .port _ => bits s.qos.urgCtl 23 16

/-- R319: raises or lowers a source's urgency at a level of its buffer, and reclaims what it lent as it is raised (R318). -/
def State.urge (s : State) (u : Urgent) (levelKib : Nat) : State :=
  let mark := s.urgentMark u
  if s.stp.urgent.contains u then (if 2 * mark ≤ levelKib then { s with stp := { s.stp with urgent := s.stp.urgent.filter (· != u) } } else s)
  else if bit s.qos.ctl 1 ∧ s.urgentReads u ∧ levelKib < mark then
    let m := match u with
      | .slot n _ => Master.fast n
      | .port p => s.portMaster p
    ({ s with stp := { s.stp with urgent := s.stp.urgent ++ [u] } }).reclaim m
  else s

/-- CREDIT_RETURN: R313, R317, R319: the last data beat of an issued request; `levelKib` is what its source's buffer then holds. -/
def creditReturn (stack request levelKib : Nat) (s : State) : State :=
  match (s.queue stack).find? (fun r => r.id == request) with
  | none => s
  | some r =>
    if r.issued = 0 then s
    else
      let s1 := (s.returnCredits stack request).serveStarved
      match r.urgentOf stack with
      | some u => s1.urge u levelKib
      | none => s1

/-- AGE_LIMIT: R327. -/
def ageLimit (stack request : Nat) (s : State) : State :=
  match (s.queue stack).find? (fun r => r.id == request) with
  | none => s
  | some r =>
    let limit := bits (s.stp.sched.get stack 0x7D0010) 25 16 * 16
    if limit = 0 ∨ !r.ready ∨ r.promoted then s
    else
      let s1 := s.expire (r.since + limit)
      s1.setQueue stack ((s1.queue stack).map (fun (x : SteepReq) => if x.id = request then { x with promoted := true } else x))

/-! ### Rows and refresh -/

/-- ROW_IDLE_PRECHARGE: R328. -/
def rowIdlePrecharge (stack bank : Nat) (s : State) : State :=
  match s.openRow stack bank with
  | none => s
  | some o =>
    let idle := bits (s.stp.pageCtl.get stack 0x14) 7 0 * 4
    let closed := fun (t : State) => { t with stp := { t.stp with rows := t.stp.rows.filter (fun r => !(r.stack == stack && r.bank == bank)) } }
    if idle = 0 then
      if (s.queue stack).any (fun r => r.ready && r.bank == bank && r.row == o.row) then s else closed s
    else closed (s.advanceTo (o.lastUse + idle))

/-- Temperature of a steep stack (STP_TEMP). -/
def State.stackTemp (s : State) (k : Nat) : Nat := s.stp.temp.get k 0

/-- The hottest stack. -/
def State.hottest (s : State) : Nat := ((List.range 8).map s.stackTemp).foldl max 0

/-- R331: the level that the next refresh start brings in. -/
def State.hotNext (s : State) : Bool :=
  if s.stp.hot then
    match s.stp.coolSince with
    | some t => !(decide (s.hottest ≤ 82) && decide (t + 100000000 ≤ s.tim.clock))
    | none => true
  else s.stp.passed

/-- The refresh period (R329). -/
def refreshNs (hot : Bool) : Nat := if hot then 1950 else 3900

/-- The controllers refresh: firmware has trained them (R368) and the stacks do not refresh themselves (R357). -/
def State.refreshing (s : State) : Bool :=
  (match s.rst.stage with
    | .up => true
    | .bringup n => decide (7 ≤ n)
    | _ => false) && s.domainMode (.steep 0) == .run

/-- REFRESH_START: R329 to R331. -/
def refreshStart (s : State) : State :=
  if !s.refreshing ∨ s.stp.inGap then s
  else
    let s1 := s.advance (s.stp.next - s.tim.time).toNat
    let s1 := if s.stp.next ≤ s.tim.time then s else s1
    let hot := s1.hotNext
    let was := s1.stp.hot
    let at' := if s1.stp.next ≤ s1.tim.time then s1.tim.time else s1.stp.next
    let s2 := { s1 with stp := { s1.stp with
      hot := hot, passed := decide (85 < s1.hottest), next := at' + BitVec.ofNat 64 (refreshNs hot), inGap := true, gapAt := s1.tim.clock, rows := [] } }
    if hot = was then s2
    else
      let s3 := s2.arbitrate (.hot hot)
      if hot then s3.raise 0x0024 ⟨3, ((List.range 8).find? (fun k => s.stackTemp k == s.hottest)).getD 0⟩ 0 [s.hottest] else s3

/-- REFRESH_GAP_END: R329, R330: the calls whose reads the gap held go on, each with a wait for refresh (R128). -/
def refreshGapEnd (s : State) : State := if s.stp.inGap then s.gapEnd else s

def execQosResvWrite (ses index : Nat) (value : Word) (s : State) : Res := .next (qosResvWrite ses index value s)
def execFastMarkingApply (slot : Nat) (s : State) : Res := .next (fastMarkingApply slot s)
def execSlotCallStart (op : Nat) (s : State) : Res := .next (slotCallStart op s)
def execBobSlotDb (via : Via) (partner : Nat) (value : Word) (nbytes : Nat) (s : State) : Res :=
  .next (bobSlotDb via.port partner value nbytes via.ide s)
def execCreditReturn (stack request levelKib : Nat) (s : State) : Res := .next (creditReturn stack request levelKib s)
def execAgeLimit (stack request : Nat) (s : State) : Res := .next (ageLimit stack request s)
def execRowIdlePrecharge (stack bank : Nat) (s : State) : Res := .next (rowIdlePrecharge stack bank s)
def execRefreshStart (s : State) : Res := .next (refreshStart s)
def execRefreshGapEnd (s : State) : Res := .next (refreshGapEnd s)

end Sys2Proof.Machine
end

