-- ==== Sys2Proof/Machine/Tenancy.lean ====
section
/-! DEFINITION. Tenants, partners, fast markings and quotas (11_tenancy_and_debug_lock.md R338 to R341, R437; R114, R397; R278, R63, R205, R70). -/

namespace Sys2Proof.Machine

/-! ### Tenants -/

/-- R341: the root key of the device. -/
def State.rootKey (s : State) : BitVec 256 := Config.deriveRoot s.fuses.serial (s.store.wrapState.getD 0)

/-- TENANT_CREATE: R338, R339, R341. -/
def tenantCreate (ses tenant quota : Nat) (s : State) : State :=
  s.mgmt ses .poolState 0xC500 (leBytes tenant 2 ++ leBytes quota 2) fun s =>
    if 1023 < tenant then s.refuse .bounds
    else if (s.tenants.get? tenant).isSome then s.refuse .busy
    else if !pinsFit (s.quotaSum tenant quota) s.markings s.jrnGib then s.refuse .resvExceeds
    else
      let key := Config.trng s.freeCtr
      let r : Tenant := { quota := quota, wrapped := Config.wrapKey s.rootKey key, drawn := key, wrapRoot := s.rootKey, key := some key }
      (({ s with freeCtr := s.freeCtr + 1, tenants := s.tenants.set tenant r }).journalEntry (.tenant tenant)).success []

/-- R278: the rings of a partner stop; what runs ends ABORTED, with records while the completion ring can be written. -/
def State.stopRings (s : State) (partner : Nat) : State :=
  let s1 := s.endSession partner .aborted 0
  let ids := (s1.ops.filter (fun o => o.mailbox.isNone && o.partner == partner)).map (·.id)
  let s2 := ids.foldl (fun t id => match t.op? id with
    | none => t
    | some o =>
      let t1 := t.abortOp o .aborted
      let t2 := match t1.op? id with
        | some o1 => if o1.recordHeld then t1 else t1.writeRecordFor o1
        | none => t1
      match t2.op? id with
      | some o2 => (t2.noRecord partner).retire o2
      | none => t2) s1
  s2.setPart partner { s2.part partner with rings := [], coalesce := none }

/-- R63: the slots of a partner leave BOUND, and their mailbox calls end ABORTED. -/
def State.freeSlots (s : State) (partner : Nat) : State :=
  ((s.slots.filter (fun e => e.2.bound && e.2.partner == partner)).map (·.1)).foldl (fun t n => t.unbindSlot n) s

/-- R180: an ACTIVE extent drains, cause withdrawn; the reservation of one still OFFERED is released. -/
def State.endExtents (s : State) (pick : Ext → Bool) : State :=
  (s.pool.recs.filter (fun e => pick e.2)).foldl (fun t e => match e.2.st with
    | .active => t.drain e.1 .withdrawn
    | .offered => t.released e.1
    | _ => t) s

/-- R339: what PARTNER_UNBIND does (R278, R63, R205, R180). -/
def State.unbindPartner (s : State) (partner : Nat) : State :=
  let s1 := (((s.stopRings partner).freeSlots partner).closeHandles partner).endExtents (fun e => e.partner == partner)
  s1.setPart partner { s1.part partner with tenant := none }

/-- PARTNER_BIND: R339, R437, R247, R395. -/
def partnerBind (ses partner tenant port maxOps : Nat) (s : State) : State :=
  s.mgmt ses .poolState 0xC502 (leBytes partner 2 ++ leBytes tenant 2 ++ leBytes port 1 ++ leBytes maxOps 2) fun s =>
    let q := s.part partner
    match firstOf [
      (decide (4095 < partner) || decide (1023 < tenant) || decide (27 < port), .bounds),
      (!s.tenantActive tenant, .access),
      (q.tenant.isSome, .busy)] with
    | some st => s.refuse st
    | none => (s.setPart partner { q with tenant := some tenant, port := port, maxOps := maxOps % 2048, dbDrops := 0, norec := 0 }).success []

/-- PARTNER_UNBIND: R339. -/
def partnerUnbind (ses partner : Nat) (s : State) : State :=
  s.mgmt ses .poolState 0xC503 (leBytes partner 2) fun s =>
    if (s.part partner).tenant.isNone then s.refuse .access else (s.unbindPartner partner).success []

/-! ### Fast markings -/

/-- FAST_MARK: R65, R437, R70, R321, R322. -/
def fastMark (ses slot tenant : Nat) (s : State) : State :=
  s.mgmt ses .poolState 0xC504 (leBytes slot 1 ++ leBytes tenant 2) fun s => s.arbitrate (.mark slot tenant)

/-- FAST_CLEAR: R339, R63, R70, R321, R322. -/
def fastClear (ses slot : Nat) (s : State) : State :=
  s.mgmt ses .poolState 0xC505 (leBytes slot 1) fun s => s.arbitrate (.unmark slot)

/-! ### Quotas and preferences -/

/-- PIN_QUOTA_SET: R114, R339, R397, R437. -/
def pinQuotaSet (ses tenant quota : Nat) (s : State) : State :=
  s.mgmt ses .poolState 0xC506 (leBytes tenant 2 ++ leBytes quota 2) fun s =>
    if !s.tenantActive tenant then s.refuse .access
    else if !pinsFit (s.quotaSum tenant quota) s.markings s.jrnGib then s.refuse .resvExceeds
    else ({ s with tenants := s.tenants.modify tenant (fun t => { t with quota := quota }) }).success []

/-- KILN_PREF_SET: R168, R339. -/
def kilnPrefSet (ses tenant format table split : Nat) (s : State) : State :=
  s.mgmt ses .poolState 0xC507 (leBytes tenant 2 ++ leBytes format 1 ++ leBytes table 1 ++ leBytes split 1) fun s =>
    if (1 ≤ table ∧ table ≤ 15) ∨ 3 < split then s.refuse .bounds
    else if !s.tenantActive tenant then s.refuse .access
    else
      let f := fun (t : Tenant) => { t with prefs := if table = 0 then t.prefs.erase format else t.prefs.set format (table, split) }
      ({ s with tenants := s.tenants.modify tenant f }).success []

/-! ### Removal (R340) -/

/-- R340 step 2, R197: the grants that a tenant gave are revoked, and those that it received removed. -/
def State.revokeGrants (s : State) (tenant : Nat) : State :=
  let given := s.casks.flatMap (fun c => ((c.2.grants.filter (fun g => c.2.tenant == tenant || g.grantee == tenant)).map (fun g => (c.1, g.grantee))).eraseDups)
  given.foldl (fun t g => t.revokeGrant g.1 g.2) s

/-- R340 step 2: its fast markings go. Every slot they were on has left BOUND in step 1. -/
def State.dropMarks (s : State) (tenant : Nat) : State :=
  ({ s with slots := s.slots.map (fun (e : Nat × Slot) =>
    if e.2.mark = some tenant then (e.1, { e.2 with mark := none, change := .none }) else e) }).syncFast

/-- R340 step 2: its reservation entries lose VALID. -/
def State.dropReservations (s : State) (tenant : Nat) : State :=
  ((s.qos.resv.filter (fun e => resvValid e.2 && resvKind e.2 == 0 && resvId e.2 == tenant)).map (·.1)).foldl
    (fun t i => t.arbitrate (.clear i)) s

/-- Steps 1 to 3 of R340. -/
def State.startRemoval (s : State) (tenant : Nat) : State :=
  let s1 := ((s.parts.filter (fun p => p.2.tenant == some tenant)).map (·.1)).foldl (fun t p => t.unbindPartner p) s
  let s2 := ((s1.revokeGrants tenant).dropMarks tenant).dropReservations tenant
  let s3 := { s2 with pool := { s2.pool with grants := s2.pool.grants.filter (fun g => g.2.tenant != tenant) } }
  s3.endExtents (fun e => e.tenant == tenant)

/-- TENANT_REMOVE: R338, R339, R340. -/
def tenantRemove (ses tenant : Nat) (s : State) : State :=
  s.mgmt ses .poolState 0xC501 (leBytes tenant 2) fun s =>
    if !s.tenantActive tenant then s.refuse .access
    else (({ s with tenants := s.tenants.modify tenant (fun t => { t with st := .removing }) }).startRemoval tenant).success []

/-- R340 steps 4 and 6, R198: every version of the tenant ends, scrubbed, with its records. -/
def State.freeVersions (s : State) (tenant : Nat) : State :=
  let cs := (s.casks.filter (fun c => c.2.tenant == tenant)).map (·.1)
  ((s.vers.filter (fun v => cs.contains v.2.cask)).map (·.1)).foldl (fun t v => t.scrubVersion v) s

/-- TENANT_REMOVAL_DONE: steps 4 to 7 of R340, once the tenant's extents are FREE. -/
def tenantRemovalDone (tenant : Nat) (s : State) : State :=
  match s.tenants.get? tenant with
  | none => s
  | some r =>
    if r.st ≠ .removing ∨ s.pool.recs.any (fun e => e.2.tenant == tenant) ∨ s.rst.stage ≠ .up then s
    else
      let s1 := (s.freeVersions tenant).revokeGrants tenant
      let s2 := { s1 with
        grs := { s1.grs with tables := s1.grs.tables.filter (fun t => t.tenant != tenant) }
        pool := { s1.pool with grants := s1.pool.grants.filter (fun g => g.2.tenant != tenant) }
        tenants := s1.tenants.erase tenant }
      (s2.journalEntry (.tenant tenant)).emit (.fm "TENANT_REMOVED" tenant)

def execTenantCreate (ses tenant quota : Nat) (s : State) : Res := .next (tenantCreate ses tenant quota s)
def execTenantRemove (ses tenant : Nat) (s : State) : Res := .next (tenantRemove ses tenant s)
def execTenantRemovalDone (tenant : Nat) (s : State) : Res := .next (tenantRemovalDone tenant s)
def execPartnerBind (ses partner tenant port maxOps : Nat) (s : State) : Res := .next (partnerBind ses partner tenant port maxOps s)
def execPartnerUnbind (ses partner : Nat) (s : State) : Res := .next (partnerUnbind ses partner s)
def execFastMark (ses slot tenant : Nat) (s : State) : Res := .next (fastMark ses slot tenant s)
def execFastClear (ses slot : Nat) (s : State) : Res := .next (fastClear ses slot s)
def execPinQuotaSet (ses tenant quota : Nat) (s : State) : Res := .next (pinQuotaSet ses tenant quota s)
def execKilnPrefSet (ses tenant format table split : Nat) (s : State) : Res := .next (kilnPrefSet ses tenant format table split s)

end Sys2Proof.Machine
end

