-- ==== Sys2Proof/WellFormed.lean ====
section
/-! DEFINITION. Well-formed commands: every operand names something the device has (R8, R183, R247, R374, R386), and every parameter of a management command fits its bytes (R179, R339, R404, R409). -/

namespace Sys2Proof

def fits (bits n : Nat) : Bool := decide (n < 2 ^ bits)
def portOk (p : Nat) : Bool := decide (p < 28)
def partnerOk (n : Nat) : Bool := decide (n < 4096)
def tenantOk (t : Nat) : Bool := decide (t < 1024)
def ringOk (r : Nat) : Bool := decide (r < 5)
def submissionOk (r : Nat) : Bool := decide (r < 4)
def slotOk (n : Nat) : Bool := decide (n < 256)
def recordOk (r : Nat) : Bool := decide (r < 262144)
def steepOk (k : Nat) : Bool := decide (k < 8)
def kilnOk (k : Nat) : Bool := decide (k < 16)
def segmentOk (g : Nat) : Bool := decide (g < 32768)
def halfOk (h : Nat) : Bool := decide (h < 2)
def vectorOk (v : Nat) : Bool := decide (v < 2048)
def decoderOk (d : Nat) : Bool := decide (d < 4)
def streamOk (n : Nat) : Bool := decide (n < 10)
def resvOk (i : Nat) : Bool := decide (i < 512)
def windowOk (n : Nat) : Bool := decide (n < 64)
def railOk (n : Nat) : Bool := decide (n < 19)
def dieOk (n : Nat) : Bool := decide (n < 8)
def pbrOk (n : Nat) : Bool := decide (n < 4096)
def logOk (n : Nat) : Bool := decide (n < 5)
def linkWidthOk (w : Nat) : Bool := decide (1 ≤ w) && decide (w ≤ 4)
def speedOk (v : Nat) : Bool := decide (v < 7)
/-- A request carries at least one byte and at most a page's 4 KiB (R300). -/
def bytesOk (bs : List Byte) : Bool := decide (1 ≤ bs.length) && decide (bs.length ≤ 4096)
/-- The 16 words of a descriptor that a read of partner memory brought, or none. -/
def wordsOk (ws : List Word) : Bool := ws.isEmpty || ws.length == 16
def policyOk (l : List Nat) : Bool := l.length == 5
/-- A telemetry frame has 19 slots of 16 bits (R419). -/
def frameOk (l : List Nat) : Bool := l.length == 19 && l.all (fits 16)

def blockOk : Block → Bool
  | .port p => portOk p
  | .steep k => steepOk k
  | .base b => dieOk b
  | .kiln k => kilnOk k
  | .tier h => halfOk h
  | .staging h => halfOk h
  | .lace l => decide (l < 16) || l == 0x100

def domainOk : Domain → Bool
  | .hub h => halfOk h
  | .fabric b => dieOk b
  | .steep k => steepOk k
  | .port p => portOk p
  | .kiln h => halfOk h
  | .steward h => halfOk h

/-- R386: the kinds and their instances. -/
def unitOk (u : UnitId) : Bool :=
  match u.kind with
  | 0 => u.inst == 0
  | 1 => halfOk u.inst
  | 2 => dieOk u.inst
  | 3 => steepOk u.inst
  | 4 => kilnOk u.inst
  | 5 => portOk u.inst
  | 6 => decide (u.inst < 640)
  | 7 => halfOk u.inst
  | 8 => halfOk u.inst
  | 9 => decide (u.inst < 16) || u.inst == 0x100
  | 10 => halfOk u.inst
  | 11 => halfOk u.inst
  | 12 => halfOk u.inst
  | _ => false

def epOk : Endpoint → Bool
  | .doe p => portOk p
  | .mgmt => true

def whoOk : Accessor → Bool
  | .port p => portOk p
  | .mgmt => true

/-- The command is well formed. -/
def Instr.wellFormed : Instr → Bool
  | .descriptorFetch partner ring d => partnerOk partner && submissionOk ring && wordsOk d
  | .descriptorReadFailed partner ring _ => partnerOk partner && submissionOk ring
  | .descriptorComplete _ => true
  | .recordWriteFailed _ => true
  | .fenceRelease _ => true
  | .nopFence _ => true
  | .heartbeat _ => true
  | .copy _ => true
  | .fill _ => true
  | .compare _ => true
  | .compareAndSwap _ => true
  | .reduce _ => true
  | .loadGrist _ => true
  | .storeGrist _ => true
  | .caskOpen _ => true
  | .caskCommit _ => true
  | .caskClose _ => true
  | .caskDrop _ => true
  | .pageHint _ => true
  | .pin _ => true
  | .unpin _ => true
  | .slotBind _ => true
  | .append _ => true
  | .attend _ => true
  | .slotPark _ => true
  | .slotResume _ => true
  | .slotUnbind _ => true
  | .picotRebuild _ => true
  | .tableLoad _ => true
  | .tableRetire _ => true
  | .peerRead _ => true
  | .peerWrite _ => true
  | .portSession _ => true
  | .journalMark _ => true
  | .slotCallStart _ => true
  | .slotTurnTimeout _ => true
  | .fastMarkingApply slot => slotOk slot
  | .bobSlotDb ⟨port, _⟩ partner _ _ => portOk port && partnerOk partner
  | .mailboxCallComplete slot => slotOk slot
  | .ringSqDb port partner ring _ _ _ => portOk port && partnerOk partner && submissionOk ring
  | .ringCqDb port partner _ _ _ => portOk port && partnerOk partner
  | .ringEnable port partner ring _ _ => portOk port && partnerOk partner && ringOk ring
  | .ringDisableSq port partner ring _ _ => portOk port && partnerOk partner && submissionOk ring
  | .ringDisableCq port partner _ _ => portOk port && partnerOk partner
  | .cqDisableTakesEffect partner => partnerOk partner
  | .irqCoalesceExpiry partner => partnerOk partner
  | .msixUnmask ⟨port, _⟩ vector => portOk port && vectorOk vector
  | .busMasterEnableClear port => portOk port
  | .busMasterEnableSet port => portOk port
  | .flr port => portOk port
  | .d3hotEntry port => portOk port
  | .d0Return port => portOk port
  | .perst port => portOk port
  | .linkLoss port => portOk port
  | .linkUp port width speed _ _ => portOk port && linkWidthOk width && speedOk speed
  | .l0pEntry port => portOk port
  | .l1Entry port => portOk port
  | .cxlMemRead port addr _ _ => portOk port && fits 64 addr
  | .cxlMemWrite port addr data _ => portOk port && fits 64 addr && bytesOk data
  | .cxlMemReadTimeout _ => true
  | .cowCopyDone _ => true
  | .pendingTableRoom => true
  | .dataWindowWrite port partner _ data _ _ => portOk port && partnerOk partner && bytesOk data
  | .dataWindowRead port partner _ _ _ _ => portOk port && partnerOk partner
  | .dataWindowReadTimeout partner => partnerOk partner
  | .sessionIdleTimeout partner => partnerOk partner
  | .writeCombineDrain port => portOk port
  | .peerWindowRequest port pbr addr write _ _ => portOk port && pbrOk pbr && fits 64 addr && write.all bytesOk
  | .poolPwCommit _ window _ => windowOk window
  | .dmaCompletion via _ _ => portOk via.port
  | .dmaCompletionTimeout port _ => portOk port
  | .undecodedRequest port _ => portOk port
  | .malformedTlp ⟨port, _⟩ => portOk port
  | .ideCheckFail port ⟨stream, _⟩ => portOk port && streamOk stream
  | .extentAdd _ tenant partner dpa granules leaseMs share => fits 16 tenant && fits 16 partner && fits 64 dpa && fits 32 granules && fits 32 leaseMs && fits 32 share
  | .viewBind _ tenant partner dpa granules leaseMs blobRecord blobOffset => fits 16 tenant && fits 16 partner && fits 64 dpa && fits 32 granules && fits 32 leaseMs && fits 32 blobRecord && fits 64 blobOffset
  | .extentWithdraw _ record => fits 32 record
  | .leaseSet _ record leaseMs => fits 32 record && fits 32 leaseMs
  | .leaseRenew _ record => fits 32 record
  | .extentQuery _ record => fits 32 record
  | .caskGrant _ owner cask grantee aliasId minVersion rights => fits 16 owner && fits 64 cask && fits 16 grantee && fits 64 aliasId && fits 64 minVersion && fits 8 rights
  | .caskRevoke _ owner cask grantee => fits 16 owner && fits 64 cask && fits 16 grantee
  | .poolJoin _ ns member => fits 32 ns && fits 16 member
  | .memberSet _ member kind pbr port => fits 16 member && fits 8 kind && fits 16 pbr && fits 8 port
  | .memberRemove _ member => fits 16 member
  | .remoteGrant _ member base length tenant rights => fits 16 member && fits 64 base && fits 64 length && fits 16 tenant && fits 8 rights
  | .remoteRevoke _ grant => fits 32 grant
  | .addDynamicCapacityResponse ⟨port, _⟩ offered _ => portOk port && recordOk offered
  | .releaseDynamicCapacity ⟨port, _⟩ dpa _ => portOk port && fits 64 dpa
  | .getDynamicCapacityExtentList ⟨port, _⟩ => portOk port
  | .getDynamicCapacityConfiguration ⟨port, _⟩ => portOk port
  | .identifyMemoryDevice ⟨port, _⟩ => portOk port
  | .getSupportedLogs ⟨port, _⟩ => portOk port
  | .getLog ⟨port, _⟩ _ => portOk port
  | .getEventRecords ⟨port, _⟩ log => portOk port && logOk log
  | .clearEventRecords ⟨port, _⟩ log _ => portOk port && logOk log
  | .getEventInterruptPolicy ⟨port, _⟩ => portOk port
  | .setEventInterruptPolicy ⟨port, _⟩ policy => portOk port && policyOk policy
  | .getHealthInfo ⟨port, _⟩ => portOk port
  | .getTimestamp ⟨port, _⟩ => portOk port
  | .setTimestamp ⟨port, _⟩ _ => portOk port
  | .unsupportedMailboxCommand ⟨port, _⟩ opcode => portOk port && fits 16 opcode
  | .leaseExpire record => recordOk record
  | .offerLapse record => recordOk record
  | .drainEnd record => recordOk record
  | .scrubComplete record => recordOk record
  | .tenantCreate _ tenant quota => fits 16 tenant && fits 16 quota
  | .tenantRemove _ tenant => fits 16 tenant
  | .tenantRemovalDone tenant => tenantOk tenant
  | .partnerBind _ partner tenant port maxOps => fits 16 partner && fits 16 tenant && fits 8 port && fits 16 maxOps
  | .partnerUnbind _ partner => fits 16 partner
  | .fastMark _ slot tenant => fits 8 slot && fits 16 tenant
  | .fastClear _ slot => fits 8 slot
  | .pinQuotaSet _ tenant quota => fits 16 tenant && fits 16 quota
  | .kilnPrefSet _ tenant format table split => fits 16 tenant && fits 8 format && fits 8 table && fits 8 split
  | .ownerClaim _ _ => true
  | .ownerTransfer _ _ => true
  | .getVersion ep => epOk ep
  | .getCapabilities ep => epOk ep
  | .negotiateAlgorithms ep => epOk ep
  | .getDigests ep => epOk ep
  | .getCertificate ep => epOk ep
  | .challenge ep _ => epOk ep
  | .getMeasurements ep _ => epOk ep
  | .keyExchange ep => epOk ep
  | .finish ep _ => epOk ep
  | .ideKm port sel _ => portOk port && streamOk sel.stream
  | .unlockToken _ _ _ => true
  | .tokenLockoutExpiry => true
  | .park _ => true
  | .parkDrainEnd => true
  | .parkedEntered => true
  | .unpark _ => true
  | .activeResumed => true
  | .faultGet _ _ => true
  | .faultClear _ => true
  | .journalExport _ tenant cask first count => fits 16 tenant && fits 64 cask && fits 64 first && fits 64 count
  | .phaseSet _ phase => fits 8 phase
  | .regRead _ offset => fits 32 offset
  | .regWrite _ offset _ => fits 32 offset
  | .unsupportedManagementCommand _ opcode => fits 16 opcode
  | .qosResvWrite _ index _ => resvOk index
  | .jrnCtlWrite _ _ => true
  | .secLock _ => true
  | .grsRomDataRead port _ => portOk port
  | .counterLoRead who _ _ => whoOk who
  | .registerWrite port _ _ _ _ => portOk port
  | .steepingDone _ _ => true
  | .kilningDone _ _ => true
  | .pageMoveStart _ => true
  | .evictionStart half stack => halfOk half && stack.all steepOk
  | .counterHalve => true
  | .fetchDeadline _ => true
  | .collection stack => kilnOk stack
  | .kilnSpaceTimeout _ => true
  | .journalCommitDone _ => true
  | .powerFail => true
  | .powerFailFlushDone => true
  | .railOutOfRange rail => railOk rail
  | .railCollapse rail => railOk rail
  | .powerOn => true
  | .coldPowerOn => true
  | .devRstN _ _ => true
  | .bringupStart => true
  | .bringupStep => true
  | .ready => true
  | .startTimeout => true
  | .verify => true
  | .writeA => true
  | .writeB => true
  | .restart => true
  | .verifyDone => true
  | .slotWriteDone _ => true
  | .uploadWrite _ _ data => bytesOk data
  | .rebuildEnd => true
  | .refLost => true
  | .clockSwitch domain => domainOk domain
  | .clockSwitchAck domain => domainOk domain
  | .clockSwitchTimeout domain => domainOk domain
  | .blockReset block _ => blockOk block
  | .blockIdleAck block => blockOk block
  | .blockIdleTimeout block => blockOk block
  | .unitFault unit code _ _ => unitOk unit && fits 16 code
  | .correctedCoalesceExpiry unit code => unitOk unit && fits 16 code
  | .stewardTakeover => true
  | .arbiterTakeover => true
  | .stewardShedStage _ => true
  | .stewardShedExit => true
  | .quietEntry => true
  | .standbyEntry => true
  | .wake => true
  | .wakeDone => true
  | .governorStep => true
  | .dieLimiter die _ => dieOk die
  | .telemetryFrame slots => frameOk slots
  | .vrHotN _ => true
  | .thermalTrip unit => unitOk unit
  | .refreshStart => true
  | .creditReturn stack _ _ => steepOk stack
  | .ageLimit stack _ => steepOk stack
  | .rowIdlePrecharge stack _ => steepOk stack
  | .ppsIn _ => true
  | .slewEnd => true
  | .holdover => true
  | .configSnapshot => true
  | .hdmDecoderCommit ⟨port, _⟩ decoder base size _ => portOk port && decoderOk decoder && fits 64 base && fits 64 size
  | .flrResetComplete port => portOk port
  | .l1Exit port => portOk port
  | .journalCheckpoint => true
  | .rebuildSegmentErase stack segment => kilnOk stack && segmentOk segment
  | .refreshGapEnd => true
  | .stewardTakeoverDone => true
  | .arbiterTakeoverDone => true
  | .unitTemperatureChange unit _ => unitOk unit

/-- The port function through which a command arrives, for those that arrive through one. -/
def Instr.port? : Instr → Option Nat
  | .descriptorFetch _ _ _ => none
  | .descriptorReadFailed _ _ _ => none
  | .descriptorComplete _ => none
  | .recordWriteFailed _ => none
  | .fenceRelease _ => none
  | .nopFence _ => none
  | .heartbeat _ => none
  | .copy _ => none
  | .fill _ => none
  | .compare _ => none
  | .compareAndSwap _ => none
  | .reduce _ => none
  | .loadGrist _ => none
  | .storeGrist _ => none
  | .caskOpen _ => none
  | .caskCommit _ => none
  | .caskClose _ => none
  | .caskDrop _ => none
  | .pageHint _ => none
  | .pin _ => none
  | .unpin _ => none
  | .slotBind _ => none
  | .append _ => none
  | .attend _ => none
  | .slotPark _ => none
  | .slotResume _ => none
  | .slotUnbind _ => none
  | .picotRebuild _ => none
  | .tableLoad _ => none
  | .tableRetire _ => none
  | .peerRead _ => none
  | .peerWrite _ => none
  | .portSession _ => none
  | .journalMark _ => none
  | .slotCallStart _ => none
  | .slotTurnTimeout _ => none
  | .fastMarkingApply _ => none
  | .bobSlotDb ⟨port, _⟩ _ _ _ => some port
  | .mailboxCallComplete _ => none
  | .ringSqDb port _ _ _ _ _ => some port
  | .ringCqDb port _ _ _ _ => some port
  | .ringEnable port _ _ _ _ => some port
  | .ringDisableSq port _ _ _ _ => some port
  | .ringDisableCq port _ _ _ => some port
  | .cqDisableTakesEffect _ => none
  | .irqCoalesceExpiry _ => none
  | .msixUnmask ⟨port, _⟩ _ => some port
  | .busMasterEnableClear port => some port
  | .busMasterEnableSet port => some port
  | .flr port => some port
  | .d3hotEntry port => some port
  | .d0Return port => some port
  | .perst port => some port
  | .linkLoss port => some port
  | .linkUp port _ _ _ _ => some port
  | .l0pEntry port => some port
  | .l1Entry port => some port
  | .cxlMemRead port _ _ _ => some port
  | .cxlMemWrite port _ _ _ => some port
  | .cxlMemReadTimeout _ => none
  | .cowCopyDone _ => none
  | .pendingTableRoom => none
  | .dataWindowWrite port _ _ _ _ _ => some port
  | .dataWindowRead port _ _ _ _ _ => some port
  | .dataWindowReadTimeout _ => none
  | .sessionIdleTimeout _ => none
  | .writeCombineDrain port => some port
  | .peerWindowRequest port _ _ _ _ _ => some port
  | .poolPwCommit _ _ _ => none
  | .dmaCompletion ⟨port, _⟩ _ _ => some port
  | .dmaCompletionTimeout port _ => some port
  | .undecodedRequest port _ => some port
  | .malformedTlp ⟨port, _⟩ => some port
  | .ideCheckFail port ⟨_, _⟩ => some port
  | .extentAdd _ _ _ _ _ _ _ => none
  | .viewBind _ _ _ _ _ _ _ _ => none
  | .extentWithdraw _ _ => none
  | .leaseSet _ _ _ => none
  | .leaseRenew _ _ => none
  | .extentQuery _ _ => none
  | .caskGrant _ _ _ _ _ _ _ => none
  | .caskRevoke _ _ _ _ => none
  | .poolJoin _ _ _ => none
  | .memberSet _ _ _ _ _ => none
  | .memberRemove _ _ => none
  | .remoteGrant _ _ _ _ _ _ => none
  | .remoteRevoke _ _ => none
  | .addDynamicCapacityResponse ⟨port, _⟩ _ _ => some port
  | .releaseDynamicCapacity ⟨port, _⟩ _ _ => some port
  | .getDynamicCapacityExtentList ⟨port, _⟩ => some port
  | .getDynamicCapacityConfiguration ⟨port, _⟩ => some port
  | .identifyMemoryDevice ⟨port, _⟩ => some port
  | .getSupportedLogs ⟨port, _⟩ => some port
  | .getLog ⟨port, _⟩ _ => some port
  | .getEventRecords ⟨port, _⟩ _ => some port
  | .clearEventRecords ⟨port, _⟩ _ _ => some port
  | .getEventInterruptPolicy ⟨port, _⟩ => some port
  | .setEventInterruptPolicy ⟨port, _⟩ _ => some port
  | .getHealthInfo ⟨port, _⟩ => some port
  | .getTimestamp ⟨port, _⟩ => some port
  | .setTimestamp ⟨port, _⟩ _ => some port
  | .unsupportedMailboxCommand ⟨port, _⟩ _ => some port
  | .leaseExpire _ => none
  | .offerLapse _ => none
  | .drainEnd _ => none
  | .scrubComplete _ => none
  | .tenantCreate _ _ _ => none
  | .tenantRemove _ _ => none
  | .tenantRemovalDone _ => none
  | .partnerBind _ _ _ _ _ => none
  | .partnerUnbind _ _ => none
  | .fastMark _ _ _ => none
  | .fastClear _ _ => none
  | .pinQuotaSet _ _ _ => none
  | .kilnPrefSet _ _ _ _ _ => none
  | .ownerClaim _ _ => none
  | .ownerTransfer _ _ => none
  | .getVersion _ => none
  | .getCapabilities _ => none
  | .negotiateAlgorithms _ => none
  | .getDigests _ => none
  | .getCertificate _ => none
  | .challenge _ _ => none
  | .getMeasurements _ _ => none
  | .keyExchange _ => none
  | .finish _ _ => none
  | .ideKm port _ _ => some port
  | .unlockToken _ _ _ => none
  | .tokenLockoutExpiry => none
  | .park _ => none
  | .parkDrainEnd => none
  | .parkedEntered => none
  | .unpark _ => none
  | .activeResumed => none
  | .faultGet _ _ => none
  | .faultClear _ => none
  | .journalExport _ _ _ _ _ => none
  | .phaseSet _ _ => none
  | .regRead _ _ => none
  | .regWrite _ _ _ => none
  | .unsupportedManagementCommand _ _ => none
  | .qosResvWrite _ _ _ => none
  | .jrnCtlWrite _ _ => none
  | .secLock _ => none
  | .grsRomDataRead port _ => some port
  | .counterLoRead _ _ _ => none
  | .registerWrite port _ _ _ _ => some port
  | .steepingDone _ _ => none
  | .kilningDone _ _ => none
  | .pageMoveStart _ => none
  | .evictionStart _ _ => none
  | .counterHalve => none
  | .fetchDeadline _ => none
  | .collection _ => none
  | .kilnSpaceTimeout _ => none
  | .journalCommitDone _ => none
  | .powerFail => none
  | .powerFailFlushDone => none
  | .railOutOfRange _ => none
  | .railCollapse _ => none
  | .powerOn => none
  | .coldPowerOn => none
  | .devRstN _ _ => none
  | .bringupStart => none
  | .bringupStep => none
  | .ready => none
  | .startTimeout => none
  | .verify => none
  | .writeA => none
  | .writeB => none
  | .restart => none
  | .verifyDone => none
  | .slotWriteDone _ => none
  | .uploadWrite _ _ _ => none
  | .rebuildEnd => none
  | .refLost => none
  | .clockSwitch _ => none
  | .clockSwitchAck _ => none
  | .clockSwitchTimeout _ => none
  | .blockReset _ _ => none
  | .blockIdleAck _ => none
  | .blockIdleTimeout _ => none
  | .unitFault _ _ _ _ => none
  | .correctedCoalesceExpiry _ _ => none
  | .stewardTakeover => none
  | .arbiterTakeover => none
  | .stewardShedStage _ => none
  | .stewardShedExit => none
  | .quietEntry => none
  | .standbyEntry => none
  | .wake => none
  | .wakeDone => none
  | .governorStep => none
  | .dieLimiter _ _ => none
  | .telemetryFrame _ => none
  | .vrHotN _ => none
  | .thermalTrip _ => none
  | .refreshStart => none
  | .creditReturn _ _ _ => none
  | .ageLimit _ _ => none
  | .rowIdlePrecharge _ _ => none
  | .ppsIn _ => none
  | .slewEnd => none
  | .holdover => none
  | .configSnapshot => none
  | .hdmDecoderCommit ⟨port, _⟩ _ _ _ _ => some port
  | .flrResetComplete port => some port
  | .l1Exit port => some port
  | .journalCheckpoint => none
  | .rebuildSegmentErase _ _ => none
  | .refreshGapEnd => none
  | .stewardTakeoverDone => none
  | .arbiterTakeoverDone => none
  | .unitTemperatureChange _ _ => none

end Sys2Proof
end

