-- ==== Sys2Proof/Machine/Lifecycle.lean ====
section
/-! DEFINITION. Device reset and what survives it (R28, R365, R373, R378, R395), the flush of R138, the fault ladder (R390 to R392), block resets (R374 to R377), clock switches (R355, R356), rails and pins (R420 to R423, R430). -/

namespace Sys2Proof.Machine

/-! ### The live geometry (R412, R413) -/

/-- R413: a live change and its generation. -/
def State.geoChange (s : State) (f : Geo → Geo) : State :=
  let g := f s.geo
  { s with geo := { g with gen := (g.gen + 1) % 2 ^ 32 } }

/-- POOL_GIB of so many erased segments: 56 MiB usable each, less 256 GiB (R177, R412). -/
def rebuiltGib (segments : Nat) : Nat := segments * 56 / 1024 - 256

/-- POOL_GIB in REBUILD, from the segments erased so far on the stacks that are present (R349, R412). -/
def State.erasedGib (s : State) (es : List Nat) : Nat := rebuiltGib (es.filter (fun g => s.kilnPresent (g / 32768))).length

/-! ### Device reset -/

/-- R135: the journal as start-up reads it: up to the first record whose CRC is wrong. -/
def readJournal (j : List ChainRec) : List ChainRec := j.takeWhile (·.whole)

/-- Cask versions that a device reset keeps (R28, R198): those whose commit record the checkpoint or the journal holds (R135). -/
def State.kept (s : State) : Map Ver :=
  let lost := (s.kln.journal.dropWhile (·.whole)).map (·.entry)
  s.vers.filter (fun v => v.2.journaled && v.2.st == .committed && !lost.contains (.staged (.commit v.1)))

/-- R28: a kept page has its record only. -/
def Page.afterReset (p : Page) : Page :=
  { p with
    st := if p.record.isSome then .kiln else .zero, ctr := 0, pins := 0, kilnedAt := 0, failedOnce := false
    tileBad := false, frameBad := false, pinCls := 1, copying := false, copyFrom := none, overflow := false, fetchAt := 0, moveCls := 2, pinBy := 0, coding := [] }

/-- A segment after a reset: a collection that ran is given up. -/
def Seg.afterReset (g : Seg) : Seg :=
  match g.st with
  | some .collecting => { g with st := some .full }
  | some .gcOpen => { g with st := some .full }
  | _ => g

/-- The device as a reset leaves it, held in reset: what R28, R139, R142, R338, R349, R373 and R395 keep, everything else at its reset value. `cause` gains bits; a power-on releases GPO (R378). Only DEV_RST_N (bit 1) and power-on (bit 0) close an open debug lock (R348) and release THERMTRIP_N (R430). -/
def State.deviceReset (s : State) (cause : BitVec 5) (power : Bool) : State :=
  let kept := s.kept
  let pids := kept.flatMap (fun v => v.2.pages.map (·.2))
  let s1 := (s.pages.filter (fun p => !pids.contains p.1)).foldl (fun t p => t.killRecordOf p.2) s
  let pf : BitVec 5 := if s.rst.flush = .none then 0 else 16
  let gpo := if s.fuses.compat then s.fuses.gpoMap else if power then 0 else s.rst.gpo
  let cks := kept.map (fun v => v.2.cask)
  let closes := power || cause &&& 3 != 0
  { fuses := s.fuses, store := s.store
    rst := {
      cause := s.rst.cause ||| cause ||| pf, failedStarts := s.rst.failedStarts, backup := s.rst.backup, gpo := gpo
      fwA := s.rst.fwA, fwB := s.rst.fwB, freshStart := s.rst.freshStart || s.sec.dbgOpen }
    pins := {
      devRstLow := s.pins.devRstLow, perstLow := s.pins.perstLow, vrHot := s.pins.vrHot, rails := s.pins.rails
      thermtripN := s.pins.thermtripN && !closes
      faultN := s.fuses.compat && s.fuses.faultMap }
    sec := { dbgOpen := s.sec.dbgOpen && !closes }
    geo := { rebuildGib := s.rebuild.map ({ fuses := s.fuses } : State).erasedGib }
    pwr := { temps := s.pwr.temps }
    flt := { seq := s.flt.seq, count := s.flt.count, first := s.flt.first, retained := s.flt.retained, everWritten := s.flt.everWritten }
    tenants := s.tenants.map (fun (t : Nat × Tenant) => (t.1, { t.2 with key := none }))
    kln := {
      writtenBytes := s.kln.writtenBytes, wearWarn := s.kln.wearWarn, wearOver := s.kln.wearOver
      journal := readJournal s.kln.journal, journalBytes := s.kln.journalBytes, checkpoints := s.kln.checkpoints, area := s.kln.area, shutdownRecord := s.kln.shutdownRecord
      segs := s1.kln.segs.map (fun (g : Nat × Seg) => (g.1, g.2.afterReset)) }
    pages := (s.pages.filter (fun p => pids.contains p.1)).map (fun (p : Nat × Page) => (p.1, p.2.afterReset))
    mem := s.mem.filter (fun c => pids.contains (c.1 / 65536))
    tags := s.tags.filter (fun t => pids.contains (t.1 / 16))
    grs := { tables := s.grs.tables }
    casks := s.casks.filter (fun c => cks.contains c.1)
    vers := kept.map (fun (v : Nat × Ver) => (v.1, { v.2 with commitOp := none }))
    nextPage := s.nextPage, nextRead := s.nextRead, nextCask := s.nextCask, nextVer := s.nextVer, opSeq := s.opSeq
    rebuild := s.rebuild, outs := s.outs, freeCtr := s.freeCtr, pending := s.pending }

/-- Bring-up begins with the release of the AON domain (R367, R379). -/
def State.beginBringup (s : State) : State :=
  { s with rst := { s.rst with stage := .bringup 1, phase := .bringup, startedAt := s.tim.clock }, clk := { s.clk with xtalOk := true } }

/-- Recovery mode (R370, R311). -/
def State.enterRecovery (s : State) : State :=
  { s with rst := { s.rst with stage := .recovery, phase := .recovery }, sec := { s.sec with keysLocked := true }, clk := { s.clk with xtalOk := true } }

/-- R370: a failed start; RST_BACKUP0 to 3 then hold what the device keeps of it (R373, log 2). -/
def State.failedStart (s : State) : State :=
  let n := min 3 (s.rst.failedStarts + 1)
  let own := (List.range 4).foldl (fun (m : Map Word) (i : Nat) => Map.set m i (w32 (Config.freeNat (s.freeCtr + i)))) s.rst.backup
  let s1 := ({ s with rst := { s.rst with failedStarts := n, backup := own }, freeCtr := s.freeCtr + 4 }).writeArea.deviceReset 4 false
  if n < 3 then s1.beginBringup else s1.enterRecovery

/-- The device is out of reset. -/
def State.running (s : State) : Bool :=
  match s.rst.stage with
  | .off => false
  | .held => false
  | _ => true

/-- R366: a recognised DEV_RST_N pulse; one that meets the flush waits for its end (R420). -/
def State.pinReset (s : State) : State :=
  if s.rst.flush = .running then { s with rst := { s.rst with deferredReset := true } }
  else if s.rst.stage = .off then s
  else s.deviceReset 2 false

/-- DEV_RST_N: R366, R376, R420. A rising edge after a recognised fall only releases the pin. -/
def devRstN (lowNs : Nat) (released : Bool) (s : State) : State :=
  if s.pins.devRstLow then { s with pins := { s.pins with devRstLow := !released } }
  else if lowNs < 1000 then s
  else { s with pins := { s.pins with devRstLow := !released } }.pinReset

/-- BRINGUP_START: R366, R367, R422. -/
def bringupStart (s : State) : State :=
  if s.rst.stage = .held ∧ !s.pins.devRstLow ∧ s.pins.rails.isEmpty then s.beginBringup else s

/-- POWER_ON: R365, R378, R422: every rail of groups 1 to 4 is in range with VAON, rail 0, present; VAON that has fallen comes back with COLD_POWER_ON (R423). -/
def powerOn (s : State) : State :=
  if s.running ∨ (s.pins.rails.get? 0).isSome then s
  else
    let s1 := { s with pins := { s.pins with rails := [] } }.deviceReset 1 true
    { s1 with rst := { s1.rst with stage := .held } }

/-- COLD_POWER_ON: R365, R373, R384, R395: VAON rises: every AON state is cleared; the core rails rise after it (R422). -/
def coldPowerOn (s : State) : State :=
  let s1 := { s with pins := { s.pins with rails := s.pins.rails.erase 0 } }.deviceReset 0 true
  { s1 with rst := { s1.rst with stage := .off, cause := 1, failedStarts := 0, backup := [] }, kln := { s1.kln with area := none }, flt := {} }

/-! ### Flush (R138, R139) -/

/-- R138 step 2: record writes in progress are abandoned. -/
def Page.abandon (p : Page) : Page :=
  match p.st with
  | .kilnEvict => { p with st := .dirty, coding := [] }
  | .kilnKeep _ => { p with st := .dirty, coding := [] }
  | _ => p

/-- R138: the flush starts; QUIET and STANDBY wake first (R362). -/
def State.startFlush (s : State) : State :=
  let s1 := s.awaken
  { s1 with
    rst := { s1.rst with flush := .running }
    pages := s1.pages.map (fun (p : Nat × Page) => (p.1, p.2.abandon)) }

/-- R138, R423: POWER_FAIL_N recognised, or what acts as if it were. -/
def State.powerFail (s : State) : State :=
  if s.running ∧ s.rst.flush = .none then s.startFlush else s

/-- POWER_FAIL: R138. -/
def powerFail (s : State) : State := { s with pins := { s.pins with powerFailLow := true } }.powerFail

/-- POWER_FAIL_FLUSH_DONE: R138 steps 3 and 4, R139, R420. -/
def powerFailFlushDone (s : State) : State :=
  if s.rst.flush ≠ .running then s
  else
    let ops := s.kln.staged.filterMap (fun r => match r with
      | .commit v => (s.vers.get? v).bind (·.commitOp)
      | _ => none)
    let s1 := ops.foldl (fun t o => journalCommitDone o t) s
    let s2 := { s1 with rst := { s1.rst with flush := .flushed }, kln := { s1.kln with staged := [], shutdownRecord := true } }.journalEntry .shutdown
    if s2.rst.deferredReset then s2.deviceReset 2 false else s2

/-- Rails of groups 1 to 4 by number in R421's order: all but VAON. -/
def coreRail (rail : Nat) : Bool := decide (1 ≤ rail) && decide (rail ≤ 18)

/-- RAIL_OUT_OF_RANGE: R423. -/
def railOutOfRange (rail : Nat) (s : State) : State :=
  if !coreRail rail then s
  else
    let s1 := { s with pins := { s.pins with rails := s.pins.rails.set rail .out } }
    if s.running then s1.powerFail else s1

/-- R135, R139: the supplies fall while a staged record is written: it stands in the journal cut off. -/
def State.cutJournal (s : State) : State :=
  match s.kln.staged with
  | r :: _ => { s with kln := { s.kln with journal := s.kln.journal ++ [(⟨.staged r, 0, false⟩ : ChainRec)] } }
  | [] => s

/-- RAIL_COLLAPSE: R423. -/
def railCollapse (rail : Nat) (s : State) : State :=
  if 18 < rail then s
  else
    let s1 := { s with pins := { s.pins with rails := s.pins.rails.set rail .collapsed } }
    if s.rst.stage = .off then s1
    else
      let s2 := s1.cutJournal.deviceReset 0 false
      { s2 with rst := { s2.rst with stage := .off } }

/-! ### Ladder (R390 to R392) -/

/-- R390 level 5: service stops, with the record of the action and the flush of R138. -/
def State.deviceFault (s : State) (cause : List Nat) (u : UnitId) : State :=
  if s.rst.devFault then s
  else
    let s1 := { s with rst := { s.rst with devFault := true } }.raise 0x0037 u 5 cause
    { s1 with pins := { s1.pins with devReady := false, faultN := true } }.powerFail

/-- Clusters of a base die that are offline. -/
def State.clustersOff (s : State) (die : Nat) : Nat := s.geo.clOff.get die 0

/-- R392: the unit may go offline. -/
def State.canOffline (s : State) (u : UnitId) : Bool :=
  match u.kind with
  | 4 => true
  | 5 => true
  | 6 => decide (s.clustersOff (u.inst / 80) < 8)
  | 7 => !(s.flt.offline.any (fun v => v.kind == 7))
  | 10 => !(s.flt.offline.any (fun v => v.kind == 10))
  | _ => false

/-- The block of a unit that R374 resets. -/
def unitBlock (u : UnitId) : Option Block :=
  match u.kind with
  | 2 => some (.base u.inst)
  | 3 => some (.steep u.inst)
  | 4 => some (.kiln u.inst)
  | 5 => some (.port u.inst)
  | 8 => some (.tier u.inst)
  | 9 => some (.lace u.inst)
  | 12 => some (.staging u.inst)
  | _ => none

/-- The unit as which a block reports (R386). -/
def blockUnit : Block → UnitId
  | .base b => ⟨2, b⟩
  | .steep k => ⟨3, k⟩
  | .kiln k => ⟨4, k⟩
  | .port p => ⟨5, p⟩
  | .tier h => ⟨8, h⟩
  | .lace l => ⟨9, l⟩
  | .staging h => ⟨12, h⟩

/-- R4, R386: the unit is one that reports, and the variant has it. -/
def State.unitFitted (s : State) (u : UnitId) : Bool :=
  unitOk u && (match u.kind with
    | 4 => s.fuses.variant != .sk470 || decide (u.inst % 8 < 4)
    | 6 => s.hasArray
    | _ => true)

/-- R391: the level of a UNIT-class fault. -/
def State.ladder (s : State) (u : UnitId) : Nat :=
  let second := match s.flt.lastUnit.find? (fun l => l.1 == u) with
    | some l => decide (s.tim.clock ≤ l.2 + 10000000)
    | none => false
  if !second ∧ (unitBlock u).isSome then 3 else if s.canOffline u then 4 else 5

/-- The record lies on the stack. -/
def Page.recordOn (p : Page) (k : Nat) : Bool :=
  match p.record with
  | some r => r.stack == k
  | none => false

/-- R109: the pages whose current record lies on a kiln stack that went offline; the references of lost records are released (R155, R156). -/
def State.loseRecords (s : State) (k : Nat) : State :=
  ((s.pages.filter (fun p => p.2.recordOn k)).foldl (fun t e =>
    match t.pages.get? e.1 with
    | none => t
    | some p => match p.st with
      | .clean => t.setPage e.1 { p with st := .dirty, record := none }
      | .kiln | .steeping => ((t.discardLines e.1).setPage e.1 { p with st := .kiln, failed := some (p.failed.getD .media) }).failPage e.1 .media
      | _ => t) s).reapTables

/-- R394: the steward of H1 takes over. -/
def State.startTakeover (s : State) : State :=
  { s with stew := { s.stew with takeover := true, since := s.tim.clock } }.raise 0x0034 ⟨7, 0⟩ 4 []

/-- R392, R413: the effect of a unit that goes offline; its record follows the change of the table. -/
def State.goOffline (s : State) (u : UnitId) (cause : Nat) : State :=
  let s1 := { s with flt := { s.flt with offline := s.flt.offline ++ [u] } }
  let rec33 := fun (t : State) => t.raise 0x0033 u 4 [cause]
  match u.kind with
  | 4 =>
    let gone := { s1 with geo := { s1.geo with kOffline := s1.geo.kOffline ++ [u.inst] } }
    let t := rec33 ((gone.geoChange (fun g => { g with rebuildGib := s.rebuild.map gone.erasedGib })).loseRecords u.inst)
    if u.inst = 0 ∨ u.inst = 8 then
      { t with kln := { t.kln with chains := t.kln.chains.filter (· != u.inst) } }.raise 0x0026 u 0 [u.inst]
    else t
  | 5 => (rec33 (s1.geoChange (fun g => { g with pOffline := g.pOffline ++ [u.inst] }))).linkLost u.inst
  | 6 => rec33 (s1.geoChange (fun g => { g with clOff := g.clOff.set (u.inst / 80) (g.clOff.get (u.inst / 80) 0 + 1) }))
  | 7 => if u.inst = 0 then (rec33 (s1.geoChange (fun g => { g with stewardH1 := true }))).startTakeover else rec33 s1
  | 10 => if u.inst = 0 then { s1 with qos := { s1.qos with takeover := true, lostSeq := some cause } } else rec33 s1
  | _ => s1

/-- The operation waits for a page whose move is queued. -/
def State.waitsQueued (s : State) (o : Op) (pick : Page → Bool) : Bool :=
  o.phase == .running && o.waits.any (fun pid => s.kln.moves.any (fun m => m.page == pid) && (match s.pages.get? pid with
    | some p => p.st == .kiln && pick p
    | none => false))

/-- R374 steps 1 and 2: work of the block that has not started. Nothing of the state lies in a lace link. -/
def State.queuedIn (s : State) (b : Block) (o : Op) : Bool :=
  let idle := o.phase == .fenced || o.phase == .waitTurn || o.phase == .turn
  match b with
  | .port p => idle && o.mailbox.isNone && (s.part o.partner).port == p
  | .base _ => o.phase == .turn && o.isSlotCall
  | .tier h => s.waitsQueued o (fun p => p.stack / 4 == h)
  | .steep k => s.waitsQueued o (fun p => p.stack == k)
      || (o.phase == .running && !(s.queue k).any (fun r => r.op == some o.id && r.granted != 0) && (s.queue k).any (fun r => r.op == some o.id))
  | .kiln k => s.waitsQueued o (fun p => p.recordOn k)
  | .staging h => hubOf (s.part o.partner).port == h && o.mailbox.isNone && (idle || (o.phase == .running && !o.reads.isEmpty && o.reads.all (·.tag.isNone)))
  | .lace _ => false

/-- Stacks of the pages of a span, those that nothing has written too (R433). -/
def State.spanStacks (s : State) (sp : Span) : List Nat := (chunks sp.off sp.len).map (fun c => s.stackOf sp.back c.1)

/-- R215: the stacks of the pages that the units of a near-memory operation follow: its destination's, and its first operand's where it has none in device memory (log 22); a view's are those of its blob. -/
def State.unitStacks (s : State) (o : Op) : List Nat :=
  match o.target, (s.find o (o.srcNamed (o.q 2) (o.dw 6).toNat)).place with
  | some sp, _ => s.spanStacks sp
  | none, .dev sp => s.spanStacks sp
  | none, .view _ v off len => (s.viewAsks v off len (fun _ => none)).filterMap (fun a => (s.pages.get? a.1).map (·.stack))
  | none, .dma _ _ => []

/-- R214, R215: a near-memory operation runs in a base die, where the variant has the bobbin array, with the pages of that die's stack. -/
def State.nearRuns (s : State) (die : Nat) (o : Op) : Bool :=
  s.hasArray && decide (0x10 ≤ o.opcode) && decide (o.opcode ≤ 0x13) && (s.unitStacks o).contains die

/-- R374 step 3: work that runs in the block. A slot call's work lies in every base die; a blob operation's in the GRIST unit of its port (R160). -/
def State.runsIn (s : State) (b : Block) (o : Op) : Bool :=
  let on := fun (pick : Page → Bool) => (o.touched ++ o.waits).any (fun pid => match s.pages.get? pid with
    | some p => pick p
    | none => false)
  o.phase == .running && (match b with
    | .port p => (s.part o.partner).port == p && (!o.reads.isEmpty || (o.mailbox.isNone && (o.opcode == 0x14 || o.opcode == 0x15)))
    | .base b => o.isSlotCall || s.nearRuns b o
    | .steep k => on (fun p => p.stack == k)
    | .kiln k => o.waits.any (fun pid => match s.pages.get? pid with
        | some p => p.st == .steeping && p.recordOn k
        | none => false)
    | .tier h => o.waits.any (fun pid => match s.pages.get? pid with
        | some p => p.stack / 4 == h
        | none => false)
    | .staging h => !o.reads.isEmpty && hubOf (s.part o.partner).port == h
    | .lace _ => false)

/-- A steeping that a block reset ends runs again on demand of whoever still waits (R125). -/
def State.restartSteeping (s : State) (pick : Page → Bool) : State :=
  (s.pages.filter (fun p => p.2.st == .steeping && pick p.2)).foldl (fun t e => match t.pages.get? e.1 with
    | some p => (t.setPage e.1 { p with st := .kiln }).queueMove e.1 .demand 1
    | none => t) s

/-- R375: pages whose frames lay on a stack that was reset by force. -/
def State.loseFrames (s : State) (k : Nat) : State :=
  (s.pages.filter (fun p => p.2.stack == k)).foldl (fun t e =>
    match t.pages.get? e.1 with
    | none => t
    | some p => match p.st with
      | .clean => t.setPage e.1 { p with st := .kiln }
      | .steeping => (t.setPage e.1 { p with st := .kiln }).queueMove e.1 .demand 1
      | .zero => t
      | .kiln => t
      | _ => ((t.setPage e.1 { p with st := .kiln, failed := some .media }).uncorrectable ⟨3, k⟩ p).failPage e.1 .media) s

/-- R374 step 3: the block is reset; what it was coding releases its tables (R155, R156). -/
def State.resetBlock (s : State) (b : Block) (forced : Bool) : State :=
  let s1 := if forced then s.abortOps (fun o => s.runsIn b o) .internal else s
  (match b with
  | .port p => s1.linkLost p
  | .steep k =>
    let s2 := { s1 with stp := { s1.stp with reqs := s1.stp.reqs.erase k, rows := s1.stp.rows.filter (fun r => r.stack != k) } }
    if forced then s2.loseFrames k else s2
  | .kiln k => s1.restartSteeping (fun p => p.recordOn k)
  | .tier h =>
    let s2 := s1.restartSteeping (fun p => p.stack / 4 == h)
    { s2 with pages := s2.pages.map (fun (p : Nat × Page) => if p.2.stack / 4 = h then (p.1, p.2.abandon) else p) }
  | _ => s1).reapTables

/-- R374 step 1: the block is asked to go idle; a request for one already in reset is merged (R376); TIMEOUT_US 0 does not wait. -/
def State.requestIdle (s : State) (b : Block) (cause : Word) : State :=
  if s.rst.blocks.any (fun j => j.block == b) then s
  else
    let s1 := s.abortOps (fun o => s.queuedIn b o) .aborted
    if bits s.rst.blkCtl 15 0 = 0 then (s1.raise 0x0031 (blockUnit b) 3 [cause.toNat]).resetBlock b true
    else { s1 with rst := { s1.rst with blocks := s1.rst.blocks ++ [⟨b, cause, s1.tim.clock⟩] } }

/-- R390, R391: a UNIT-class fault takes its level. `lost` names the blocks that a lost clock resets by force (R377). Of a unit that is offline, and once the device has stopped for a device fault, it is recorded only (DESIGN CHOICE, log 23). -/
def State.unitClass (s : State) (u : UnitId) (code : Nat) (detail : List Nat) (tenant : Nat) (lost : List Block) : State :=
  if s.flt.offline.contains u ∨ s.rst.devFault then s.raiseN code u 0 1 detail tenant
  else
    let level := s.ladder u
    let seq := s.flt.seq.toNat
    let first := match s.flt.lastSeq.find? (fun l => l.1 == u) with
      | some l => l.2
      | none => seq
    let second := level != 3 && (unitBlock u).isSome
    let s1 := s.raiseN code u level 1 detail tenant
    let s2 := { s1 with
      flt := { s1.flt with
        lastUnit := s1.flt.lastUnit.filter (fun l => l.1 != u) ++ [(u, s.tim.clock)]
        lastSeq := s1.flt.lastSeq.filter (fun l => l.1 != u) ++ [(u, seq)] }
      -- a second fault abandons the pending action (R391), and a lost clock's reset takes its place (R377); else a new request is merged with it (R376)
      rst := if level = 3 ∧ lost.isEmpty then s1.rst else { s1.rst with blocks := s1.rst.blocks.filter (fun j => blockUnit j.block != u) } }
    match level with
    | 3 =>
      if lost.isEmpty then (match unitBlock u with
        | some b => s2.requestIdle b (BitVec.ofNat 32 seq)
        | none => s2)
      else lost.foldl (fun t b => (t.abortOps (fun o => t.queuedIn b o) .internal).resetBlock b true) s2
    | 4 => s2.goOffline u (if second then first else seq)
    | _ => ({ s2 with flt := { s2.flt with offline := s2.flt.offline ++ [u] } }).deviceFault [seq] unitDevice

/-- Codes of the UNIT class that a unit reports of itself. -/
def unitCode (code : Nat) : Bool := code == 0x0030 || code == 0x0032

/-- Codes that are reported at all (R387). -/
def reportedCode (code : Nat) : Bool :=
  [0x0001, 0x0002, 0x0010, 0x0011, 0x0012, 0x0020, 0x0021, 0x0022, 0x0023, 0x0024, 0x0025, 0x0026].contains code

/-- The units that a domain's loss falls on, each with its block: of a kiln domain, every channel of the hub die (DESIGN CHOICE, log 22). -/
def domainUnits : Domain → List (UnitId × List Block)
  | .hub h => [(⟨1, h⟩, [])]
  | .fabric b => [(⟨2, b⟩, [.base b])]
  | .steep k => [(⟨3, k⟩, [.steep k])]
  | .port p => [(⟨5, p⟩, [.port p])]
  | .kiln h => (List.range 8).map (fun i => (⟨4, 8 * h + i⟩, [Block.kiln (8 * h + i)]))
  | .steward h => [(⟨7, h⟩, [])]

/-- Bit of CLK_LOST_CORE, or of CLK_LOST_PORT for a port. -/
def domainBit : Domain → Nat
  | .hub _ => 0
  | .fabric b => 1 + b
  | .steep k => 9 + k
  | .kiln h => 17 + h
  | .steward h => 19 + h
  | .port p => p

/-- The domain whose loss a unit reports. -/
def lostDomain (u : UnitId) : Option Domain :=
  match u.kind with
  | 1 => some (.hub u.inst)
  | 2 => some (.fabric u.inst)
  | 3 => some (.steep u.inst)
  | 4 => some (.kiln (u.inst / 8))
  | 5 => some (.port u.inst)
  | 7 => some (.steward u.inst)
  | _ => none

/-- R355 step 4, R377: a domain's clock is lost. -/
def State.clockLost (s : State) (d : Domain) : State :=
  let b := domainBit d
  let c := match d with
    | .port _ => { s.clk with lostPort := s.clk.lostPort ||| BitVec.ofNat 28 (2 ^ b) }
    | _ => { s.clk with lostCore := s.clk.lostCore ||| BitVec.ofNat 21 (2 ^ b) }
  ((domainUnits d).filter (fun u => s.unitFitted u.1)).foldl (fun t u => t.unitClass u.1 0x0030 [b] 0xFFFF u.2) { s with clk := c }

/-- R171 step 1: a steep stack reports a page of its own uncorrectable: DETAIL names it by owner, version and page. -/
def State.spoilFrame (s : State) (u : UnitId) (detail : List Nat) (tenant : Nat) : State :=
  if u.kind ≠ 3 then s
  else { s with pages := s.pages.map (fun (p : Nat × Page) =>
    let f := s.ownerFields p.2.owner
    if p.2.stack = u.inst ∧ p.2.tenant = tenant ∧ p.2.st.framed = true ∧ [f.1, f.2.1, f.2.2.2] = detail then (p.1, { p.2 with frameBad := true }) else p) }

/-- UNIT_FAULT: R385, R389 to R392. -/
def unitFault (u : UnitId) (code : Nat) (detail : List Nat) (tenant : Nat) (s : State) : State :=
  if !s.running ∨ !s.unitFitted u then s
  else if unitCode code then (match (if code = 0x0030 then lostDomain u else none) with
    | some d => s.clockLost d
    | none => s.unitClass u code detail tenant [])
  else if !reportedCode code then s
  else if faultClass code = 1 then
    -- R389: counted in the window of its unit and code
    if s.flt.windows.any (fun w => w.unit == u && w.code == code) then
      { s with flt := { s.flt with windows := s.flt.windows.map (fun (w : Coalesce) => if w.unit = u ∧ w.code = code then { w with count := inc32 w.count } else w) } }
    else { s with flt := { s.flt with windows := s.flt.windows ++ [⟨u, code, 1, s.tim.clock, s.tim.time⟩] } }
  else (if code = 0x0010 then s.spoilFrame u detail tenant else s).raiseN code u (if faultClass code = 3 then 2 else 0) 1 detail tenant

/-- CORRECTED_COALESCE_EXPIRY: R389. -/
def correctedCoalesceExpiry (u : UnitId) (code : Nat) (s : State) : State :=
  match s.flt.windows.find? (fun w => w.unit == u && w.code == code) with
  | none => s
  | some w =>
    let s1 := s.advanceTo (w.openedAt + 1000000000)
    { s1 with flt := { s1.flt with windows := s1.flt.windows.filter (· != w) } }.raiseAt w.time code u 1 w.count
      (if code = 0x0001 then [w.count] else []) 0xFFFF

/-- THERMAL_TRIP: R430. -/
def thermalTrip (u : UnitId) (s : State) : State :=
  if !s.running ∨ !s.unitFitted u then s else { s with pins := { s.pins with thermtripN := true } }.deviceFault [] u

/-! ### Block resets (R374) -/

/-- BLOCK_RESET: R374 step 1, R376. -/
def blockReset (b : Block) (cause : Word) (s : State) : State := if !s.running then s else s.requestIdle b cause

/-- BLOCK_IDLE_ACK: R374, R375. -/
def blockIdleAck (b : Block) (s : State) : State :=
  if s.rst.blocks.any (fun j => j.block == b) then
    ({ s with rst := { s.rst with blocks := s.rst.blocks.filter (fun j => j.block != b) } }).resetBlock b false
  else s

/-- BLOCK_IDLE_TIMEOUT: R374, R375. -/
def blockIdleTimeout (b : Block) (s : State) : State :=
  match s.rst.blocks.find? (fun j => j.block == b) with
  | none => s
  | some j =>
    let s1 := s.expire (j.since + bits s.rst.blkCtl 15 0 * 1000)
    (({ s1 with rst := { s1.rst with blocks := s1.rst.blocks.filter (fun k => k.block != b) } }).raise 0x0031 (blockUnit b) 3 [j.cause.toNat]).resetBlock b true

/-! ### Clocks (R355, R356, R377) -/

/-- The domain's multiplexer selects the new clock. -/
def Clk.select (c : Clk) (w : ClkSwitch) : Clk :=
  { c with
    switches := c.switches.filter (fun x => x.domain != w.domain)
    onOsc := if w.toSrc = .osc then c.onOsc.filter (· != w.domain) ++ [w.domain] else c.onOsc.filter (· != w.domain) }

/-- CLOCK_SWITCH: R355 step 1. -/
def clockSwitch (d : Domain) (s : State) : State :=
  if !s.running ∨ s.clk.switches.any (fun w => w.domain == d) then s
  else
    let src : ClkSrc := if s.clk.onOsc.contains d then .pll else .osc
    { s with clk := { s.clk with switches := s.clk.switches ++ [⟨d, src, s.tim.clock⟩] } }

/-- CLOCK_SWITCH_ACK: R355 step 3. -/
def clockSwitchAck (d : Domain) (s : State) : State :=
  match s.clk.switches.find? (fun w => w.domain == d) with
  | some w => { s with clk := s.clk.select w }
  | none => s

/-- CLOCK_SWITCH_TIMEOUT: R355 step 4, R377. -/
def clockSwitchTimeout (d : Domain) (s : State) : State :=
  match s.clk.switches.find? (fun w => w.domain == d) with
  | none => s
  | some w =>
    let s1 := s.expire (w.since + 2000)
    ({ s1 with clk := s1.clk.select w }).clockLost d

/-- REF_LOST: R356, R385, R390. -/
def refLost (s : State) : State :=
  if !s.running ∨ s.clk.refLost then s
  else
    let seq := s.flt.seq.toNat
    let s1 := ({ s with clk := { s.clk with refLost := true } }).raise 0x0036 unitDevice 5 []
    let s2 := s1.deviceFault [seq] unitDevice
    { s2 with pins := { s2.pins with devReady := false, faultN := true } }

def execDevRstN (lowNs : Nat) (released : Bool) (s : State) : Res := .next (devRstN lowNs released s)
def execBringupStart (s : State) : Res := .next (bringupStart s)
def execPowerOn (s : State) : Res := .next (powerOn s)
def execColdPowerOn (s : State) : Res := .next (coldPowerOn s)
def execPowerFail (s : State) : Res := .next (powerFail s)
def execPowerFailFlushDone (s : State) : Res := .next (powerFailFlushDone s)
def execRailOutOfRange (rail : Nat) (s : State) : Res := .next (railOutOfRange rail s)
def execRailCollapse (rail : Nat) (s : State) : Res := .next (railCollapse rail s)
def execUnitFault (unit : UnitId) (code : Nat) (detail : List Nat) (tenant : Nat) (s : State) : Res := .next (unitFault unit code detail tenant s)
def execCorrectedCoalesceExpiry (unit : UnitId) (code : Nat) (s : State) : Res := .next (correctedCoalesceExpiry unit code s)
def execThermalTrip (unit : UnitId) (s : State) : Res := .next (thermalTrip unit s)
def execBlockReset (block : Block) (cause : Word) (s : State) : Res := .next (blockReset block cause s)
def execBlockIdleAck (block : Block) (s : State) : Res := .next (blockIdleAck block s)
def execBlockIdleTimeout (block : Block) (s : State) : Res := .next (blockIdleTimeout block s)
def execClockSwitch (domain : Domain) (s : State) : Res := .next (clockSwitch domain s)
def execClockSwitchAck (domain : Domain) (s : State) : Res := .next (clockSwitchAck domain s)
def execClockSwitchTimeout (domain : Domain) (s : State) : Res := .next (clockSwitchTimeout domain s)
def execRefLost (s : State) : Res := .next (refLost s)

end Sys2Proof.Machine
end

