-- ==== Sys2Proof/Machine/Power.lean ====
section
/-! DEFINITION. Power states (R357 to R362, R140 to R142), the power governor and the per-die limiter (R363, R364), telemetry and temperatures (R419, R428, R331). -/

namespace Sys2Proof.Machine

/-! ### PARKED (R140, R141, R360 to R362) -/

/-- PARK: R360. -/
def park (ses : Nat) (s : State) : State :=
  s.mgmt ses .other 0xC600 [] fun s =>
    match s.pwr.state with
    | .parked | .entering | .leaving => s.refuse .busy
    | _ => ({ s with pwr := { s.pwr with state := .entering, drained := false, parkAt := s.tim.clock } }).success []

/-- PARK_DRAIN_END: R140 step 1, at 100 ms if something still runs; step 2 starts. -/
def parkDrainEnd (s : State) : State :=
  if s.pwr.state ≠ .entering ∨ s.pwr.drained then s
  else
    let late := s.ops.any (fun o => o.phase != .finished)
    let s1 := if late then (s.expire (s.pwr.parkAt + 100000000)).abortOps (fun _ => true) .aborted else s
    ({ s1 with pwr := { s1.pwr with drained := true } }).kilnDirty

/-- No page is left that step 2 of R140 can kiln, nor a line that waits for its frame; one whose tile CRC failed is never kilned (R174). -/
def State.allKilned (s : State) : Bool :=
  s.kln.pend.isEmpty && s.kln.pendWait.isEmpty && s.pages.all (fun p => match p.2.st with
    | .dirty => p.2.tileBad || !s.lockOpen p.2
    | .kilnEvict => false
    | .kilnKeep _ => false
    | .steeping => false
    | _ => true)

/-- R140 step 4: a page as steep loses power. -/
def Page.powerOff (p : Page) : Page :=
  match p.st with
  | .clean => { p with st := .kiln }
  | .dirty => { p with st := .kiln, failed := some .integrity }
  | _ => p

/-- The links that are up enter L1 (R357). -/
def State.linksToL1 (s : State) : State :=
  { s with ports := s.ports.map (fun (p : Nat × Port) => if p.2.width = 0 then p else (p.1, { p.2 with inL1 := true })) }

/-- PARKED_ENTERED: R140 steps 3 and 4, R357, R360, R434. -/
def parkedEntered (s : State) : State :=
  if s.pwr.state ≠ .entering ∨ !s.pwr.drained ∨ !s.allKilned then s
  else
    let resident := (s.pages.filter (fun p => p.2.st.framed)).length
    let n := min (Config.mapBytesRaw s.freeCtr) (32 * resident + 67108864)
    let s1 := ({ s with freeCtr := s.freeCtr + 1 }).journalBytes .parking n
    let s2 := { s1 with
      pages := s1.pages.map (fun (p : Nat × Page) => (p.1, p.2.powerOff))
      stp := { s1.stp with reqs := [], rows := [], batch := [], inGap := false }
      pwr := { s1.pwr with state := .parked, ckpt := true } }
    s2.linksToL1.emit (.fm "PARKED_ENTERED" 0)

/-- Pinned pages that are to be steeped on the exit from PARKED (R141). -/
def State.pinnedAway (s : State) : List Nat :=
  (s.pages.filter (fun p => s.pinned p.1 && !p.2.st.framed && p.2.st != .zero && (s.recordStatus p.2).isNone)).map (·.1)

/-- UNPARK: R360, R362, R141. -/
def unpark (ses : Nat) (s : State) : State :=
  s.mgmt ses .other 0xC601 [] fun s =>
    if s.pwr.state ≠ .parked then s.refuse .access
    else
      let s1 := { s with pwr := { s.pwr with state := .leaving } }
      (s1.pinnedAway.foldl (fun t pid => t.pinHold pid 0) s1).success []

/-- ACTIVE_RESUMED: R141, R360; ports that carry a mailbox are back at full width (R302). -/
def activeResumed (s : State) : State :=
  if s.pwr.state ≠ .leaving ∨ !s.pinnedAway.isEmpty then s
  else
    let ports := s.ports.map (fun (p : Nat × Port) =>
      if s.carriesMailbox p.1 then (p.1, { p.2 with inL1 := false, l0pWidth := p.2.width }) else p)
    let s1 := { s with
      ports := ports
      pwr := { s.pwr with state := .active, drained := false, ckpt := false }
      stp := { s.stp with next := s.tim.time + BitVec.ofNat 64 (refreshNs s.stp.hot) } }
    (s1.senseSteep.flushHeldWrites).emit (.fm "ACTIVE_RESUMED" 0)

/-! ### QUIET and STANDBY (R358, R359) -/

/-- PWR_CTL.TARGET; 3 acts as 2. -/
def State.target (s : State) : Nat := min 2 (bits s.pwr.ctl 31 30)

/-- R358: nothing is active, and no fast slot is bound with MAILBOX_EN. -/
def State.idle (s : State) : Bool :=
  s.serving && s.ops.isEmpty && s.reads.isEmpty && s.kln.pendWait.isEmpty && s.pwr.waking.isNone
    && s.pages.all (fun p => p.2.lockFree && !p.2.copying) && s.kln.moves.isEmpty && !(s.kln.segs.any (fun g => g.2.st == some .collecting))
    && !(s.pool.recs.any (fun e => e.2.st == .scrubbing))
    && !(s.slots.any (fun e => e.2.bound && e.2.fast && e.2.mailboxEn))
    && !s.parts.any (fun p => p.2.dp.active || (List.range 4).any (fun r => s.fetchReady p.1 r))

/-- QUIET_ENTRY: R358. -/
def quietEntry (s : State) : State :=
  if s.pwr.state = .active ∧ s.target ≠ 0 ∧ s.idle then
    let s1 := s.advance (max 1 (bits s.pwr.ctl 15 0) * 1000)
    { s1 with pwr := { s1.pwr with state := .quiet, quietAt := s1.tim.clock } }
  else s

/-- STANDBY_ENTRY: R358, R301: the links enter L1. -/
def standbyEntry (s : State) : State :=
  if s.pwr.state = .quiet ∧ s.target = 2 ∧ s.idle then
    let s1 := s.advanceTo (s.pwr.quietAt + max 1 (bits s.pwr.ctl 23 16) * 1000000)
    { s1 with
      pwr := { s1.pwr with state := .standby }
      stp := { s1.stp with rows := [], inGap := false } }.linksToL1
  else s

/-- WAKE: R359: a request that needs a sleeping unit arrives. -/
def wake (s : State) : State :=
  match s.pwr.state with
  | .quiet => { s with pwr := { s.pwr with waking := s.pwr.waking.or (some .quiet) } }
  | .standby => { s with pwr := { s.pwr with waking := s.pwr.waking.or (some .standby) } }
  | _ => s

/-- WAKE_DONE: R357, R359: the wait counts as a table wait, and from STANDBY the refresh calendar restarts. -/
def wakeDone (s : State) : State :=
  match s.pwr.waking with
  | none => s
  | some st =>
    ({ s with pwr := { s.pwr with state := st } }).awaken

/-! ### Telemetry and temperatures -/

/-- Nominal voltage in 0.01 V and maximum current in 0.1 A of each rail, in R421's order. -/
def railFigures : List (Nat × Nat) :=
  [(180, 3), (180, 10), (180, 56), (250, 200), (120, 1000), (105, 3810), (80, 940), (80, 940), (75, 3730), (75, 2000), (120, 250)]
    ++ List.replicate 8 (75, 1140)

/-- Power of a frame in mW: a slot of 0xFFFF counts at the rail's maximum current (R419). -/
def framePower (slots : List Nat) : Nat :=
  (railFigures.zipIdx.map (fun r =>
    let v := slots.getD r.2 0xFFFF
    r.1.1 * (if v = 0xFFFF then r.1.2 else v))).sum

/-- POWER_W: the 1 ms average, in mW before rounding (R363). -/
def State.averageMw (s : State) : Nat := s.pwr.frames.sum / max 1 s.pwr.frames.length

/-- CAP_W as it acts. -/
def State.capMw (s : State) : Nat := min 1800 (max 600 (bits s.pwr.cap 10 0)) * 1000

/-- R428: a unit stands above its throttle point; a kiln stack throttles kiln writes only. -/
def throttles (key celsius : Nat) : Bool :=
  match key / 65536 with
  | 1 => decide (102 < celsius)
  | 2 => decide (102 < celsius)
  | 3 => decide (92 < celsius)
  | _ => false

/-- The governor acts as if the average exceeded CAP_W (R419, R428). -/
def State.forced (s : State) : Bool := s.pins.vrHot || s.pwr.temps.any (fun t => throttles t.1 t.2)

/-- While it does, the average has not stayed low. -/
def State.stayForced (s : State) : State := if s.forced then { s with pwr := { s.pwr with belowSince := none } } else s

/-- TELEMETRY_FRAME: R419, R363. -/
def telemetryFrame (slots : List Nat) (s : State) : State :=
  if !s.running then s
  else
    let s1 := { s with pwr := { s.pwr with frames := (framePower slots :: s.pwr.frames).take 100 } }
    let low := !s1.forced ∧ s1.averageMw + 30000 < s1.capMw
    { s1 with pwr := { s1.pwr with belowSince := if low then some (s1.pwr.belowSince.getD s1.tim.clock) else none } }

/-- VR_HOT_N: R419. -/
def vrHotN (low : Bool) (s : State) : State := { s with pins := { s.pins with vrHot := low } }.stayForced

/-- UNIT_TEMPERATURE_CHANGE: R331, R353, R428. -/
def unitTemperatureChange (u : UnitId) (celsius : Nat) (s : State) : State :=
  let s1 := { s with pwr := { s.pwr with temps := s.pwr.temps.set (unitKey u) celsius } }.stayForced
  if u.kind ≠ 3 ∨ 8 ≤ u.inst then s1
  -- R353: a controller in DEEP or OFF reads its shadow copy
  else if s1.steepAway then s1
  else s1.senseSteep

/-- R428: kiln writes are held to 96 GB/s. -/
def State.kilnThrottled (s : State) : Bool := s.pwr.temps.any (fun t => t.1 / 65536 == 4 && decide (75 < t.2))

/-! ### Governor (R363) -/

def State.stepsIn (s : State) (i : Nat) : Nat := s.pwr.steps.getD i 0

/-- Ports whose width stage 4 may still lower. -/
def State.narrowable (s : State) : List Nat :=
  (linkedPorts s).filter (fun p => !(s.port p).governed && !s.carriesMailbox p)

/-- Full kiln write rate of the stacks of the variant, in GB/s. -/
def State.kilnRate (s : State) : Nat := 12 * ((List.range 16).filter s.kilnPresent).length

/-- The stage is at its limit. -/
def State.atLimit (s : State) (stage : Nat) : Bool :=
  match stage with
  | 0 => decide (max 1 (ceilDiv (s.kilnRate - 96) 24) ≤ s.stepsIn 0)
  | 1 => decide (7 ≤ s.stepsIn 1)
  | 2 => decide (s.qos.gov ≤ s.qos.fastSum + 8)
  | 3 => s.narrowable.isEmpty
  | _ => decide (s.qos.gov ≤ 64)

def State.setSteps (s : State) (stage n : Nat) : State := { s with pwr := { s.pwr with steps := s.pwr.steps.set stage n } }

/-- One step of a stage is applied. -/
def State.applyStep (s : State) (stage : Nat) : State :=
  let s1 := s.setSteps stage (s.stepsIn stage + 1)
  match stage with
  | 2 => s1.arbitrate (.gov (max (s.qos.fastSum + 8) (s.qos.gov - 16)))
  | 3 => match s.narrowable with
    | p :: _ => s1.setPort p { s1.port p with governed := true, l0pWidth := min (s1.port p).width 3 }
    | [] => s
  | 4 => s1.arbitrate (.gov (max 64 (s.qos.gov - 16)))
  | _ => s1

/-- GOV_CREDITS one step nearer to `base`, from which steps of 16 led to `gov`; the last of them may have been shorter. -/
def creditsUp (base gov : Nat) : Nat := if (base - gov) % 16 = 0 then gov + 16 else gov + (base - gov) % 16

/-- One step of a stage is withdrawn. -/
def State.withdrawStep (s : State) (stage : Nat) : State :=
  let s1 := s.setSteps stage (s.stepsIn stage - 1)
  match stage with
  | 2 => s1.arbitrate (.gov (if s.stepsIn 2 ≤ 1 then 1024 else min 1024 (creditsUp 1024 s.qos.gov)))
  | 3 => match ((linkedPorts s).filter (fun p => (s.port p).governed)).getLast? with
    | some p => s1.setPort p { s1.port p with governed := false, l0pWidth := (s1.port p).width }
    | none => s1
  | 4 => s1.arbitrate (.gov (min 1024 (creditsUp (s.qos.fastSum + 8) s.qos.gov)))
  | _ => s1

/-- The highest stage with a step applied, from 1 (PWR_GOV_STAT). -/
def State.stage (s : State) : Nat := ((List.range 5).filter (fun i => s.stepsIn i != 0)).foldl (fun _ i => i + 1) 0

/-- What class-0 service draws with all six fast slots at their full floors, in mW (R364). -/
def class0Draw : Nat := 1480000

/-- R7, R364: the governor reaches its last stage only at a cap below what class-0 service draws, which R364 puts at about 1,480 W (DEDUCED, log 22). -/
def State.stages (s : State) : List Nat := List.range (if s.capMw < class0Draw then 5 else 4)

/-- GOVERNOR_STEP: R363, R7. -/
def governorStep (s : State) : State :=
  if s.rst.stage ≠ .up ∨ s.rst.flush ≠ .none then s
  else if s.forced ∨ s.capMw < s.averageMw + 20000 then
    match s.stages.find? (fun i => !s.atLimit i) with
    | some i => s.applyStep i
    | none => s
  else
    match s.pwr.belowSince with
    | some t => if t + 10000000 ≤ s.tim.clock ∧ s.stage ≠ 0 then s.withdrawStep (s.stage - 1) else s
    | none => s

/-- DIE_LIMITER: R364: the near-memory core count of the die first, then its issue cycles; a die at 85 W or less is released. How far the count falls is the limiter's own (log 2). -/
def dieLimiter (die watts : Nat) (s : State) : State :=
  if 8 ≤ die ∨ !s.running then s
  else if watts ≤ 85 then
    { s with pwr := { s.pwr with dieCap := s.pwr.dieCap.filter (· != die), dieNear := s.pwr.dieNear.erase die } }
  else if (s.pwr.dieNear.get? die).isNone then
    let (n, s1) := s.fresh
    { s1 with pwr := { s1.pwr with dieNear := s1.pwr.dieNear.set die (n % (64 - 8 * s.stepsIn 1)) } }
  else { s with pwr := { s.pwr with dieCap := s.pwr.dieCap.filter (· != die) ++ [die] } }

def execPark (ses : Nat) (s : State) : Res := .next (park ses s)
def execParkDrainEnd (s : State) : Res := .next (parkDrainEnd s)
def execParkedEntered (s : State) : Res := .next (parkedEntered s)
def execUnpark (ses : Nat) (s : State) : Res := .next (unpark ses s)
def execActiveResumed (s : State) : Res := .next (activeResumed s)
def execQuietEntry (s : State) : Res := .next (quietEntry s)
def execStandbyEntry (s : State) : Res := .next (standbyEntry s)
def execWake (s : State) : Res := .next (wake s)
def execWakeDone (s : State) : Res := .next (wakeDone s)
def execTelemetryFrame (slots : List Nat) (s : State) : Res := .next (telemetryFrame slots s)
def execVrHotN (low : Bool) (s : State) : Res := .next (vrHotN low s)
def execUnitTemperatureChange (unit : UnitId) (celsius : Nat) (s : State) : Res := .next (unitTemperatureChange unit celsius s)
def execGovernorStep (s : State) : Res := .next (governorStep s)
def execDieLimiter (die watts : Nat) (s : State) : Res := .next (dieLimiter die watts s)

end Sys2Proof.Machine
end

