-- ==== Sys2Proof/Machine/Bringup.lean ====
section
/-! DEFINITION. Bring-up and failed starts (R367 to R370), recovery mode (R371, R372), READY (R369, R338) and REBUILD (R348, R349). -/

namespace Sys2Proof.Machine

/-! ### Bring-up steps (R367) -/

/-- R373: bytes 0 to 16,379 of the retained SRAM: 192 fault-record slots, the oldest of the newest 191 first after slot 0 (log 22), and the data area. -/
def State.retainedBody (s : State) : List Byte :=
  let slots := (s.flt.first.toList ++ s.flt.retained.reverse).flatMap faultBytes
  (slots ++ List.replicate (12288 - slots.length) 0).take 12288 ++ (match s.kln.area with
    | some n => (Config.dataArea n ++ List.replicate 4092 0).take 4092
    | none => List.replicate 4092 0)

/-- R373: the retained SRAM, with the CRC-32C of what stands before it in its last four bytes. -/
def State.retainedSram (s : State) : List Byte := s.retainedBody ++ leBytes (Crc.crc32c s.retainedBody) 4

/-- R373: what the cells give back passes the CRC. -/
def retainedRight (bs : List Byte) : Bool := leNat (bs.drop 16380) == Crc.crc32c (bs.take 16380)

/-- R373: step 1 checks the retained SRAM; if that fails it is zeroed. -/
def State.checkRetained (s : State) : State :=
  let bad := !retainedRight (Config.retainedCells s.freeCtr s.retainedSram)
  let s1 := { s with freeCtr := s.freeCtr + 1 }
  if bad then
    ({ s1 with rst := { s1.rst with retLost := true }, kln := { s1.kln with area := none }, flt := { s1.flt with first := none, retained := [] } }).raise 0x0012 unitDevice 0 []
  else s1

/-- R368: the boot ROM accepts a slot. -/
def State.accepts (s : State) (f : FwSlot) : Bool := f.valid && decide (s.fuses.minFwMajor ≤ f.major)

/-- R368: slot A first, then slot B. -/
def State.chooseFirmware (s : State) : Option (Nat × Nat) :=
  if s.accepts s.rst.fwA then some (s.rst.fwA.major, s.rst.fwA.minor)
  else if s.accepts s.rst.fwB then some (s.rst.fwB.major, s.rst.fwB.minor)
  else none

/-- R341: what unwrapping a tenant's wrapped key under the root key gives: the key drawn, under the root that wraps it. -/
def State.unwrapped (s : State) (t : Tenant) : BitVec 512 := if s.rootKey = t.wrapRoot then t.drawn else Config.unwrapKey s.rootKey t.wrapped

/-- R341: tenant keys are loaded; after a debug session a new wrap state is drawn first (R348). -/
def State.loadKeys (s : State) : State :=
  let s1 := if s.rst.freshStart then
      { s with store := { s.store with wrapState := some ((Config.trng s.freeCtr).setWidth 256) }, freeCtr := s.freeCtr + 1 } else s
  { s1 with tenants := s1.tenants.map (fun (t : Nat × Tenant) => (t.1, { t.2 with key := some (s1.unwrapped t.2) })) }

/-- R348: every kiln segment counts as dead. -/
def State.startRebuild (s : State) : State :=
  { s with
    rebuild := some []
    geo := { s.geo with rebuildGib := some 0 }
    kln := { s.kln with
      journal := [], journalBytes := 0
      segs := s.kln.segs.map (fun (g : Nat × Seg) => (g.1, { st := some .full, erases := g.2.erases })) } }

/-- The work that one step does before the next release. -/
def State.bringupWork (s : State) (n : Nat) : State :=
  match n with
  | 1 => s.checkRetained
  | 3 => match s.chooseFirmware with
    | some f => { s with rst := { s.rst with fwChosen := some f } }
    | none => s.failedStart
  | 4 => { s with clk := { s.clk with onOsc := [] } }
  | 5 => s.loadKeys
  | 6 => let t := s.senseSteep
    { t with stp := { t.stp with next := s.tim.time + 3900 } }
  | 8 => if s.rst.freshStart then s.startRebuild else s
  | _ => s

/-- BRINGUP_STEP: R367: the work of the step under way ends and the next domain is released; after step 9 every port is. -/
def bringupStep (s : State) : State :=
  match s.rst.stage with
  | .bringup n =>
    if 9 < n ∨ s.rst.flush ≠ .none ∨ s.rst.devFault ∨ s.rst.phase ≠ .bringup then s
    else
      let s1 := s.bringupWork n
      -- a step that fails the start has left this bring-up (R368, R370)
      if n = 3 ∧ s.chooseFirmware.isNone then s1
      else { s1 with rst := { s1.rst with stage := .bringup (n + 1) } }
  | _ => s

/-- READY: R369, R338, R347, R348, R378. A start under a debug lock that is still open ends in TEST with the keys locked, as R347 leaves the device (DESIGN CHOICE, log 26). -/
def ready (s : State) : State :=
  match s.rst.stage with
  | .bringup n =>
    if n ≤ 9 ∨ s.rst.flush ≠ .none ∨ s.rst.devFault ∨ s.rst.phase ≠ .bringup then s
    else
      let summary := (List.range 4).foldl (fun (m : Map Word) (i : Nat) => Map.set m i (w32 (Config.freeNat (s.freeCtr + i)))) s.rst.backup
      let s1 := { s with
        freeCtr := s.freeCtr + 4
        rst := { s.rst with
          stage := .up, phase := if s.sec.dbgOpen then .test else if s.rebuild.isSome then .rebuild else .service, failedStarts := 0, backup := summary, freshStart := false
          fw := s.rst.fwChosen.getD (0, 0), startMs := min 16383 ((s.tim.clock - s.rst.startedAt) / 1000000) }
        pins := { s.pins with devReady := true, faultN := false }
        sec := { s.sec with keysLocked := s.sec.keysLocked || s.sec.dbgOpen }
        store := if s.rst.freshStart then { s.store with anchor := none } else s.store
        tenants := if s.rst.freshStart then [] else s.tenants
        kln := { s.kln with shutdownRecord := false } }.writeArea
      ((s1.tenants.filter (fun t => t.2.st == .removing)).map (·.1)).foldl (fun t n => t.startRemoval n) s1
  | _ => s

/-- START_TIMEOUT: R369, R370. -/
def startTimeout (s : State) : State :=
  match s.rst.stage with
  | .bringup _ => if s.rst.flush ≠ .none ∨ s.rst.devFault ∨ s.rst.phase ≠ .bringup then s else (s.expire (s.rst.startedAt + 8000000000)).failedStart
  | _ => s

/-! ### Recovery mode (R371, R372, R411) -/

/-- A recovery register or the upload window is reached: P0 has trained, and its function is in D0. -/
def State.recoveryBar (s : State) (k : State → State) : State :=
  if s.rst.stage ≠ .recovery ∨ (s.port 0).width = 0 then s
  else if (s.port 0).d3 then s.barRefused 0
  else k s

/-- VERIFY: R372. -/
def verify (s : State) : State :=
  s.recoveryBar fun s =>
    if s.rst.rcvStat = .busy then s else { s with rst := { s.rst with rcvStat := .busy, rcvJob := .verify } }

/-- A write of the verified image into a slot starts (R372). -/
def State.startWrite (s : State) (job : RcvJob) : State :=
  s.recoveryBar fun s =>
    if s.rst.rcvStat = .verified then { s with rst := { s.rst with rcvStat := .busy, rcvJob := job } } else s

/-- WRITE_A: R372. -/
def writeA (s : State) : State := s.startWrite .writeA
/-- WRITE_B: R372. -/
def writeB (s : State) : State := s.startWrite .writeB

/-- RESTART: R371, R372. It ends no flushed state (R139, R356, R390). -/
def restart (s : State) : State :=
  s.recoveryBar fun s =>
    if s.rst.rcvStat = .busy ∨ s.rst.flush ≠ .none then s
    else (({ s with rst := { s.rst with failedStarts := 0 } }).deviceReset 8 false).beginBringup

/-- The image in the upload window. -/
def State.image (s : State) : List Byte := s.rst.upload.slice 0 s.rst.rcvLen

/-- R368, R372: the check of the image. -/
def State.imageOk (s : State) : Bool :=
  decide (1 ≤ s.rst.rcvLen) && decide (s.rst.rcvLen ≤ 0x4000000) && Config.imageSigned s.image
    && decide (s.fuses.minFwMajor ≤ Config.imageMajor s.image)

/-- VERIFY_DONE: R372. -/
def verifyDone (s : State) : State :=
  if s.rst.rcvStat = .busy ∧ s.rst.rcvJob = .verify then
    { s with rst := { s.rst with rcvStat := if s.imageOk then .verified else .rejected, rcvJob := .none } }
  else s

/-- SLOT_WRITE_DONE: R372. -/
def slotWriteDone (ok : Bool) (s : State) : State :=
  let f : FwSlot := { valid := ok, major := Config.imageMajor s.image, minor := Config.imageMinor s.image }
  let stat : RcvStat := if ok then .written else .rejected
  if s.rst.rcvStat ≠ .busy then s
  else
    match s.rst.rcvJob with
    | .writeA => { s with rst := { s.rst with fwA := if ok then f else { s.rst.fwA with valid := false }, rcvStat := stat, rcvJob := .none } }
    | .writeB => { s with rst := { s.rst with fwB := if ok then f else { s.rst.fwB with valid := false }, rcvStat := stat, rcvJob := .none } }
    | _ => s

/-- UPLOAD_WRITE: R371, R372. -/
def uploadWrite (toLen : Bool) (offset : Nat) (data : List Byte) (s : State) : State :=
  s.recoveryBar fun s =>
    if s.rst.rcvStat = .busy ∨ (!toLen ∧ 0x4000000 < offset + data.length) then s
    else
      let stat := if s.rst.rcvStat = .verified then .idle else s.rst.rcvStat
      if toLen then { s with rst := { s.rst with rcvLen := leNat (data.take 4) % 2 ^ 27, rcvStat := stat } }
      else { s with rst := { s.rst with upload := s.rst.upload.write offset data, rcvStat := stat } }

/-! ### REBUILD (R348, R349) -/

/-- Kiln stacks that count. -/
def State.stacksPresent (s : State) : Nat := ((List.range 16).filter s.kilnPresent).length

/-- REBUILD_SEGMENT_ERASE: R349, R412, R413: POOL_GIB rises at most once per second. -/
def rebuildSegmentErase (stack segment : Nat) (s : State) : State :=
  let g := stack * 32768 + segment
  match s.rebuild with
  | none => s
  | some es =>
    if 32768 ≤ segment ∨ !s.kilnPresent stack ∨ es.contains g ∨ !s.movesRun then s
    else
      let s1 := { s.eraseSeg g with rebuild := some (g :: es) }
      let gib := s.erasedGib (g :: es)
      if some gib ≠ s1.geo.rebuildGib ∧ s1.geo.rebuildAt + 1000000000 ≤ s1.tim.clock then
        s1.geoChange (fun q => { q with rebuildGib := some gib, rebuildAt := s1.tim.clock })
      else s1

/-- REBUILD_END: R349, R413: the last rise of POOL_GIB, too, comes a second after the one before. -/
def rebuildEnd (s : State) : State :=
  match s.rebuild with
  | none => s
  | some es =>
    if (es.filter (fun g => s.kilnPresent (g / 32768))).length < s.stacksPresent * 32768 ∨ s.rst.stage ≠ .up then s
    else
      let s1 := s.advanceTo (s.geo.rebuildAt + 1000000000)
      ({ s1 with rebuild := none, rst := { s1.rst with phase := if s1.rst.phase = Phase.rebuild then Phase.service else s1.rst.phase } }).geoChange
        (fun q => { q with rebuildGib := none })

def execBringupStep (s : State) : Res := .next (bringupStep s)
def execReady (s : State) : Res := .next (ready s)
def execStartTimeout (s : State) : Res := .next (startTimeout s)
def execVerify (s : State) : Res := .next (verify s)
def execWriteA (s : State) : Res := .next (writeA s)
def execWriteB (s : State) : Res := .next (writeB s)
def execRestart (s : State) : Res := .next (restart s)
def execVerifyDone (s : State) : Res := .next (verifyDone s)
def execSlotWriteDone (ok : Bool) (s : State) : Res := .next (slotWriteDone ok s)
def execUploadWrite (toLen : Bool) (offset : Nat) (data : List Byte) (s : State) : Res := .next (uploadWrite toLen offset data s)
def execRebuildSegmentErase (stack segment : Nat) (s : State) : Res := .next (rebuildSegmentErase stack segment s)
def execRebuildEnd (s : State) : Res := .next (rebuildEnd s)

end Sys2Proof.Machine
end

