-- ==== Sys2Proof/Machine/Security.lean ====
section
/-! DEFINITION. The owner anchor (11_tenancy_and_debug_lock.md R336, R337), SPDM and attestation (R345, R311, R436), IDE keys (09_ports.md R309), the security lock (00_scope.md R11) and the debug lock (R346, R347). -/

namespace Sys2Proof.Machine

/-! ### Owner anchor -/

/-- R393, R394, R436: the endpoint turns a command away with BUSY. -/
def State.busyWith (s : State) (k : State → State) : State :=
  if s.takingOver then s.busy [300]
  else if s.rst.stage ≠ .up ∨ s.stew.shed = 3 then
    let (n, s1) := s.fresh
    s1.busy [n]
  else k s

/-- R336, R337: the anchor is set; of the open sessions of that root, two stay, the lowest-numbered (DESIGN CHOICE, log 26). -/
def State.setAnchor (s : State) (root : BitVec 384) : State :=
  let mine := ((s.sec.sessions.filter (fun e => e.2 == root)).map (·.1)).take 2
  { s with
    store := { s.store with anchor := some root }
    sec := { s.sec with sessions := s.sec.sessions.filter (fun e => e.2 != root || mine.contains e.1) } }

/-- OWNER_CLAIM: R337. It needs no session; `root` is the hash of the requester's root certificate. -/
def ownerClaim (i3c : Bool) (root : BitVec 384) (s : State) : State :=
  if !s.endpointUp then s
  else s.busyWith fun s =>
    if !i3c ∨ s.store.anchor.isSome then s.refuse .access
    else ((s.setAnchor root).success []).recordCommand s 0xC5F0 []

/-- OWNER_TRANSFER: R337. -/
def ownerTransfer (ses : Nat) (root : BitVec 384) (s : State) : State :=
  s.mgmt ses .other 0xC5F1 (leBytes root.toNat 48) fun s => (s.setAnchor root).success []

/-- SEC_LOCK: R11: LOCK of SEC_CTL is W1S. -/
def secLock (ses : Nat) (s : State) : State :=
  s.mgmt ses .other 0xC641 (leBytes 0x60004 4 ++ leBytes 1 4) fun s => ({ s with sec := { s.sec with lock := true } }).success []

/-! ### SPDM -/

/-- The endpoint as a number: the DOE of a port, or 28. -/
def epNo : Endpoint → Nat
  | .doe p => p
  | .mgmt => 28

/-- R345, R436: the endpoint answers. Configuration requests and DOE are answered in every power state without a wake (R359). -/
def State.epUp (s : State) (ep : Endpoint) : Bool :=
  match ep with
  | .doe p => s.live p && !(s.port p).flrBusy
  | .mgmt => s.endpointUp

def State.spdmState (s : State) (ep : Endpoint) : SpdmState := s.sec.spdm.get (epNo ep) .start
def State.setSpdm (s : State) (ep : Endpoint) (st : SpdmState) : State :=
  { s with sec := { s.sec with spdm := s.sec.spdm.set (epNo ep) st } }

/-- R303: a DOE interrupt, under the vector and the enable that the host set in the DOE capability (log 5). -/
def State.doeReady (s : State) (ep : Endpoint) : State :=
  match ep with
  | .doe p => let ctl := (s.port p).cfg.get 0x328 0
    if bit ctl 1 then s.signal p (Config.doeVector ctl.toNat % 2048) else s
  | .mgmt => s

/-- An answer on an endpoint; a DOE says so with its interrupt. -/
def State.say (s : State) (ep : Endpoint) (o : Out) : State := (s.emit o).doeReady ep
def State.spdmReply (s : State) (ep : Endpoint) (reply : String) (payload : List Nat) : State := s.say ep (.spdm (epNo ep) reply payload)

/-- Runs a request that SPDM admits in some states only (log 5). -/
def State.spdmIn (s : State) (ep : Endpoint) (ok : List SpdmState) (k : State → State) : State :=
  if !s.epUp ep then s
  else if ok.contains (s.spdmState ep) then k s
  else s.spdmReply ep "UnexpectedRequest" []

/-- States with negotiated algorithms. -/
def negotiatedStates : List SpdmState := [.negotiated, .handshake, .session]

/-- GET_VERSION: R345: version 1.3; the connection starts anew. -/
def getVersion (ep : Endpoint) (s : State) : State :=
  if !s.epUp ep then s else (s.setSpdm ep .version).spdmReply ep "VERSION" [0x13]

/-- The capability flags of what R345 supports: certificates, challenge, signed measurements, secured messages, mutual authentication and key exchange (bit places from SPDM 1.3, log 5). -/
def spdmFlags : Nat := 0x3D6

/-- GET_CAPABILITIES: R345: what it supports, by request of R345. -/
def getCapabilities (ep : Endpoint) (s : State) : State :=
  s.spdmIn ep [.version] fun s => (s.setSpdm ep .capabilities).spdmReply ep "CAPABILITIES" [spdmFlags]

/-- NEGOTIATE_ALGORITHMS: R345: ECDSA P-384 and SHA-384. -/
def negotiateAlgorithms (ep : Endpoint) (s : State) : State :=
  s.spdmIn ep [.capabilities] fun s => (s.setSpdm ep .negotiated).spdmReply ep "ALGORITHMS ECDSA-P384 SHA-384" []

/-- The certificate chain of slot 0 (R345). -/
def State.chain (s : State) : List Byte := Config.certChain s.fuses.serial

/-- GET_DIGESTS: R345: certificate slot 0. -/
def getDigests (ep : Endpoint) (s : State) : State :=
  s.spdmIn ep negotiatedStates fun s => s.say ep (.digest (epNo ep) 0 (Config.sha384 s.chain))

/-- GET_CERTIFICATE: R345. -/
def getCertificate (ep : Endpoint) (s : State) : State :=
  s.spdmIn ep negotiatedStates fun s => s.spdmReply ep "CERTIFICATE" (s.chain.map (·.toNat))

/-- CHALLENGE: R345: the chain's digest and the requester's nonce, signed with the leaf key. -/
def challenge (ep : Endpoint) (nonce : DWord) (s : State) : State :=
  s.spdmIn ep negotiatedStates fun s =>
    let told := leBytes (Config.sha384 s.chain).toNat 48 ++ leBytes nonce.toNat 8
    s.spdmReply ep "CHALLENGE_AUTH" ((told ++ Config.deviceSign s.fuses.serial told).map (·.toNat))

/-- Device ID of R1. -/
def State.deviceId (s : State) : Nat :=
  match s.fuses.variant with
  | .sk480 => 0x0480
  | .sk470 => 0x0470
  | .sk440 => 0x0440

/-- Measurement 3 of R345: Device ID, debug lock state, unlock count, compatibility fuse and fuse map. -/
def State.fuseMeasure (s : State) : List Nat :=
  [s.deviceId, b2n s.sec.dbgOpen, s.fuses.unlocks, b2n s.fuses.compat, s.fuses.gpoMap.toNat, b2n s.fuses.faultMap]

/-- What measurement 4 of R345 is taken over. -/
def State.ownerBytes (s : State) : List Byte :=
  leBytes (s.store.anchor.getD 0).toNat 48 ++ leBytes (b2n s.sec.lock) 1 ++ leBytes (maskOf 28 (fun p => (s.port p).ideRequired)) 4

/-- GET_MEASUREMENTS: R345, R311: an index that is not measured returns an empty record. -/
def getMeasurements (ep : Endpoint) (index : Nat) (s : State) : State :=
  s.spdmIn ep negotiatedStates fun s =>
    let rcv := s.rst.stage == .recovery
    let hash := fun (v : BitVec 384) => s.say ep (.digest (epNo ep) index v)
    let empty := s.spdmReply ep "MEASUREMENTS" []
    match index with
    | 1 => hash Config.bootRomDigest
    | 2 => if rcv then empty else hash (Config.firmwareDigest s.rst.fw.1)
    | 3 => s.spdmReply ep "MEASUREMENTS" s.fuseMeasure
    | 4 => if rcv then empty else hash (Config.sha384 s.ownerBytes)
    | 5 => if rcv then empty else hash (Config.sha384 s.geoBytes)
    | _ => empty

/-- KEY_EXCHANGE: R336, R345; refused while keys are locked (R311). -/
def keyExchange (ep : Endpoint) (s : State) : State :=
  s.spdmIn ep [.negotiated, .session] fun s =>
    if s.sec.keysLocked then s.spdmReply ep "UnsupportedRequest" []
    else (s.setSpdm ep .handshake).spdmReply ep "KEY_EXCHANGE_RSP" []

/-- Management sessions under the current anchor (R336). -/
def State.ownerSessions (s : State) : Nat := (s.sec.sessions.filter (fun e => s.authorised e.1)).length

/-- FINISH: R336, R345: the session is open. On the management endpoint a requester that proved a chain gets a numbered session; at most two under the owner anchor are open at once. -/
def finishSession (ep : Endpoint) (chainRoot : Option (BitVec 384)) (s : State) : State :=
  s.spdmIn ep [.handshake] fun s =>
    match ep, chainRoot with
    | .mgmt, some r =>
      if s.store.anchor = some r ∧ 2 ≤ s.ownerSessions then (s.setSpdm ep .negotiated).spdmReply ep "SessionLimitExceeded" []
      else
        let n := freeKey s.sec.sessions
        let s1 := { s with sec := { s.sec with sessions := s.sec.sessions.set n r } }
        (s1.setSpdm ep .session).spdmReply ep "FINISH_RSP" [n]
    | _, _ => (s.setSpdm ep .session).spdmReply ep "FINISH_RSP" []

/-- Numbers of the streams: 0 the link stream, 1 to 8 the selective ones, 9 that of CXL.cachemem (log 5). -/
def cachememStream : Nat := 9

/-- IDE_KM: R309, R310: a link stream, eight selective streams and the CXL.cachemem stream, in flit mode, over a secured session on the function's DOE. -/
def ideKm (port : Nat) (sel : IdeSel) (key : BitVec 256) (s : State) : State :=
  if !s.epUp (.doe port) then s
  else if s.spdmState (.doe port) ≠ .session ∨ s.sec.keysLocked then s.spdmReply (.doe port) "UnexpectedRequest" []
  else if !(s.port port).flit ∨ 10 ≤ sel.stream then s.spdmReply (.doe port) "InvalidRequest" []
  else
    let q := s.port port
    (s.setPort port { q with ide := q.ide.set sel.stream ⟨.secure, key, sel.skid && sel.stream == cachememStream⟩ }).spdmReply (.doe port) "KP_ACK" [sel.stream]

/-! ### Debug lock (R346, R347) -/

/-- R346: the token is accepted. -/
def State.tokenOk (s : State) (t : Token) : Bool :=
  decide (t.length ≤ 4096) && t.signed && t.serial == s.fuses.serial && t.nonce == s.sec.nonce

/-- R347 step 1: everything stops; what runs ends ABORTED; waiting CXL.mem reads receive poison, and waiting writes are refused. DESIGN CHOICE (log 26): records are written where the completion ring still can be, as this rule has it, although R28 says that a debug unlock writes no completion. -/
def State.unlockStop (s : State) : State :=
  let s1 := (s.parts.map (·.1)).foldl (fun t p => (t.stopRings p).freeSlots p) s
  let s2 := s1.reads.foldl (fun t r => (t.endRead r).poisonRead r) { s1 with reads := [] }
  let s3 := s2.kln.pendWait.foldl (fun t w => t.refuseWrite w) s2
  { s3 with kln := { s3.kln with moves := [], evicting := [], staged := [] } }

/-- R347 step 2, R28: keys, the wrap state, the anchor and the tenant records, and with them all that tenants own but what steep holds. -/
def State.unlockErase (s : State) : State :=
  let s1 := { s with
    store := { anchor := none, wrapState := none }
    tenants := []
    parts := s.parts.map (fun (p : Nat × Partner) => (p.1, { p.2 with tenant := none, handles := [] }))
    slots := []
    pool := { s.pool with recs := [], groups := [], grants := [] }
    grs := { s.grs with tables := [] }
    casks := [], vers := [] }
  s1.syncFast

/-- R347 step 3: steep is zero-filled, with the fault ring and the replay journal that lie in it. -/
def State.unlockSteep (s : State) : State :=
  { s with mem := [], tags := [], pages := [], kln := { s.kln with pend := [], pendWait := [] }
           flt := { s.flt with ring := [] }, jrn := { s.jrn with recs := [] } }

/-- R347 step 4: what the SRAMs hold: the ports' buffers, the view tiles of the GRIST units, and the data area of the retained SRAM; nothing else of it stands in the state once slots are unbound. -/
def State.unlockSram (s : State) : State :=
  { s with
    ports := s.ports.map (fun (p : Nat × Port) => (p.1, { p.2 with wcb := [], held := [] }))
    grs := { s.grs with cache := [] }
    kln := { s.kln with area := none } }

/-- R347 step 5. -/
def State.unlockFuse (s : State) : State := { s with fuses := { s.fuses with unlocks := min 255 (s.fuses.unlocks + 1) } }

/-- R347 step 6, and what a failure of any step leaves: TEST with keys locked. -/
def State.unlockEnd (s : State) (opened : Bool) : State :=
  { s with sec := { s.sec with dbgOpen := opened, keysLocked := true }, rst := { s.rst with phase := .test } }

/-- R347: the sequence; `failsAt` names the step that fails. -/
def State.unlock (s : State) (failsAt : Option Nat) : State :=
  let last := match failsAt with
    | some k => if 1 ≤ k ∧ k ≤ 6 then k - 1 else 6
    | none => 6
  let does := fun (n : Nat) (f : State → State) (t : State) => if n ≤ last then f t else t
  let s1 := does 5 State.unlockFuse (does 4 State.unlockSram (does 3 State.unlockSteep (does 2 State.unlockErase (does 1 State.unlockStop s))))
  s1.unlockEnd (last == 6)

/-- A token is judged: NONCE is replaced, and a rejected one starts the lockout (R346). -/
def State.judgeToken (s : State) (t : Token) (failsAt : Option Nat) : State :=
  let s1 := { s with freeCtr := s.freeCtr + 1, sec := { s.sec with nonce := (Config.trng s.freeCtr).setWidth 64 } }
  if s.tokenOk t then s1.unlock failsAt
  else { s1 with sec := { s1.sec with tokenFails := min 255 (s1.sec.tokenFails + 1), lockout := true, lockoutAt := s1.tim.clock } }

/-- UNLOCK_TOKEN: R346, R347: through the JTAG mailbox (no session), or through the management endpoint under R336, which may be busy (R393, R394, R436) and has the token journaled (R396), with no opcode: the spec gives it none (log 27). -/
def unlockToken (ses : Option Nat) (token : Token) (failsAt : Option Nat) (s : State) : State :=
  let judge := fun (s : State) =>
    if s.sec.dbgOpen ∨ (s.sec.lockout ∧ s.tim.clock < s.sec.lockoutAt + 10000000000) then s else s.judgeToken token failsAt
  if !s.running then s
  else match ses with
    | none => judge s
    | some n =>
      if !s.endpointUp then s
      else if !s.authorised n then s.answer "Invalid Security State" []
      else s.busyWith fun s => (judge s).recordCommand s 0 []

/-- TOKEN_LOCKOUT_EXPIRY: R346. -/
def tokenLockoutExpiry (s : State) : State :=
  if !s.sec.lockout then s
  else
    let s1 := s.advanceTo (s.sec.lockoutAt + 10000000000)
    { s1 with sec := { s1.sec with lockout := false } }

def execOwnerClaim (i3c : Bool) (root : BitVec 384) (s : State) : Res := .next (ownerClaim i3c root s)
def execOwnerTransfer (ses : Nat) (root : BitVec 384) (s : State) : Res := .next (ownerTransfer ses root s)
def execSecLock (ses : Nat) (s : State) : Res := .next (secLock ses s)
def execGetVersion (ep : Endpoint) (s : State) : Res := .next (getVersion ep s)
def execGetCapabilities (ep : Endpoint) (s : State) : Res := .next (getCapabilities ep s)
def execNegotiateAlgorithms (ep : Endpoint) (s : State) : Res := .next (negotiateAlgorithms ep s)
def execGetDigests (ep : Endpoint) (s : State) : Res := .next (getDigests ep s)
def execGetCertificate (ep : Endpoint) (s : State) : Res := .next (getCertificate ep s)
def execChallenge (ep : Endpoint) (nonce : DWord) (s : State) : Res := .next (challenge ep nonce s)
def execGetMeasurements (ep : Endpoint) (index : Nat) (s : State) : Res := .next (getMeasurements ep index s)
def execKeyExchange (ep : Endpoint) (s : State) : Res := .next (keyExchange ep s)
def execFinish (ep : Endpoint) (chainRoot : Option (BitVec 384)) (s : State) : Res := .next (finishSession ep chainRoot s)
def execIdeKm (port : Nat) (sel : IdeSel) (key : BitVec 256) (s : State) : Res := .next (ideKm port sel key s)
def execUnlockToken (ses : Option Nat) (token : Token) (failsAt : Option Nat) (s : State) : Res := .next (unlockToken ses token failsAt s)
def execTokenLockoutExpiry (s : State) : Res := .next (tokenLockoutExpiry s)

end Sys2Proof.Machine
end

