-- ==== Sys2Proof/Machine/Steward.lean ====
section
/-! DEFINITION. The PPS servo (13_time_faults_journal.md R380 to R382), the steward's shedding and takeover (R393, R394), the arbiter's takeover (10_regulation_and_steep_controllers.md R322), and the fault, phase and replay-journal commands (R396, R397, R403, R404, R438). -/

namespace Sys2Proof.Machine

/-! ### PPS servo -/

/-- R381: the target of a capture: NEXT_SEC when ARM is set, else the nearest multiple of 10^9. Halfway between two, which is nearest is open (log 2). -/
def State.ppsTarget (s : State) : Nat × State :=
  let t := s.tim.time.toNat
  let r := t % 1000000000
  if bit s.tim.ctl 30 then (s.tim.nextSec.toNat, s)
  else if r = 500000000 then
    let (n, s1) := s.fresh
    (if n % 2 = 0 then t - r else t - r + 1000000000, s1)
  else if r < 500000000 then (t - r, s)
  else (t - r + 1000000000, s)

/-- R381: RATE_PPB is held within ±200,000. -/
def clampRate (r : Int) : Int := max (-200000) (min 200000 r)

/-- R381: applies the correction c; `adjust` is what the steward adds to RATE_PPB. -/
def Tim.correct (t : Tim) (c adjust : Int) : Tim :=
  let big := decide (bits t.ctl 15 0 < c.natAbs)
  let servo := bit t.ctl 31
  let good := if c.natAbs < 100 then t.goodEdges + 1 else 0
  if servo ∧ big then
    let t1 := { t with locked := false, goodEdges := 0 }
    if 0 < c then { t1 with time := t.time + BitVec.ofInt 64 c } else { t1 with slewLeft := 2 * c.natAbs }
  else { t with rate := if servo then clampRate (t.rate + adjust) else t.rate, goodEdges := good, locked := t.locked || decide (10 ≤ good) }

/-- PPS_IN: R380 to R382; a pulse under 100 ns is none (R417). -/
def ppsIn (pulse : PpsPulse) (s : State) : State :=
  let early := match s.tim.lastEdge with
    | some e => decide (s.tim.clock < e + 500000000)
    | none => false
  if !s.running ∨ pulse.highNs < 100 then s
  else if early then { s with tim := { s.tim with rejectCnt := inc32 s.tim.rejectCnt } }
  else
    let (target, s1) := s.ppsTarget
    let c := (target : Int) - (s.tim.time.toNat : Int)
    let t := { s1.tim with
      pps := s.tim.time, lastEdge := some s.tim.clock, holdover := false
      ctl := s1.tim.ctl &&& 0xBFFFFFFF }
    { s1 with tim := t.correct c pulse.adjust }

/-- SLEW_END: R381: the half-rate run ends. -/
def slewEnd (s : State) : State := s.advance s.tim.slewLeft

/-- HOLDOVER: R382. -/
def holdover (s : State) : State :=
  if !s.running ∨ s.tim.holdover then s
  else
    let s1 := s.expire (s.tim.lastEdge.getD 0 + 1500000000)
    ({ s1 with tim := { s1.tim with holdover := true, locked := false, goodEdges := 0 } }).raise 0x0025 unitDevice 0 []

/-! ### Steward -/

/-- R393: the wait above which the next stage is entered, µs. -/
def shedLimit (stage : Nat) : Nat := [5000, 20000, 50000].getD stage 0

/-- STEWARD_SHED_STAGE: R393. -/
def stewardShedStage (waitUs : Nat) (s : State) : State :=
  let s0 := if 1000 ≤ waitUs then { s with stew := { s.stew with calmSince := some s.tim.clock } } else s
  if !s.endpointUp ∨ 3 ≤ s.stew.shed ∨ waitUs ≤ shedLimit s.stew.shed then s0
  else
    let n := s.stew.shed + 1
    let s1 := { s0 with stew := { s0.stew with shed := n } }
    if n = 2 then { s1 with kln := { s1.kln with published := some (s.klnWear, s.counterList) } } else s1

/-- STEWARD_SHED_EXIT: R393: the wait has stayed below 1 ms for 100 ms, so the last longer one lies that far back (log 9). -/
def stewardShedExit (s : State) : State :=
  let s1 := match s.stew.calmSince with
    | some c => s.expire (c + 100 * Config.msNs)
    | none => s
  { s1 with stew := { s1.stew with shed := 0, calmSince := none }, kln := { s1.kln with published := none } }

/-- R392: a second steward or arbiter is lost. -/
def State.secondLost (s : State) (u : UnitId) : State :=
  if s.flt.offline.contains u then s
  else ({ s with flt := { s.flt with offline := s.flt.offline ++ [u] } }).deviceFault [] unitDevice

/-- R394: the last heartbeat of the active steward: one every 10 ms of REFCLK time (log 9). -/
def State.lastHeartbeat (s : State) : Nat := s.tim.clock / (10 * Config.msNs) * (10 * Config.msNs)

/-- STEWARD_TAKEOVER: R394, R392, R413: 50 ms have passed without a heartbeat. -/
def stewardTakeover (s : State) : State :=
  if !s.endpointUp ∨ s.rst.devFault then s
  else if s.flt.offline.any (fun u => u.kind == 7) then s.secondLost ⟨7, 1⟩
  else
    let s0 := s.expire (s.lastHeartbeat + 50 * Config.msNs)
    let seq := s0.flt.seq.toNat
    let s1 := s0.startTakeover
    (({ s1 with flt := { s1.flt with offline := s1.flt.offline ++ [(⟨7, 0⟩ : UnitId)] } }).geoChange (fun g => { g with stewardH1 := true })).raise 0x0033 ⟨7, 0⟩ 4 [seq]

/-- STEWARD_TAKEOVER_DONE: R394. -/
def stewardTakeoverDone (s : State) : State := { s with stew := { s.stew with takeover := false } }

/-! ### Regulation arbiter -/

/-- ARBITER_TAKEOVER: R322: changes wait from here on. -/
def arbiterTakeover (s : State) : State :=
  if !s.running ∨ s.rst.devFault then s
  else if s.flt.offline.any (fun u => u.kind == 10) then s.secondLost ⟨10, 1⟩
  else { s with qos := { s.qos with takeover := true, lostSeq := none }, flt := { s.flt with offline := s.flt.offline ++ [(⟨10, 0⟩ : UnitId)] } }

/-- ARBITER_TAKEOVER_DONE: R322, R391, R413. -/
def arbiterTakeoverDone (s : State) : State :=
  if !s.qos.takeover then s
  else
    let held := s.qos.held
    let s1 := held.foldl (fun t c => t.applyChange c) { s with qos := { s.qos with takeover := false, held := [], lostSeq := none } }
    let s2 := s1.geoChange (fun g => { g with arbiterH1 := true })
    let seq := s2.flt.seq.toNat
    (s2.raise 0x0035 ⟨10, 0⟩ 4 []).raise 0x0033 ⟨10, 0⟩ 4 [s.qos.lostSeq.getD seq]

/-! ### Fault and phase commands -/

/-- The record of a SEQ, in the ring or the retained slots (R388, R438). -/
def Flt.record? (f : Flt) (seq : Word) : Option FaultRec := (f.ring ++ f.retained ++ f.first.toList).find? (fun r => r.seq == seq)

/-- R438: the SEQ lies among the 2^31 values after the newest, or no record has been written. -/
def Flt.future (f : Flt) (seq : Word) : Bool :=
  !f.everWritten || (let d := (seq - (f.seq - 1)).toNat; decide (1 ≤ d) && decide (d ≤ 2 ^ 31))

/-- FAULT_GET: R404, R438. -/
def faultGet (ses : Nat) (seq : Word) (s : State) : State :=
  s.mgmt ses .faultGet 0xC610 (leBytes seq.toNat 4) fun s =>
    match s.flt.record? seq with
    | some r => s.success ((faultBytes r).map (·.toNat))
    | none => s.refuse (if s.flt.future seq then .bounds else .versionGone)

/-- FAULT_CLEAR: R388, R395, R404. -/
def faultClear (ses : Nat) (s : State) : State :=
  s.mgmt ses .early 0xC611 [] fun s => ({ s with flt := { s.flt with count := 0, first := none } }).success []

/-- PHASE_SET: R349, R404. -/
def phaseSet (ses phase : Nat) (s : State) : State :=
  s.mgmt ses .other 0xC630 (leBytes phase 1) fun s =>
    if phase ≠ 1 ∧ phase ≠ 2 then s.refuse .bounds
    else if s.slots.any (fun e => e.2.bound && e.2.fast) ∨ s.rst.phase = .rebuild then s.refuse .busy
    else ({ s with rst := { s.rst with phase := if phase = 1 then .service else .test } }).success []

/-! ### Replay journal -/

/-- R396, R409: what a write of JRN_CTL makes of it: a new SIZE_GIB while EN is 1 is ignored. -/
def Jrn.newCtl (j : Jrn) (w : Word) : Word :=
  if bit j.ctl 31 then (w &&& 0xE000FFFF) ||| (j.ctl &&& 0x007F0000) else w &&& 0xE07FFFFF

/-- JRN_CTL is written: recording that starts begins at INDEX 0 with a CONFIG record, and the journal's frames come ahead of slot pins, which are settled anew (R396, R397, R398, R409). -/
def State.writeJrn (s : State) (w : Word) : State :=
  let size := bits w 22 16
  if size = 0 ∨ 0x40 < size then s.refuse .bounds
  else
    let ctl := s.jrn.newCtl w
    if !pinsFit (s.quotaSum 1024 0) s.markings (bits ctl 22 16) then s.refuse .resvExceeds
    else
      let starts := bit ctl 31 && !bit s.jrn.ctl 31
      let j := if starts then { s.jrn with ctl := ctl, full := false, next := 0, recs := [], gap := 0, snapAt := s.tim.clock } else { s.jrn with ctl := ctl }
      let s1 := { s with jrn := j }
      ((if starts then s1.snapshot else s1).settleAll).success []

/-- JRN_CTL_WRITE: R396, R397, R409. -/
def jrnCtlWrite (ses : Nat) (value : Word) (s : State) : State :=
  s.mgmt ses .other 0xC641 (leBytes 0xC0000 4 ++ leBytes value.toNat 4) fun s => s.writeJrn value

/-- CONFIG_SNAPSHOT: R396: every SNAP_MS while recording. -/
def configSnapshot (s : State) : State :=
  let ms := bits s.jrn.ctl 15 0
  if !s.recording ∨ ms = 0 then s
  else
    let s1 := s.advanceTo (s.jrn.snapAt + ms * 1000000)
    ({ s1 with jrn := { s1.jrn with snapAt := s1.tim.clock } }).snapshot

/-- The bytes of an INDEX range of the journal. -/
def Jrn.range (j : Jrn) (first count : Nat) : List Byte :=
  (j.recs.filter (fun r => decide (first ≤ r.index) && decide (r.index < first + count))).flatMap jrnBytes

/-- R403: a record of every page that the version holds, at once. None without kiln space. -/
def State.kilnNow (s : State) (pids : List Nat) : Option State :=
  pids.foldl (fun o pid => match o with
    | none => none
    | some t => match t.pages.get? pid with
      | none => some t
      | some p => match t.writeRecord pid p with
        | some (r, t1) => some (t1.setPage pid { p with st := .clean, record := some r, kilnedAt := t1.kln.kilnings.get (p.stack / 4) 0 })
        | none => none) (some s)

/-- R403: writes the range into a new version of the cask and commits it DURABLE; the cask is created if it is not there. -/
def State.exportTo (s : State) (tenant cask : Nat) (bs : List Byte) : Status ⊕ State :=
  let size := ceilDiv bs.length 65536 * 65536
  match s.writerCheck tenant cask none true size with
  | .inl st => .inl st
  | .inr r =>
    let (ck, s1) := match r.1 with
      | some ck => (ck, s)
      | none => s.newCask tenant cask
    let (v, s2) := s1.openWriter ck none size none
    let sp := s2.verSpan v 0 bs.length
    if !s2.roomFor sp then .inl .busy
    else
      let s3 := s2.writeSpan sp bs 2
      match s3.kilnNow (s3.spanPages sp) with
      | none => .inl .busy
      | some s4 => .inr ((s4.journalCommit v).commitVersion v true)

/-- JOURNAL_EXPORT: R403, R404; the refusals in the order of the table. -/
def journalExport (ses tenant cask first count : Nat) (s : State) : State :=
  s.mgmt ses .poolState 0xC620 (leBytes tenant 2 ++ leBytes cask 8 ++ leBytes first 8 ++ leBytes count 8) fun s =>
    let lost := s.rst.devFault && s.flt.offline.any (fun u => u.kind == 1 || u.kind == 3)
    let got := (s.jrn.recs.filter (fun r => decide (first ≤ r.index) && decide (r.index < first + count))).length
    if got < count then s.refuse .versionGone
    else if !s.tenantActive tenant then s.refuse .access
    else if lost then s.refuse .busy
    else
      match s.exportTo tenant cask (s.jrn.range first count) with
      | .inl st => s.refuse st
      | .inr t => t.success []

def execPpsIn (pulse : PpsPulse) (s : State) : Res := .next (ppsIn pulse s)
def execSlewEnd (s : State) : Res := .next (slewEnd s)
def execHoldover (s : State) : Res := .next (holdover s)
def execStewardShedStage (waitUs : Nat) (s : State) : Res := .next (stewardShedStage waitUs s)
def execStewardShedExit (s : State) : Res := .next (stewardShedExit s)
def execStewardTakeover (s : State) : Res := .next (stewardTakeover s)
def execStewardTakeoverDone (s : State) : Res := .next (stewardTakeoverDone s)
def execArbiterTakeover (s : State) : Res := .next (arbiterTakeover s)
def execArbiterTakeoverDone (s : State) : Res := .next (arbiterTakeoverDone s)
def execFaultGet (ses : Nat) (seq : Word) (s : State) : Res := .next (faultGet ses seq s)
def execFaultClear (ses : Nat) (s : State) : Res := .next (faultClear ses s)
def execPhaseSet (ses phase : Nat) (s : State) : Res := .next (phaseSet ses phase s)
def execJrnCtlWrite (ses : Nat) (value : Word) (s : State) : Res := .next (jrnCtlWrite ses value s)
def execConfigSnapshot (s : State) : Res := .next (configSnapshot s)
def execJournalExport (ses tenant cask first count : Nat) (s : State) : Res := .next (journalExport ses tenant cask first count s)

end Sys2Proof.Machine
end

