-- ==== Sys2Proof/Machine/Functions.lean ====
section
/-! DEFINITION. What belongs to one port function, as it reads and is written: partner pages and ring context pages (08_rings_and_completions.md R245 to R247, R415), the MSI-X table and PBA (09_ports.md R287), the configuration space (R283 to R286, R304, R311) and the CDAT (R294). -/

namespace Sys2Proof.Machine

/-! ### Bytes of a write -/

/-- The bits of a word that a mask selects are replaced. -/
def merge (old new mask : Word) : Word := (old &&& ~~~mask) ||| (new &&& mask)

/-- The mask of the enabled bytes (R300). -/
def byteMask (enables : BitVec 4) : Word :=
  w32 (((List.range 4).map (fun i => if enables.getLsbD i then 255 * 256 ^ i else 0)).sum)

/-! ### Partner pages and ring context pages -/

/-- R245: a partner page as it reads; doorbells are WO and read 0. -/
def Partner.doorWord (q : Partner) (off : Nat) : Nat :=
  match off with
  | 0x014 => q.dbDrops
  | 0x104 => q.bobDrops
  | _ => 0

/-- RING_STATUS: R246. HALTED follows Bus Master Enable and the D-state as they stand, so it reads 1 right after reset, though the table's Reset column gives 0 (DEDUCED, log 20). -/
def State.ringStatus (s : State) (partner r : Nat) : Nat :=
  let q := s.part partner
  let g := q.ring r
  let f := s.port q.port
  b2n (if r = 4 then g.disabling else s.ringBusy partner r) * 2 ^ 31 + b2n (!f.bme || f.d3) * 2 ^ 30 + b2n g.err * 2 ^ 29 + g.errCause

/-- RING_IRQ, of the completion ring only. -/
def Ring.irqWord (g : Ring) : Nat := b2n g.irqEn * 2 ^ 31 + g.coalUs * 65536 + g.vector

/-- R246: a ring context page as it reads. -/
def State.ringWord (s : State) (partner off : Nat) : Nat :=
  let q := s.part partner
  let r := off / 0x40
  let g := q.ring r
  match off with
  | 0x200 => q.port * 65536 + q.maxOps
  | 0x204 => (s.descOpsOf partner).length
  | 0x208 => q.norec
  | _ =>
    if 5 ≤ r then 0
    else match off % 0x40 with
      | 0x00 => g.baseLo.toNat
      | 0x04 => g.baseHi.toNat
      | 0x08 => b2n g.enable * 2 ^ 31 + g.sizeLog2
      | 0x0C => s.ringStatus partner r
      | 0x10 => g.head
      | 0x14 => b2n (g.phase && r == 4) * 2 ^ 31 + g.tail
      | 0x18 => if r = 4 then g.irqWord else 0
      | 0x1C => g.badTail
      | _ => 0

/-- A write to a ring context register that has no command of its own (R248, RING_IRQ); of RING_CTL, its SIZE_LOG2 byte alone. -/
def State.writeRing (s : State) (partner off : Nat) (v mask : Word) : State :=
  let r := off / 0x40
  let g := s.ring partner r
  let busy := g.enable || (if r = 4 then g.disabling else s.ringBusy partner r)
  if 5 ≤ r then s
  else match off % 0x40 with
    | 0x00 => if busy then s else s.setRing partner r { g with baseLo := merge g.baseLo v mask &&& 0xFFFFF000 }
    | 0x04 => if busy then s else s.setRing partner r { g with baseHi := merge g.baseHi v mask }
    | 0x08 => if busy ∨ !bit mask 0 ∨ bit mask 24 then s else s.setRing partner r { g with sizeLog2 := bits v 4 0 }
    | 0x18 =>
      if r ≠ 4 then s
      else
        let w := merge (w32 g.irqWord) v mask
        s.setRing partner r { g with irqEn := bit w 31, coalUs := bits w 23 16, vector := bits w 10 0 }
    | _ => s

/-! ### MSI-X table and PBA -/

/-- R287: what a word of the MSI-X table holds before it is written: each entry masked (log 5). -/
def msixReset (i : Nat) : Word := if i % 4 = 3 then 1 else 0

/-- R287: the table. -/
def Port.msixWord (q : Port) (off : Nat) : Nat := (q.msixTable.get (off / 4) (msixReset (off / 4))).toNat

/-- R287: the Pending Bit Array. -/
def Port.pbaWord (q : Port) (off : Nat) : Nat := ((List.range 32).map (fun i => b2n (q.pendingV.contains (8 * off + i)) * 2 ^ i)).sum

/-- A write of the MSI-X table (R287, R303). -/
def Port.writeMsix (q : Port) (off : Nat) (v mask : Word) : Port :=
  { q with msixTable := q.msixTable.set (off / 4) (merge (q.msixTable.get (off / 4) (msixReset (off / 4))) v mask) }

/-! ### Configuration space -/

/-- The completion timeout that Device Control 2 selects (R299): within the range that PCIe gives the value, the time is the device's (log 5). -/
def completionTimeout (code : Nat) : Nat :=
  let pick := fun (lo hi : Nat) => lo + Config.freeNat code % (hi - lo + 1)
  match code with
  | 1 => pick 50000 100000
  | 2 => pick 1000000 10000000
  | 5 => pick 16000000 55000000
  | 6 => pick 65000000 210000000
  | 9 => pick 260000000 900000000
  | 10 => pick 1000000000 3500000000
  | 13 => pick 4000000000 13000000000
  | 14 => pick 17000000000 64000000000
  | _ => 40000000

/-- The MSI mode that the two Message Control words select (R303). -/
def Port.msiOf (q : Port) : MsiMode :=
  if bit (q.cfg.get 0xB0 0) 31 then .msix
  else if bit (q.cfg.get 0x50 0) 16 then .msi (2 ^ min 5 (bits (q.cfg.get 0x50 0) 22 20))
  else .none

/-- The size bits of the BARs (R286), and in recovery mode (R311): 256 KiB and 64 MiB. -/
def barMask (recovery : Bool) (off : Nat) : Word :=
  match off with
  | 0x10 => if recovery then 0xFFFC0000 else 0xFC000000
  | 0x18 => if recovery then 0xFC000000 else 0xC0000000
  | _ => 0xFFFFFFFF

/-- R309: the register blocks of the IDE structure (PCIe's, log 5): the link stream's, and five words of each selective stream from 0x374 on. The stream, and the word of its block: 1 control, 2 status, 3 and 4 the RID association. -/
def ideReg (off : Nat) : Option (Nat × Nat) :=
  if off = 0x36C then some (0, 1)
  else if off = 0x370 then some (0, 2)
  else if 0x374 ≤ off ∧ off < 0x414 then some ((off - 0x374) / 20 + 1, (off - 0x374) % 20 / 4)
  else none

/-- The RW bits of an IDE register: enable, algorithm, TC and Stream ID of a control; the RID range. -/
def ideMask (off : Nat) : Word :=
  match ideReg off with
  | some (_, 1) => 0xFF3FC001
  | some (_, 3) => 0x00FFFF00
  | some (_, 4) => 0xFFFFFF01
  | _ => 0

/-- The state that a stream's status register reports: 2 Secure, 0 Insecure (R310). -/
def Port.ideWord (q : Port) (off : Nat) : Nat :=
  match ideReg off with
  | some (n, 2) => if q.secures (some n) then 2 else 0
  | _ => 0

/-- The RW bits of a configuration register that the model keeps as written (R283, R284, R304); in recovery mode there is no MSI capability (R311). -/
def cfgMask (recovery : Bool) (off : Nat) : Word :=
  match off with
  | 0x04 => 0x00000542
  | 0x0C => 0x000000FF
  | 0x10 => barMask recovery off
  | 0x14 => 0xFFFFFFFF
  | 0x18 => barMask recovery off
  | 0x1C => 0xFFFFFFFF
  | 0x3C => 0x000000FF
  | 0x50 => if recovery then 0 else 0x00710000
  | 0x54 => if recovery then 0 else 0xFFFFFFFC
  | 0x58 => if recovery then 0 else 0xFFFFFFFF
  | 0x5C => if recovery then 0 else 0x0000FFFF
  | 0x60 => if recovery then 0 else 0xFFFFFFFF
  | 0x78 => 0x000079FF
  | 0x80 => 0x00000003
  | 0x98 => 0x0000100F
  | 0xB0 => 0xC0000000
  | 0x108 => 0x305F7030
  | 0x10C => 0x305F7030
  | 0x114 => 0x0000F1C1
  | 0x308 => if recovery then 0 else 0x0000000C
  | 0x328 => 0x00000002
  | _ => if recovery then 0 else ideMask off

/-- R304: an AER status register: uncorrectable or correctable. -/
def Port.aerWord (q : Port) (unc : Bool) : Nat :=
  (((q.aer.filter (fun e => e.place.1 == unc)).map (fun e => 2 ^ e.place.2)).eraseDups).sum

/-- R304: the place of the first unmasked uncorrectable error, whose header the log holds. -/
def Port.firstError (q : Port) : Option Nat := (q.aer.find? (fun e => e.place.1 && !q.errMasked e)).map (·.place.2)

/-- R284: AER Capabilities and Control, and the header log of 14 doublewords, in flit mode as the link runs. Which header arrived is not in the commands, so the log's words are free (log 5). -/
def Port.aerLog (q : Port) (off : Nat) : Nat :=
  if off = 0x118 then (q.firstError.getD 0) + b2n (q.flit && q.firstError.isSome) * 2 ^ 17 + 14 * 2 ^ 18
  else match q.firstError with
    | some n => Config.headerLog n ((off - 0x11C) / 4) % 2 ^ 32
    | none => 0

/-! ### DOE: Discovery and CDAT (R284, R294) -/

/-- The CDAT (R294): the DSMAS entry of DC region 0, with its DPA base and its length, and the DSLBIS values: read and write latency in ns, read and write bandwidth in GB/s. -/
structure Cdat where
  dsmasBase : Nat
  dsmasLength : Nat
  readNs : Nat
  writeNs : Nat
  readGbps : Nat
  writeGbps : Nat
  deriving DecidableEq, Repr

/-- R294, R290: DC region 0 lies at DPA 0 with 64 TiB. -/
def cdat : Cdat := ⟨0, 2 ^ 46, 260, 180, 221, 221⟩

/-- A DSLBIS structure: a value of DSMAS 0, in units of 1,000 ps or 1,000 MB/s; its layout is the CDAT's (log 5). -/
def dslbis (dataType value : Nat) : List Byte := [1, 0, 24, 0, 0, 0] ++ leBytes dataType 1 ++ [0] ++ leBytes 1000 8 ++ leBytes value 2 ++ leBytes 0 6

/-- R294: the structures of the CDAT, its header first. -/
def Cdat.entries (c : Cdat) : List (List Byte) :=
  let body := [[0, 0, 24, 0, 0, 0, 0, 0] ++ leBytes c.dsmasBase 8 ++ leBytes c.dsmasLength 8,
    dslbis 1 c.readNs, dslbis 2 c.writeNs, dslbis 4 c.readGbps, dslbis 5 c.writeGbps]
  let len := 16 + (body.map (·.length)).sum
  let sum := (leBytes len 4).foldl (fun n b => n + b.toNat) 1 + (body.flatten.map (·.toNat)).sum
  (leBytes len 4 ++ [1] ++ leBytes ((256 - sum % 256) % 256) 1 ++ leBytes 0 10) :: body

/-- Bytes as little-endian words. -/
def toWords (bs : List Byte) : List Word := (List.range (bs.length / 4)).map (fun i => w32 (leNat ((bs.drop (4 * i)).take 4)))

/-- R284: the protocols of a function's DOE, vendor and type: DOE Discovery, CDAT, SPDM, Secured SPDM; in recovery mode SPDM (R311) beside Discovery itself (DESIGN CHOICE, log 5). -/
def doeProtocols (recovery : Bool) : List (Nat × Nat) := if recovery then [(1, 0), (1, 1)] else [(1, 0), (0x1E98, 2), (1, 1), (1, 2)]

/-- The answer to a data object of three words (PCIe's and CXL's formats, log 5). SPDM objects are the commands of R345 and are not answered here. -/
def doeAnswer (recovery : Bool) (kind ask : Word) : Option (List Word) :=
  if kind = 1 then
    let ps := doeProtocols recovery
    let i := bits ask 7 0
    some [1, 3, match ps[i]? with
      | some (v, t) => w32 (v + t * 65536 + (if i + 1 < ps.length then i + 1 else 0) * 2 ^ 24)
      | none => 0xFFFF]
  else if kind = 0x21E98 ∧ !recovery ∧ bits ask 15 0 = 0 then
    let es := cdat.entries
    (es[bits ask 31 16]?).map fun e =>
      let i := bits ask 31 16
      [kind, w32 (3 + e.length / 4), w32 ((if i + 1 < es.length then i + 1 else 0xFFFF) * 65536)] ++ toWords e
  else none

/-- DOE GO: the data object written is answered; one of SPDM is taken; any other, or one of a wrong length, sets the error bit. -/
def Doe.go (d : Doe) (recovery : Bool) : Doe :=
  let spdm := (d.inbox.head?).any (fun k => k == 0x10001 || (k == 0x20001 && !recovery))
  let reply := match d.inbox with
    | [k, n, a] => if bits n 17 0 = 3 then doeAnswer recovery k a else none
    | _ => none
  match reply with
  | some ws => { inbox := [], outbox := ws, err := false }
  | none => { d with inbox := [], err := d.err || !spdm }

/-- A write of DOE Control (0x328), of the write mailbox (0x330) or of the read mailbox (0x334), which takes the next word. -/
def Doe.write (d : Doe) (recovery : Bool) (off : Nat) (w : Word) : Doe :=
  match off with
  | 0x328 => if bit w 0 then {} else if bit w 31 then d.go recovery else d
  | 0x330 => { d with inbox := d.inbox ++ [w] }
  | 0x334 => { d with outbox := d.outbox.drop 1 }
  | _ => d

/-- DOE Status and the read mailbox. -/
def Doe.word (d : Doe) (off : Nat) : Nat :=
  match off with
  | 0x32C => b2n (!d.outbox.isEmpty) * 2 ^ 31 + b2n d.err * 4
  | 0x334 => ((d.outbox.head?).map (·.toNat)).getD 0
  | _ => 0

/-! ### HDM decoders in the CXL component registers (R289, R406) -/

/-- Offset of the HDM Decoder Capability in the component registers: where its pointer says (log 5). -/
def hdmAt : Nat := 0x1000 + Config.cxlPointer 5

/-- R406: the CXL.cachemem registers that the model gives: the capability array of RAS, HDM decoders and IDE (identifiers 2, 5 and 7, log 5), and the HDM Decoder Capability with its four decoders. Any other is free. -/
def Port.componentWord (q : Port) (o : Nat) : Option Nat :=
  let head := fun (id : Nat) => some (id + 0x10000 + Config.cxlPointer id % 4096 * 2 ^ 20)
  match o with
  | 0x1000 => some 0x03110001
  | 0x1004 => head 2
  | 0x1008 => head 5
  | 0x100C => head 7
  | _ =>
    if o = hdmAt then some 2
    else if o = hdmAt + 4 then some q.hdmCtl.toNat
    else if hdmAt + 0x10 ≤ o ∧ o < hdmAt + 0x90 then
      let d := q.hdm.get ((o - hdmAt - 0x10) / 0x20) {}
      some (match (o - hdmAt - 0x10) % 0x20 with
        | 0x00 => d.base % 2 ^ 32
        | 0x04 => d.base / 2 ^ 32
        | 0x08 => d.size % 2 ^ 32
        | 0x0C => d.size / 2 ^ 32
        | 0x10 => d.ctl.toNat + b2n d.committed * 1024 + b2n d.err * 2048
        | _ => 0)
    else none

/-- Half of a 64-bit number replaced. -/
def putLow (n : Nat) (v mask : Word) : Nat := n / 2 ^ 32 * 2 ^ 32 + (merge (w32 n) v mask).toNat
def putHigh (n : Nat) (v mask : Word) : Nat := n % 2 ^ 32 + (merge (w32 (n / 2 ^ 32)) v mask).toNat * 2 ^ 32

/-- A write of one word of a decoder: its range while it is not committed, and Commit, which commits or frees it; Lock On Commit keeps it committed (log 5). -/
def Decoder.write (d : Decoder) (k : Nat) (v mask : Word) : Decoder :=
  match k with
  | 0x00 => if d.committed then d else { d with base := putLow d.base v (mask &&& 0xF0000000) }
  | 0x04 => if d.committed then d else { d with base := putHigh d.base v mask }
  | 0x08 => if d.committed then d else { d with size := putLow d.size v (mask &&& 0xF0000000) }
  | 0x0C => if d.committed then d else { d with size := putHigh d.size v mask }
  | 0x10 =>
    let w := merge d.ctl v (mask &&& 0x13FF)
    if d.committed ∧ bit d.ctl 8 then d
    else if !bit w 9 then { d with ctl := w, committed := false, err := false }
    else if d.committed then d
    else { d with ctl := w }.commit (waysOf (bits w 7 4))
  | _ => d

/-- R289, R406: a write of the CXL component registers. -/
def Port.writeComponent (q : Port) (o : Nat) (v mask : Word) : Port :=
  if o = hdmAt + 4 then { q with hdmCtl := merge q.hdmCtl v (mask &&& 3) }
  else if hdmAt + 0x10 ≤ o ∧ o < hdmAt + 0x90 ∧ q.cxl then
    let n := (o - hdmAt - 0x10) / 0x20
    { q with hdm := q.hdm.set n ((q.hdm.get n {}).write ((o - hdmAt - 0x10) % 0x20) v mask) }
  else q

/-! ### Writes and reads of the configuration space -/

/-- A write of a configuration register and the fields of the function that follow it. AER status bits are W1C (R304). Bus Master Enable, the D-state and FLR have commands of their own. -/
def Port.writeCfg (q : Port) (recovery : Bool) (off : Nat) (v mask : Word) : Port :=
  let keep := mask &&& cfgMask recovery off
  let w := merge (q.cfgOf off) v keep
  let q1 := if cfgMask recovery off = 0 then q else { q with cfg := q.cfg.set off w }
  match off with
  | 0x04 => { q1 with memSpace := bit w 1 }
  | 0x50 => { q1 with msi := q1.msiOf }
  | 0x104 => { q with aer := q.aer.filter (fun e => !(e.place.1 && bit (v &&& mask) e.place.2)) }
  | 0x110 => { q with aer := q.aer.filter (fun e => e.place.1 || !bit (v &&& mask) e.place.2) }
  | 0x78 => { q1 with relaxed := bit w 4, mps := 128 * 2 ^ min 2 (bits w 7 5), mrrs := 128 * 2 ^ min 5 (bits w 14 12) }
  | 0x80 => { q1 with aspmL1 := bit w 1 }
  | 0x98 => { q1 with ctoNs := completionTimeout (bits w 3 0)
                      tagBits := if bit (q1.cfg.get 0x308 0) 2 then 14 else if bit w 12 then 10 else 8 }
  | 0xB0 => { q1 with msi := q1.msiOf }
  | 0x308 => { q1 with l0pLink := bit w 3
                       tagBits := if bit w 2 then 14 else if bit (q1.cfg.get 0x98 0) 12 then 10 else 8 }
  | 0x328 => { q1 with doe := q1.doe.write recovery off (v &&& mask) }
  | 0x330 => { q1 with doe := q1.doe.write recovery off (v &&& mask) }
  | 0x334 => { q1 with doe := q1.doe.write recovery off (v &&& mask) }
  | _ => q1

/-- The capability structures of the first 256 bytes: offset, identifier, next (R284, R311). -/
def lowCaps (recovery : Bool) : List (Nat × Nat × Nat) :=
  if recovery then [(0x40, 0x01, 0x70), (0x70, 0x10, 0xB0), (0xB0, 0x11, 0)]
  else [(0x40, 0x01, 0x50), (0x50, 0x05, 0x70), (0x70, 0x10, 0xB0), (0xB0, 0x11, 0)]

/-- The extended structures: offset, identifier, version. Identifiers and versions are PCIe's (log 5). -/
def highCaps (recovery : Bool) : List (Nat × Nat × Nat) :=
  if recovery then [(0x100, 0x01, 3), (0x200, 0x03, 1), (0x320, 0x2E, 2), (0x6C0, 0x23, 1)]
  else [(0x100, 0x01, 3), (0x200, 0x03, 1), (0x210, 0x19, 1), (0x240, 0x25, 1), (0x250, 0x26, 1), (0x280, 0x2A, 1), (0x2C0, 0x31, 1),
    (0x2E0, Config.freeNat 0x2E0 % 65536, 1), (0x300, 0x2F, 1), (0x320, 0x2E, 2), (0x360, 0x30, 1), (0x600, 0x23, 1), (0x640, 0x23, 1), (0x680, 0x23, 1), (0x6C0, 0x23, 1)]

/-- R284: the header of the extended structure at an offset, which points to the next in the chain. -/
def capHeader : List (Nat × Nat × Nat) → Nat → Nat
  | [], _ => 0
  | (o, n, v) :: rest, off => if o = off then n + v * 65536 + ((rest.head?).map (·.1)).getD 0 * 2 ^ 20 else capHeader rest off

/-- R284: identifier and next pointer of the structure at an offset of the first 256 bytes. -/
def lowHeader (recovery : Bool) (off : Nat) : Nat := (((lowCaps recovery).find? (fun c => c.1 == off)).map (fun c => c.2.1 + c.2.2 * 256)).getD 0

/-- Lanes of a WIDTH code (PORT_LINK_STAT). -/
def lanes (code : Nat) : Nat := [0, 1, 4, 8, 16].getD code 0

/-- Memory_Active of the CXL DVSEC (R284). -/
def State.memoryActive (s : State) : Bool := s.rst.stage == .up

/-- R283, R284: the structures of the first 256 bytes. -/
def State.lowWord (s : State) (p off : Nat) : Nat :=
  let q := s.port p
  let rcv := s.rst.stage == .recovery
  let rw := (q.cfgOf off).toNat
  lowHeader rcv off + match off with
  | 0x00 => (if rcv then 0x04FE else s.deviceId) * 65536 + 0x1F9A
  | 0x04 => 0x00100000 + rw + b2n q.bme * 4
  | 0x08 => (if rcv then 0xFF0000 else 0x050210) * 256 + s.fuses.stepping % 256
  | 0x10 => rw + 4
  | 0x18 => rw + 4
  | 0x2C => s.fuses.subsysId % 65536 * 65536 + 0x1F9A
  | 0x34 => 0x40
  | 0x40 => 0x00030000
  | 0x44 => 8 + (if q.d3 then 3 else 0)
  | 0x50 => if rcv then 0 else 0x018A0000 + rw
  | 0x64 => (q.msiPending.map (fun m => 2 ^ m)).sum
  | 0x70 => 0x80020000
  | 0x74 => 0x10008022
  | 0x7C => p * 2 ^ 24 + 0x00018800 + 0x107
  | 0x80 => rw + (lanes q.width * 16 + (if q.width = 0 then 0 else q.speed + 1)) * 65536
  | 0x94 => 0x0003000F
  | 0xA0 => b2n q.flit * 2 ^ 26
  | 0xB0 => (if rcv then 3 else 2047) * 65536 + rw
  | 0xB4 => if rcv then Config.freeNat off else 0x03000000
  | 0xB8 => if rcv then Config.freeNat off else 0x03008000
  | _ => rw

/-- R284, R304, R311: the extended configuration space. -/
def State.highWord (s : State) (p off : Nat) : Nat :=
  let q := s.port p
  let rcv := s.rst.stage == .recovery
  let own := match off with
    | 0x104 => q.aerWord true
    | 0x110 => q.aerWord false
    | 0x204 => s.fuses.serial.toNat % 2 ^ 32
    | 0x208 => s.fuses.serial.toNat / 2 ^ 32
    | 0x32C => q.doe.word off
    | 0x334 => q.doe.word off
    | 0x324 => 1 + (Config.doeVector (q.cfgOf 0x328).toNat % 2048) * 2
    | 0x6C4 => 0x01401F9A
    | 0x6C8 => 1
    | 0x6CC => 0x1000
    | 0x6D0 => s.rst.fw.1 * 65536 + b2n rcv * 32 + p
    | _ => if 0x118 ≤ off ∧ off < 0x154 then q.aerLog off else (q.cfgOf off).toNat
  let service := match off with
    | 0x244 => 0x80000001 + Config.freeNat 0x244 % 2 ^ 15 * 256
    | 0x304 => 6
    | 0x364 => 0x00070043
    | 0x604 => 0x03C31E98
    | 0x608 => 0x00160000
    | 0x61C => 1 + 2 * b2n s.memoryActive + 2 * 2 ^ 13
    | 0x644 => 0x01C01E98
    | 0x648 => 8
    | 0x64C => 0x00800100
    | 0x654 => 0x00810300
    | 0x684 => 0x02021E98
    | 0x688 => 0x00060007
    | 0x68C => b2n q.cxl * 0x00060000
    | _ => q.ideWord off
  capHeader (highCaps rcv) off + own + (if rcv then 0 else service)

/-- A register of a function's configuration space as it reads (R283, R284, R304, R311). -/
def State.cfgWord (s : State) (p off : Nat) : Nat := if off < 0x100 then s.lowWord p off else s.highWord p off

end Sys2Proof.Machine
end

