-- ==== Sys2Proof/Machine/Registers.lean ====
section
/-! DEFINITION. The register map (14_register_map.md R406 to R415): every register as it reads through a port function and through the management endpoint, REG_READ and REG_WRITE (R409), the high-word latches (00_scope.md R10, R408) and writes through a port function (R11, R247, R248, R287, R300, R407). -/

namespace Sys2Proof.Machine

/-! ### Registers as they read -/

/-- The identity block. -/
def State.identWord (s : State) (off : Nat) : Nat :=
  match off with
  | 0x000 => Config.alive
  | 0x004 => s.deviceId * 65536 + 0x1F9A
  | 0x008 => s.fuses.stepping % 256
  | 0x00C => s.rst.fw.1 * 65536 + s.rst.fw.2
  | 0x010 => b2n (s.rst.stage == .up) * 2 ^ 31 + b2n s.rst.devFault * 2 ^ 30 + (if s.rst.phase = .recovery then 0 else phaseCode s.rst.phase) * 2 ^ 27
  | _ => 0

def State.clkReg (s : State) (off : Nat) : Nat :=
  match off with
  | 0x000 => b2n s.clk.refLost * 2 ^ 31 + b2n s.clk.xtalOk * 2 ^ 30
  | 0x004 => s.clk.lostCore.toNat
  | 0x008 => s.clk.lostPort.toNat
  | _ => 0

/-- RST_STATUS. -/
def State.rstStatus (s : State) : Nat :=
  phaseCode s.rst.phase * 2 ^ 29 + b2n s.rst.retLost * 2 ^ 28 + s.rst.failedStarts * 2 ^ 26 + s.rst.startMs

def State.rstReg (s : State) (off : Nat) : Nat :=
  match off with
  | 0x000 => s.rst.cause.toNat
  | 0x004 => s.rstStatus
  | 0x008 => s.rst.blkCtl.toNat
  | 0x00C => s.rst.gpo.toNat
  | _ => if 0x20 ≤ off ∧ off < 0x40 then (s.rst.backup.get ((off - 0x20) / 4) 0).toNat else 0

def State.pwrReg (s : State) (off : Nat) : Nat :=
  match off with
  | 0x000 => pstateCode s.pwr.state
  | 0x004 => s.pwr.ctl.toNat
  | 0x008 => s.pwr.cap.toNat
  | 0x00C => b2n (!s.pwr.dieCap.isEmpty) * 2 ^ 31 + s.stage * 2 ^ 24 + min 2047 (s.averageMw / 1000)
  | 0x010 => s.pwr.parkedRefuse
  | _ => 0

/-- SLEWING reads 1 while the half-rate run lasts (R381). -/
def State.timReg (s : State) (off : Nat) : Nat :=
  match off with
  | 0x010 => s.tim.nextSec.toNat % 2 ^ 32
  | 0x014 => s.tim.nextSec.toNat / 2 ^ 32
  | 0x018 => s.tim.ctl.toNat
  | 0x01C => (BitVec.ofInt 32 s.tim.rate).toNat
  | 0x020 => b2n s.tim.holdover * 2 ^ 31 + b2n s.tim.locked * 2 ^ 30 + b2n (s.tim.slewLeft != 0) * 2 ^ 29
  | 0x024 => s.tim.rejectCnt
  | _ => 0

def State.fltReg (s : State) (off : Nat) : Nat :=
  if off = 0 then s.flt.count
  else if 0x40 ≤ off ∧ off < 0x80 then
    match s.flt.first with
    | some r => leNat (((faultBytes r).drop (off - 0x40)).take 4)
    | none => 0
  else 0

/-- SEC_STATUS. -/
def State.secStatus (s : State) : Nat :=
  b2n s.sec.dbgOpen * 2 ^ 31 + b2n s.store.anchor.isSome * 2 ^ 30 + b2n s.sec.keysLocked * 2 ^ 29
    + min 255 s.fuses.unlocks * 256 + s.sec.tokenFails

def State.secReg (s : State) (off : Nat) : Nat :=
  match off with
  | 0x000 => s.secStatus
  | 0x004 => b2n s.sec.lock
  | _ => 0

/-- Reset value of QOS_PORT_CLASSk: class 2 for every port. -/
def portClassReset (k : Nat) : Word := if k < 2 then 0x12492492 else 0x492492

def State.qosReg (s : State) (off : Nat) : Nat :=
  match off with
  | 0x000 => s.qos.ctl.toNat
  | 0x004 => s.qos.urgCtl.toNat
  | 0x020 => b2n (s.qos.derate == .cut) * 2 ^ 31 + b2n s.qos.hot * 2 ^ 30 + s.qos.gov * 65536 + s.qos.eff
  | 0x024 => s.qos.total
  | 0x028 => s.qos.event.toNat
  | _ =>
    if 0x10 ≤ off ∧ off < 0x1C then (s.qos.portClass.get ((off - 0x10) / 4) (portClassReset ((off - 0x10) / 4))).toNat
    else if 0x40 ≤ off ∧ off < 0x58 then
      match s.qos.fast.get? ((off - 0x40) / 4) with
      | some e => 2 ^ 31 + e.slot * 2048 + e.eff
      | none => 0
    else if 0x1000 ≤ off ∧ off < 0x1800 then (s.qos.resv.get ((off - 0x1000) / 4) 0).toNat
    else if 0x1800 ≤ off ∧ off < 0x2000 then s.qos.resvEff.get ((off - 0x1800) / 4) 0
    else 0

def State.stpReg (s : State) (off : Nat) : Nat :=
  if off = 0x800 then b2n s.stp.hot * 2 ^ 31 + 0x19A * 65536 + refreshNs s.stp.hot
  else if 0x800 ≤ off then 0
  else match off % 256 with
    | 0 => (s.stp.sched.get (off / 256) 0x7D0010).toNat
    | 4 => (s.stp.pageCtl.get (off / 256) 0x14).toNat
    | 8 => s.stackTemp (off / 256)
    | _ => 0

def State.klnReg (s : State) (off : Nat) : Nat :=
  match off with
  | 0x000 => s.kln.tierCtl.toNat
  | 0x004 => s.kln.steepWm.toNat
  | 0x008 => s.kln.fetchDl.toNat
  | 0x00C => s.kln.gcCtl.toNat
  | 0x200 => s.kln.poisonCnt
  | 0x204 => s.kln.dlpathCnt
  | 0x208 => s.kln.pinOvfCnt
  | 0x218 => s.klnWear.toNat
  | _ => if 0x100 ≤ off ∧ off < 0x150 ∧ off % 16 = 8 then (s.kln.stalls.get ((off - 0x100) / 16) {}).cnt else 0

/-- GRS_ROM_SEL is each function's own copy (R407); the management endpoint has none. -/
def State.grsReg (s : State) (who : Accessor) (off : Nat) : Nat :=
  match off with
  | 0x000 => match who with
    | .port p => (s.grs.romSel.get p 0).toNat
    | .mgmt => 0
  | 0x004 => match who with
    | .port p => Grist.romWord (bits (s.grs.romSel.get p 0) 10 7) (bits (s.grs.romSel.get p 0) 6 0)
    | .mgmt => 0
  | 0x008 => s.grs.tables.length
  | 0x00C => s.grs.corruptCnt
  | 0x010 => s.grs.viewDropCnt
  | 0x014 => s.grs.viewPoisonCnt
  | _ => 0

/-- One word of a copy of a peer window (R211). -/
def Window.word (w : Window) (off : Nat) : Nat :=
  match off with
  | 0x00 => w.baseLo.toNat
  | 0x04 => w.baseHi.toNat
  | 0x08 => w.size.toNat
  | 0x0C => w.tgt.toNat
  | 0x10 => w.off.toNat
  | 0x14 => w.src.toNat
  | 0x18 => w.ctl.toNat
  | _ => 0

def State.poolReg (s : State) (off : Nat) : Nat :=
  match off with
  | 0x000 => match s.pool.ns with
    | some (_, m) => 0x8000 + m
    | none => 0
  | 0x004 => s.pool.refusedCnt
  | 0x008 => s.pool.peerUrCnt
  | _ =>
    if 0x1000 ≤ off ∧ off < 0x2000 then
      let n := (off - 0x1000) / 0x40
      let r := off % 0x40
      if r < 0x20 then (s.shadowWin n).word r else (s.activeWin n).word (r - 0x20)
    else 0

/-- Oldest INDEX held. -/
def Jrn.oldest (j : Jrn) : Nat := ((j.recs.head?).map (·.index)).getD j.next

def State.jrnReg (s : State) (off : Nat) : Nat :=
  match off with
  | 0x000 => s.jrn.ctl.toNat
  | 0x004 => b2n s.jrn.full * 2 ^ 31
  | 0x018 => s.jrn.lost
  | _ => 0

/-- PORT_LINK_STAT. -/
def Port.linkStat (q : Port) : Nat :=
  b2n (!q.ide.isEmpty && q.ide.all (fun i => i.2.st == .secure)) * 2 ^ 13 + b2n q.cxl * 2 ^ 12 + b2n q.flit * 2 ^ 11
    + q.l0pWidth * 256 + q.width * 8 + q.speed

/-- R407: the PORT_ block of another function reads 0. -/
def State.portReg (s : State) (who : Accessor) (off : Nat) : Nat :=
  let p := off / 0x40
  let q := s.port p
  if Config.nPorts ≤ p ∨ (who ≠ .mgmt ∧ who ≠ .port p) then 0
  else match off % 0x40 with
    | 0x00 => q.linkStat
    | 0x04 => q.pmCtl.toNat
    | 0x08 => b2n q.ideRequired
    | 0x0C => q.memMiss
    | 0x10 => q.linkDown
    | 0x14 => q.ideRefuse
    | _ => 0

/-- The 64-bit counters that are read under R10, by the offset of their low word. -/
def State.wide (s : State) (off : Nat) : Option Nat :=
  match off with
  | 0x00018 => some s.fuses.serial.toNat
  | 0x40000 => some s.tim.time.toNat
  | 0x40008 => some s.tim.pps.toNat
  | 0x60008 => some s.sec.nonce.toNat
  | 0x80808 => some s.stp.next.toNat
  | 0x90100 => some (s.kln.stalls.get 0 {}).ns
  | 0x90110 => some (s.kln.stalls.get 1 {}).ns
  | 0x90120 => some (s.kln.stalls.get 2 {}).ns
  | 0x90130 => some (s.kln.stalls.get 3 {}).ns
  | 0x90140 => some (s.kln.stalls.get 4 {}).ns
  | 0x90210 => some (s.kln.writtenBytes / 1048576)
  | 0xC0008 => some s.jrn.next
  | 0xC0010 => some s.jrn.oldest
  | _ => none

/-- A register of BAR0 as it stands, by offset (R406, R414). -/
def State.regNow (s : State) (who : Accessor) (off : Nat) : Nat :=
  match s.wide off with
  | some v => v % 2 ^ 32
  | none => match (if 4 ≤ off then s.wide (off - 4) else none) with
    | some v => v / 2 ^ 32 % 2 ^ 32
    | none =>
      let o := off % 65536
      match off / 65536 with
      | 0 => if off < 0x1000 then s.identWord off else if off < 0x2000 then s.geoWord (off - 0x1000) else 0
      | 1 => s.clkReg o
      | 2 => s.rstReg o
      | 3 => s.pwrReg o
      | 4 => s.timReg o
      | 5 => s.fltReg o
      | 6 => s.secReg o
      | 7 => s.qosReg o
      | 8 => s.stpReg o
      | 9 => s.klnReg o
      | 10 => s.grsReg who o
      | 11 => s.poolReg o
      | 12 => s.jrnReg o
      | 13 => s.portReg who o
      | _ => 0

/-! ### High-word latches (R10, R408) -/

def State.latch? (s : State) (who : Accessor) (off : Nat) : Option Word :=
  (s.latches.find? (fun l => l.1 == who && l.2.1 == off)).map (·.2.2)

/-- The latch of an accessor and a register, replaced. -/
def State.setLatch (s : State) (who : Accessor) (off : Nat) (w : Option Word) : State :=
  { s with latches := s.latches.filter (fun l => !(l.1 == who && l.2.1 == off)) ++ (w.map (fun v => (who, off, v))).toList }

/-- A read by an accessor: a low word latches its high word; the next read of the high word gives the latched value (R10, R408). -/
def State.readReg (s : State) (who : Accessor) (off : Nat) : Word × State :=
  match s.wide off with
  | some v => (w32 (v % 2 ^ 32), s.setLatch who (off + 4) (some (w32 (v / 2 ^ 32))))
  | none => match s.latch? who off with
    | some w => (w, s.setLatch who off none)
    | none => (w32 (s.regNow who off), s)

/-- Offsets from here on are the function's configuration space (log 20). -/
def cfgBase : Nat := 0x100000000

/-- A read of BAR0 of recovery mode (R411); RST_RCV_CMD is WO. -/
def State.recoveryRead (s : State) (who : Accessor) (off : Nat) : Word × State :=
  match off with
  | 0x000 => (w32 s.rst.rcvLen, s)
  | 0x008 => (w32 (rcvCode s.rst.rcvStat), s)
  | 0x100 => (w32 s.secStatus, s)
  | 0x108 => s.readReg who 0x60008
  | 0x10C => s.readReg who 0x6000C
  | 0x200 => (w32 s.rst.cause.toNat, s)
  | 0x204 => (w32 s.rstStatus, s)
  | _ => (0, s)

/-- A read of BAR0 in service by offset (R245 to R247, R286, R287, R406): what lies outside the register blocks belongs to the function that reads. Of the two CXL blocks the HDM decoders stand here; the rest is CXL's and free (log 20). -/
def State.serviceRead (s : State) (p off : Nat) : Word × State :=
  let carried := fun (n : Nat) (w : Nat) => (w32 (if (s.part n).port = p then w else 0), s)
  if off < 0xE0000 then s.readReg (.port p) off
  else if 0x00800000 ≤ off ∧ off < 0x00820000 then
    match (if off < 0x00810000 then (s.port p).componentWord (off - 0x00800000) else none) with
    | some w => (w32 w, s)
    | none => let (n, s1) := s.fresh; (w32 n, s1)
  else if 0x01000000 ≤ off ∧ off < 0x02000000 then
    let n := (off - 0x01000000) / 4096
    carried n ((s.part n).doorWord (off % 4096))
  else if 0x02000000 ≤ off ∧ off < 0x03000000 then
    let n := (off - 0x02000000) / 4096
    carried n (s.ringWord n (off % 4096))
  else if 0x03000000 ≤ off ∧ off < 0x03008000 then (w32 ((s.port p).msixWord (off - 0x03000000)), s)
  else if 0x03008000 ≤ off ∧ off < 0x03008100 then (w32 ((s.port p).pbaWord ((off - 0x03008000) / 4 * 4)), s)
  else (0, s)

/-- The answer of a register read. -/
def State.showWord (r : Word × State) : State := r.2.emit (.value r.1)

/-- A read through a port function. Configuration requests are answered from link-up on; identity reads too, and in D3hot (R282, R285, R310); in recovery mode P0 alone answers, for R411's registers. A BAR0 read before READY reads 0 in D3hot too: R282 goes before R285 (DEDUCED, log 20). -/
def State.portRead (s : State) (p off : Nat) (ide : Option Nat) : State :=
  if !s.live p ∨ (s.port p).flrBusy then s
  else if cfgBase ≤ off then s.arrives p ide fun s => s.emit (.value (w32 (s.cfgWord p (off - cfgBase))))
  else if s.rst.stage = .recovery then s.arrives p ide fun s => s.recoveryBar (fun t => State.showWord (t.recoveryRead (.port p) off))
  else s.ideGate p ide fun s =>
    if off < 0x1000 then State.showWord (s.readReg (.port p) off)
    else if s.rst.stage ≠ .up then s.emit (.value 0)
    else if (s.port p).d3 then s.barRefused p
    else State.showWord (s.serviceRead p off)

/-- COUNTER_LO_READ: R10, R408: a read of a register; that of a counter's low word latches its high word. A read of several registers is this command for each, in address order (R300, log 20). -/
def counterLoRead (who : Accessor) (offset : Nat) (ide : Option Nat) (s : State) : State :=
  if offset % 4 ≠ 0 then s
  else match who with
    | .mgmt => if s.endpointUp ∧ offset < 0xE0000 then State.showWord (s.readReg .mgmt offset) else s
    | .port p => s.portRead p offset ide

/-! ### Management access (R409) -/

/-- R409: the refusal of a register command. -/
def offsetRefusal (off : Nat) : Option Status := firstOf [(off % 4 != 0, .align), (decide (0xE0000 ≤ off), .bounds)]

/-- REG_READ: R409. -/
def regRead (ses offset : Nat) (s : State) : State :=
  s.mgmt ses .early 0xC640 (leBytes offset 4) fun s =>
    match offsetRefusal offset with
    | some st => s.refuse st
    | none =>
      let r := s.readReg .mgmt offset
      r.2.success [r.1.toNat]

/-- R361: a REG_WRITE to an RW field of the QOS_ block, or a commit of a peer window, changes regulation or pool state. -/
def regKind (off : Nat) (w : Word) : MgmtKind :=
  if off = 0x70000 ∨ off = 0x70004 ∨ (0x70010 ≤ off ∧ off < 0x7001C) ∨ (0x71000 ≤ off ∧ off < 0x71800) then .poolState
  else if 0xB1000 ≤ off ∧ off < 0xB2000 ∧ off % 0x40 = 0x18 ∧ bit w 3 then .poolState
  else .other

/-- A write of a copy of a peer window, but for a commit (R211). -/
def Window.put (w : Window) (off : Nat) (v : Word) : Window :=
  match off with
  | 0x00 => { w with baseLo := v &&& 0xFFE00000 }
  | 0x04 => { w with baseHi := v &&& 0x000FFFFF }
  | 0x08 => { w with size := v &&& 0x0001FFFF }
  | 0x0C => { w with tgt := v &&& 0x0003FFFF }
  | 0x10 => { w with off := v &&& 0x0000FFFF }
  | 0x14 => { w with src := v &&& 0xBFFFFFFF }
  | 0x18 => { w with ctl := merge w.ctl v 7 }
  | _ => w

/-- The effect of a REG_WRITE under the access codes of R11, and its reply. -/
def State.writeReg (s : State) (off : Nat) (v : Word) : State :=
  let ok := fun (t : State) => t.success []
  let o := off % 65536
  match off / 65536 with
  | 1 => match o with
    | 0x004 => ok { s with clk := { s.clk with lostCore := s.clk.lostCore &&& ~~~(v.setWidth 21) } }
    | 0x008 => ok { s with clk := { s.clk with lostPort := s.clk.lostPort &&& ~~~(v.setWidth 28) } }
    | _ => ok s
  | 2 => match o with
    | 0x000 => ok { s with rst := { s.rst with cause := s.rst.cause &&& ~~~(v.setWidth 5) } }
    | 0x008 => ok { s with rst := { s.rst with blkCtl := v &&& 0xFFFF } }
    | 0x00C => ok { s with rst := { s.rst with gpo := v.setWidth 4 } }
    | _ => if 0x30 ≤ o ∧ o < 0x40 then ok { s with rst := { s.rst with backup := s.rst.backup.set ((o - 0x20) / 4) v } } else ok s
  | 3 => match o with
    | 0x004 => ok { s with pwr := { s.pwr with ctl := v &&& 0xC0FFFFFF } }
    | 0x008 => ok { s with pwr := { s.pwr with cap := v &&& 0x7FF } }
    | _ => ok s
  | 4 => match o with
    | 0x010 => ok { s with tim := { s.tim with nextSec := BitVec.ofNat 64 (v.toNat + s.tim.nextSec.toNat / 2 ^ 32 * 2 ^ 32) } }
    | 0x014 => ok { s with tim := { s.tim with nextSec := BitVec.ofNat 64 (s.tim.nextSec.toNat % 2 ^ 32 + v.toNat * 2 ^ 32) } }
    | 0x018 => ok { s with tim := { s.tim with ctl := (v &&& 0x8000FFFF) ||| ((s.tim.ctl ||| v) &&& 0x40000000) } }
    | _ => ok s
  | 6 => if o = 0x004 then ok { s with sec := { s.sec with lock := s.sec.lock || bit v 0 } } else ok s
  | 7 => match o with
    | 0x000 => ok ({ s with qos := { s.qos with ctl := v &&& 3 } }.grantAll).serveStarved
    | 0x004 => ok { s with qos := { s.qos with urgCtl := v &&& 0x00FF00FF } }
    | 0x010 => ok { s with qos := { s.qos with portClass := s.qos.portClass.set 0 (v &&& 0x3FFFFFFF) } }
    | 0x014 => ok { s with qos := { s.qos with portClass := s.qos.portClass.set 1 (v &&& 0x3FFFFFFF) } }
    | 0x018 => ok { s with qos := { s.qos with portClass := s.qos.portClass.set 2 (v &&& 0x00FFFFFF) } }
    | 0x028 => ok { s with qos := { s.qos with event := s.qos.event &&& ~~~(v.setWidth 3) } }
    | _ => if 0x1000 ≤ o ∧ o < 0x1800 then s.arbitrate (.resv ((o - 0x1000) / 4) v) else ok s
  | 8 => if 0x800 ≤ o then ok s
    -- R353: held while the steep controllers are DEEP or OFF
    else if s.steepAway then ok { s with stp := { s.stp with heldW := s.stp.heldW ++ [(o, v)] } }
    else ok (s.writeStp o v)
  | 11 =>
    if 0x1000 ≤ o ∧ o < 0x2000 ∧ o % 0x40 < 0x20 then
      let n := (o - 0x1000) / 0x40
      if o % 0x40 = 0x18 ∧ bit v 3 then ok (s.commitWindow n v)
      else ok { s with pool := { s.pool with shadow := s.pool.shadow.set n ((s.shadowWin n).put (o % 0x40) v) } }
    else ok s
  | 12 => if o = 0 then s.writeJrn v else ok s
  | 13 =>
    let p := o / 0x40
    let q := s.port p
    if Config.nPorts ≤ p then ok s
    else match o % 0x40 with
      | 0x04 => ok (s.setPort p { q with pmCtl := v &&& 0x98FFFFFF })
      | 0x08 => if s.sec.lock then ok s else ok (s.setPort p { q with ideRequired := bit v 0 })
      | _ => ok s
  | _ => ok s

/-- REG_WRITE: R361, R409. -/
def regWrite (ses offset : Nat) (value : Word) (s : State) : State :=
  s.mgmt ses (regKind offset value) 0xC641 (leBytes offset 4 ++ leBytes value.toNat 4) fun s =>
    match offsetRefusal offset with
    | some st => s.refuse st
    | none => s.writeReg offset value

/-- The opcodes of the vendor ranges that the device defines (R179, R337, R339, R360, R404, R409). -/
def mgmtOpcodes : List Nat :=
  (List.range 6).map (0xC400 + ·) ++ [0xC410, 0xC411] ++ (List.range 5).map (0xC420 + ·) ++ (List.range 8).map (0xC500 + ·)
    ++ [0xC5F0, 0xC5F1, 0xC600, 0xC601, 0xC610, 0xC611, 0xC620, 0xC630, 0xC640, 0xC641]

/-- UNSUPPORTED_MANAGEMENT_COMMAND: R179, R339, R360, R404, R409. -/
def unsupportedManagementCommand (ses opcode : Nat) (s : State) : State :=
  if mgmtOpcodes.contains opcode ∨ opcode < 0xC400 ∨ 0xC650 ≤ opcode then s
  else s.mgmt ses .other opcode [] fun s => s.answer "Unsupported" []

/-! ### REGISTER_WRITE -/

/-- A write of the configuration space: it takes effect in every state of the device; interrupts that a mask held leave as it opens (R303). -/
def State.cfgWrite (s : State) (p off : Nat) (value mask : Word) : State :=
  if (s.port p).flrBusy then s
  else
    let s1 := s.setPort p ((s.port p).writeCfg (s.rst.stage == .recovery) off value mask)
    if off = 0x60 ∨ off = 0xB0 then s1.sendPending p
    else if (s1.port p).doe.outbox ≠ (s.port p).doe.outbox ∧ off = 0x328 then s1.doeReady (.doe p)
    else s1

/-- REGISTER_WRITE: R11, R247, R248, R282, R287, R300, R407, R411: a write through port `port` with byte enables. -/
def registerWrite (port offset : Nat) (value : Word) (enables : BitVec 4) (ide : Option Nat) (s : State) : State :=
  let mask := byteMask enables
  if !s.live port ∨ offset % 4 ≠ 0 then s
  else if cfgBase ≤ offset then s.arrives port ide fun s => s.cfgWrite port (offset - cfgBase) value mask
  else if s.rst.stage = .recovery then
    s.arrives port ide fun s => if offset = 0x200 then s.recoveryBar (fun t => { t with rst := { t.rst with cause := t.rst.cause &&& ~~~((value &&& mask).setWidth 5) } }) else s
  else if s.rst.stage ≠ .up then s.ideGate port ide id
  else if 0x01000000 ≤ offset ∧ offset < 0x02000000 then s.partnerPage port ((offset - 0x01000000) / 4096) false ide id
  else if 0x02000000 ≤ offset ∧ offset < 0x03000000 then
    s.partnerPage port ((offset - 0x02000000) / 4096) false ide fun t => t.writeRing ((offset - 0x02000000) / 4096) (offset % 4096) value mask
  else s.barGate port ide fun t =>
    if offset = 0xA0000 then
      { t with grs := { t.grs with romSel := t.grs.romSel.set port (merge (t.grs.romSel.get port 0) value (mask &&& 0x7FF)) } }
    else if 0x03000000 ≤ offset ∧ offset < 0x03008000 then
      (t.setPort port ((t.port port).writeMsix (offset - 0x03000000) value mask)).sendPending port
    else if 0x00800000 ≤ offset ∧ offset < 0x00810000 then t.setPort port ((t.port port).writeComponent (offset - 0x00800000) value mask)
    else t

def execRegRead (ses offset : Nat) (s : State) : Res := .next (regRead ses offset s)
def execRegWrite (ses offset : Nat) (value : Word) (s : State) : Res := .next (regWrite ses offset value s)
def execUnsupportedManagementCommand (ses opcode : Nat) (s : State) : Res := .next (unsupportedManagementCommand ses opcode s)
def execCounterLoRead (who : Accessor) (offset : Nat) (ide : Option Nat) (s : State) : Res := .next (counterLoRead who offset ide s)
def execRegisterWrite (port offset : Nat) (value : Word) (enables : BitVec 4) (ide : Option Nat) (s : State) : Res :=
  .next (registerWrite port offset value enables ide s)

end Sys2Proof.Machine
end

