-- ==== Sys2Proof/Machine/Dispatch.lean ====
section
/-! DEFINITION. The meaning of each command: one arm per row of spec/opcode_table.json. -/

namespace Sys2Proof.Machine

def exec (i : Instr) (s : State) : Host.Outcome State Fault Refusal :=
  match i with
  | .descriptorFetch partner ring d => Sys2Proof.Machine.execDescriptorFetch partner ring d s
  | .descriptorReadFailed partner ring why => Sys2Proof.Machine.execDescriptorReadFailed partner ring why s
  | .descriptorComplete op => Sys2Proof.Machine.execDescriptorComplete op s
  | .recordWriteFailed op => Sys2Proof.Machine.execRecordWriteFailed op s
  | .fenceRelease op => Sys2Proof.Machine.execFenceRelease op s
  | .nopFence op => Sys2Proof.Machine.execNopFence op s
  | .heartbeat op => Sys2Proof.Machine.execHeartbeat op s
  | .copy op => Sys2Proof.Machine.execCopy op s
  | .fill op => Sys2Proof.Machine.execFill op s
  | .compare op => Sys2Proof.Machine.execCompare op s
  | .compareAndSwap op => Sys2Proof.Machine.execCompareAndSwap op s
  | .reduce op => Sys2Proof.Machine.execReduce op s
  | .loadGrist op => Sys2Proof.Machine.execLoadGrist op s
  | .storeGrist op => Sys2Proof.Machine.execStoreGrist op s
  | .caskOpen op => Sys2Proof.Machine.execCaskOpen op s
  | .caskCommit op => Sys2Proof.Machine.execCaskCommit op s
  | .caskClose op => Sys2Proof.Machine.execCaskClose op s
  | .caskDrop op => Sys2Proof.Machine.execCaskDrop op s
  | .pageHint op => Sys2Proof.Machine.execPageHint op s
  | .pin op => Sys2Proof.Machine.execPin op s
  | .unpin op => Sys2Proof.Machine.execUnpin op s
  | .slotBind op => Sys2Proof.Machine.execSlotBind op s
  | .append op => Sys2Proof.Machine.execAppend op s
  | .attend op => Sys2Proof.Machine.execAttend op s
  | .slotPark op => Sys2Proof.Machine.execSlotPark op s
  | .slotResume op => Sys2Proof.Machine.execSlotResume op s
  | .slotUnbind op => Sys2Proof.Machine.execSlotUnbind op s
  | .picotRebuild op => Sys2Proof.Machine.execPicotRebuild op s
  | .tableLoad op => Sys2Proof.Machine.execTableLoad op s
  | .tableRetire op => Sys2Proof.Machine.execTableRetire op s
  | .peerRead op => Sys2Proof.Machine.execPeerRead op s
  | .peerWrite op => Sys2Proof.Machine.execPeerWrite op s
  | .portSession op => Sys2Proof.Machine.execPortSession op s
  | .journalMark op => Sys2Proof.Machine.execJournalMark op s
  | .slotCallStart op => Sys2Proof.Machine.execSlotCallStart op s
  | .slotTurnTimeout op => Sys2Proof.Machine.execSlotTurnTimeout op s
  | .fastMarkingApply slot => Sys2Proof.Machine.execFastMarkingApply slot s
  | .bobSlotDb via partner value nbytes => Sys2Proof.Machine.execBobSlotDb via partner value nbytes s
  | .mailboxCallComplete slot => Sys2Proof.Machine.execMailboxCallComplete slot s
  | .ringSqDb port partner ring value nbytes secure => Sys2Proof.Machine.execRingSqDb port partner ring value nbytes secure s
  | .ringCqDb port partner value nbytes secure => Sys2Proof.Machine.execRingCqDb port partner value nbytes secure s
  | .ringEnable port partner ring value secure => Sys2Proof.Machine.execRingEnable port partner ring value secure s
  | .ringDisableSq port partner ring value secure => Sys2Proof.Machine.execRingDisableSq port partner ring value secure s
  | .ringDisableCq port partner value secure => Sys2Proof.Machine.execRingDisableCq port partner value secure s
  | .cqDisableTakesEffect partner => Sys2Proof.Machine.execCqDisableTakesEffect partner s
  | .irqCoalesceExpiry partner => Sys2Proof.Machine.execIrqCoalesceExpiry partner s
  | .msixUnmask via vector => Sys2Proof.Machine.execMsixUnmask via vector s
  | .busMasterEnableClear port => Sys2Proof.Machine.execBusMasterEnableClear port s
  | .busMasterEnableSet port => Sys2Proof.Machine.execBusMasterEnableSet port s
  | .flr port => Sys2Proof.Machine.execFlr port s
  | .d3hotEntry port => Sys2Proof.Machine.execD3hotEntry port s
  | .d0Return port => Sys2Proof.Machine.execD0Return port s
  | .perst port => Sys2Proof.Machine.execPerst port s
  | .linkLoss port => Sys2Proof.Machine.execLinkLoss port s
  | .linkUp port width speed flit cxl => Sys2Proof.Machine.execLinkUp port width speed flit cxl s
  | .l0pEntry port => Sys2Proof.Machine.execL0pEntry port s
  | .l1Entry port => Sys2Proof.Machine.execL1Entry port s
  | .cxlMemRead port addr len secure => Sys2Proof.Machine.execCxlMemRead port addr len secure s
  | .cxlMemWrite port addr data secure => Sys2Proof.Machine.execCxlMemWrite port addr data secure s
  | .cxlMemReadTimeout read => Sys2Proof.Machine.execCxlMemReadTimeout read s
  | .cowCopyDone page => Sys2Proof.Machine.execCowCopyDone page s
  | .pendingTableRoom => Sys2Proof.Machine.execPendingTableRoom s
  | .dataWindowWrite port partner offset data enables secure => Sys2Proof.Machine.execDataWindowWrite port partner offset data enables secure s
  | .dataWindowRead port partner offset len enables secure => Sys2Proof.Machine.execDataWindowRead port partner offset len enables secure s
  | .dataWindowReadTimeout partner => Sys2Proof.Machine.execDataWindowReadTimeout partner s
  | .sessionIdleTimeout partner => Sys2Proof.Machine.execSessionIdleTimeout partner s
  | .writeCombineDrain port => Sys2Proof.Machine.execWriteCombineDrain port s
  | .peerWindowRequest port pbr addr write len secure => Sys2Proof.Machine.execPeerWindowRequest port pbr addr write len secure s
  | .poolPwCommit ses window value => Sys2Proof.Machine.execPoolPwCommit ses window value s
  | .dmaCompletion port tag answer => Sys2Proof.Machine.execDmaCompletion port tag answer s
  | .dmaCompletionTimeout port tag => Sys2Proof.Machine.execDmaCompletionTimeout port tag s
  | .undecodedRequest port what => Sys2Proof.Machine.execUndecodedRequest port what s
  | .malformedTlp tlp => Sys2Proof.Machine.execMalformedTlp tlp s
  | .ideCheckFail port check => Sys2Proof.Machine.execIdeCheckFail port check s
  | .extentAdd ses tenant partner dpa granules leaseMs share => Sys2Proof.Machine.execExtentAdd ses tenant partner dpa granules leaseMs share s
  | .viewBind ses tenant partner dpa granules leaseMs blobRecord blobOffset => Sys2Proof.Machine.execViewBind ses tenant partner dpa granules leaseMs blobRecord blobOffset s
  | .extentWithdraw ses record => Sys2Proof.Machine.execExtentWithdraw ses record s
  | .leaseSet ses record leaseMs => Sys2Proof.Machine.execLeaseSet ses record leaseMs s
  | .leaseRenew ses record => Sys2Proof.Machine.execLeaseRenew ses record s
  | .extentQuery ses record => Sys2Proof.Machine.execExtentQuery ses record s
  | .caskGrant ses owner cask grantee aliasId minVersion rights => Sys2Proof.Machine.execCaskGrant ses owner cask grantee aliasId minVersion rights s
  | .caskRevoke ses owner cask grantee => Sys2Proof.Machine.execCaskRevoke ses owner cask grantee s
  | .poolJoin ses ns member => Sys2Proof.Machine.execPoolJoin ses ns member s
  | .memberSet ses member kind pbr port => Sys2Proof.Machine.execMemberSet ses member kind pbr port s
  | .memberRemove ses member => Sys2Proof.Machine.execMemberRemove ses member s
  | .remoteGrant ses member base length tenant rights => Sys2Proof.Machine.execRemoteGrant ses member base length tenant rights s
  | .remoteRevoke ses grant => Sys2Proof.Machine.execRemoteRevoke ses grant s
  | .addDynamicCapacityResponse via offered accepted => Sys2Proof.Machine.execAddDynamicCapacityResponse via offered accepted s
  | .releaseDynamicCapacity via dpa length => Sys2Proof.Machine.execReleaseDynamicCapacity via dpa length s
  | .getDynamicCapacityExtentList via => Sys2Proof.Machine.execGetDynamicCapacityExtentList via s
  | .getDynamicCapacityConfiguration via => Sys2Proof.Machine.execGetDynamicCapacityConfiguration via s
  | .identifyMemoryDevice via => Sys2Proof.Machine.execIdentifyMemoryDevice via s
  | .getSupportedLogs via => Sys2Proof.Machine.execGetSupportedLogs via s
  | .getLog via effectsLog => Sys2Proof.Machine.execGetLog via effectsLog s
  | .getEventRecords via log => Sys2Proof.Machine.execGetEventRecords via log s
  | .clearEventRecords via log handles => Sys2Proof.Machine.execClearEventRecords via log handles s
  | .getEventInterruptPolicy via => Sys2Proof.Machine.execGetEventInterruptPolicy via s
  | .setEventInterruptPolicy via policy => Sys2Proof.Machine.execSetEventInterruptPolicy via policy s
  | .getHealthInfo via => Sys2Proof.Machine.execGetHealthInfo via s
  | .getTimestamp via => Sys2Proof.Machine.execGetTimestamp via s
  | .setTimestamp via value => Sys2Proof.Machine.execSetTimestamp via value s
  | .unsupportedMailboxCommand via opcode => Sys2Proof.Machine.execUnsupportedMailboxCommand via opcode s
  | .leaseExpire record => Sys2Proof.Machine.execLeaseExpire record s
  | .offerLapse record => Sys2Proof.Machine.execOfferLapse record s
  | .drainEnd record => Sys2Proof.Machine.execDrainEnd record s
  | .scrubComplete record => Sys2Proof.Machine.execScrubComplete record s
  | .tenantCreate ses tenant quota => Sys2Proof.Machine.execTenantCreate ses tenant quota s
  | .tenantRemove ses tenant => Sys2Proof.Machine.execTenantRemove ses tenant s
  | .tenantRemovalDone tenant => Sys2Proof.Machine.execTenantRemovalDone tenant s
  | .partnerBind ses partner tenant port maxOps => Sys2Proof.Machine.execPartnerBind ses partner tenant port maxOps s
  | .partnerUnbind ses partner => Sys2Proof.Machine.execPartnerUnbind ses partner s
  | .fastMark ses slot tenant => Sys2Proof.Machine.execFastMark ses slot tenant s
  | .fastClear ses slot => Sys2Proof.Machine.execFastClear ses slot s
  | .pinQuotaSet ses tenant quota => Sys2Proof.Machine.execPinQuotaSet ses tenant quota s
  | .kilnPrefSet ses tenant format table split => Sys2Proof.Machine.execKilnPrefSet ses tenant format table split s
  | .ownerClaim i3c root => Sys2Proof.Machine.execOwnerClaim i3c root s
  | .ownerTransfer ses root => Sys2Proof.Machine.execOwnerTransfer ses root s
  | .getVersion ep => Sys2Proof.Machine.execGetVersion ep s
  | .getCapabilities ep => Sys2Proof.Machine.execGetCapabilities ep s
  | .negotiateAlgorithms ep => Sys2Proof.Machine.execNegotiateAlgorithms ep s
  | .getDigests ep => Sys2Proof.Machine.execGetDigests ep s
  | .getCertificate ep => Sys2Proof.Machine.execGetCertificate ep s
  | .challenge ep nonce => Sys2Proof.Machine.execChallenge ep nonce s
  | .getMeasurements ep index => Sys2Proof.Machine.execGetMeasurements ep index s
  | .keyExchange ep => Sys2Proof.Machine.execKeyExchange ep s
  | .finish ep chainRoot => Sys2Proof.Machine.execFinish ep chainRoot s
  | .ideKm port stream key => Sys2Proof.Machine.execIdeKm port stream key s
  | .unlockToken ses token failsAt => Sys2Proof.Machine.execUnlockToken ses token failsAt s
  | .tokenLockoutExpiry => Sys2Proof.Machine.execTokenLockoutExpiry s
  | .park ses => Sys2Proof.Machine.execPark ses s
  | .parkDrainEnd => Sys2Proof.Machine.execParkDrainEnd s
  | .parkedEntered => Sys2Proof.Machine.execParkedEntered s
  | .unpark ses => Sys2Proof.Machine.execUnpark ses s
  | .activeResumed => Sys2Proof.Machine.execActiveResumed s
  | .faultGet ses seq => Sys2Proof.Machine.execFaultGet ses seq s
  | .faultClear ses => Sys2Proof.Machine.execFaultClear ses s
  | .journalExport ses tenant cask first count => Sys2Proof.Machine.execJournalExport ses tenant cask first count s
  | .phaseSet ses phase => Sys2Proof.Machine.execPhaseSet ses phase s
  | .regRead ses offset => Sys2Proof.Machine.execRegRead ses offset s
  | .regWrite ses offset value => Sys2Proof.Machine.execRegWrite ses offset value s
  | .unsupportedManagementCommand ses opcode => Sys2Proof.Machine.execUnsupportedManagementCommand ses opcode s
  | .qosResvWrite ses index value => Sys2Proof.Machine.execQosResvWrite ses index value s
  | .jrnCtlWrite ses value => Sys2Proof.Machine.execJrnCtlWrite ses value s
  | .secLock ses => Sys2Proof.Machine.execSecLock ses s
  | .grsRomDataRead port secure => Sys2Proof.Machine.execGrsRomDataRead port secure s
  | .counterLoRead who offset secure => Sys2Proof.Machine.execCounterLoRead who offset secure s
  | .registerWrite port offset value enables secure => Sys2Proof.Machine.execRegisterWrite port offset value enables secure s
  | .steepingDone page result => Sys2Proof.Machine.execSteepingDone page result s
  | .kilningDone page result => Sys2Proof.Machine.execKilningDone page result s
  | .pageMoveStart page => Sys2Proof.Machine.execPageMoveStart page s
  | .evictionStart half stack => Sys2Proof.Machine.execEvictionStart half stack s
  | .counterHalve => Sys2Proof.Machine.execCounterHalve s
  | .fetchDeadline fetch => Sys2Proof.Machine.execFetchDeadline fetch s
  | .collection stack => Sys2Proof.Machine.execCollection stack s
  | .kilnSpaceTimeout op => Sys2Proof.Machine.execKilnSpaceTimeout op s
  | .journalCommitDone op => Sys2Proof.Machine.execJournalCommitDone op s
  | .powerFail => Sys2Proof.Machine.execPowerFail s
  | .powerFailFlushDone => Sys2Proof.Machine.execPowerFailFlushDone s
  | .railOutOfRange rail => Sys2Proof.Machine.execRailOutOfRange rail s
  | .railCollapse rail => Sys2Proof.Machine.execRailCollapse rail s
  | .powerOn => Sys2Proof.Machine.execPowerOn s
  | .coldPowerOn => Sys2Proof.Machine.execColdPowerOn s
  | .devRstN lowNs released => Sys2Proof.Machine.execDevRstN lowNs released s
  | .bringupStart => Sys2Proof.Machine.execBringupStart s
  | .bringupStep => Sys2Proof.Machine.execBringupStep s
  | .ready => Sys2Proof.Machine.execReady s
  | .startTimeout => Sys2Proof.Machine.execStartTimeout s
  | .verify => Sys2Proof.Machine.execVerify s
  | .writeA => Sys2Proof.Machine.execWriteA s
  | .writeB => Sys2Proof.Machine.execWriteB s
  | .restart => Sys2Proof.Machine.execRestart s
  | .verifyDone => Sys2Proof.Machine.execVerifyDone s
  | .slotWriteDone ok => Sys2Proof.Machine.execSlotWriteDone ok s
  | .uploadWrite toLen offset data => Sys2Proof.Machine.execUploadWrite toLen offset data s
  | .rebuildEnd => Sys2Proof.Machine.execRebuildEnd s
  | .refLost => Sys2Proof.Machine.execRefLost s
  | .clockSwitch domain => Sys2Proof.Machine.execClockSwitch domain s
  | .clockSwitchAck domain => Sys2Proof.Machine.execClockSwitchAck domain s
  | .clockSwitchTimeout domain => Sys2Proof.Machine.execClockSwitchTimeout domain s
  | .blockReset block cause => Sys2Proof.Machine.execBlockReset block cause s
  | .blockIdleAck block => Sys2Proof.Machine.execBlockIdleAck block s
  | .blockIdleTimeout block => Sys2Proof.Machine.execBlockIdleTimeout block s
  | .unitFault unit code detail tenant => Sys2Proof.Machine.execUnitFault unit code detail tenant s
  | .correctedCoalesceExpiry unit code => Sys2Proof.Machine.execCorrectedCoalesceExpiry unit code s
  | .stewardTakeover => Sys2Proof.Machine.execStewardTakeover s
  | .arbiterTakeover => Sys2Proof.Machine.execArbiterTakeover s
  | .stewardShedStage waitUs => Sys2Proof.Machine.execStewardShedStage waitUs s
  | .stewardShedExit => Sys2Proof.Machine.execStewardShedExit s
  | .quietEntry => Sys2Proof.Machine.execQuietEntry s
  | .standbyEntry => Sys2Proof.Machine.execStandbyEntry s
  | .wake => Sys2Proof.Machine.execWake s
  | .wakeDone => Sys2Proof.Machine.execWakeDone s
  | .governorStep => Sys2Proof.Machine.execGovernorStep s
  | .dieLimiter die watts => Sys2Proof.Machine.execDieLimiter die watts s
  | .telemetryFrame slots => Sys2Proof.Machine.execTelemetryFrame slots s
  | .vrHotN low => Sys2Proof.Machine.execVrHotN low s
  | .thermalTrip unit => Sys2Proof.Machine.execThermalTrip unit s
  | .refreshStart => Sys2Proof.Machine.execRefreshStart s
  | .creditReturn stack request levelKib => Sys2Proof.Machine.execCreditReturn stack request levelKib s
  | .ageLimit stack request => Sys2Proof.Machine.execAgeLimit stack request s
  | .rowIdlePrecharge stack bank => Sys2Proof.Machine.execRowIdlePrecharge stack bank s
  | .ppsIn adjust => Sys2Proof.Machine.execPpsIn adjust s
  | .slewEnd => Sys2Proof.Machine.execSlewEnd s
  | .holdover => Sys2Proof.Machine.execHoldover s
  | .configSnapshot => Sys2Proof.Machine.execConfigSnapshot s
  | .hdmDecoderCommit via decoder base size ways => Sys2Proof.Machine.execHdmDecoderCommit via decoder base size ways s
  | .flrResetComplete port => Sys2Proof.Machine.execFlrResetComplete port s
  | .l1Exit port => Sys2Proof.Machine.execL1Exit port s
  | .journalCheckpoint => Sys2Proof.Machine.execJournalCheckpoint s
  | .rebuildSegmentErase stack segment => Sys2Proof.Machine.execRebuildSegmentErase stack segment s
  | .refreshGapEnd => Sys2Proof.Machine.execRefreshGapEnd s
  | .stewardTakeoverDone => Sys2Proof.Machine.execStewardTakeoverDone s
  | .arbiterTakeoverDone => Sys2Proof.Machine.execArbiterTakeoverDone s
  | .unitTemperatureChange unit celsius => Sys2Proof.Machine.execUnitTemperatureChange unit celsius s

end Sys2Proof.Machine
end

