-- ==== Sys2Proof/Machine/Step.lean ====
section
/-! DEFINITION. One step: the command at the front of the queue, or, with none waiting, one REFCLK cycle (log 9). -/

namespace Sys2Proof.Machine

/-- One REFCLK cycle of 10 ns with nothing commanded: TIME advances (R379) and each steep controller issues one granted request (R326). -/
def State.tick (s : State) : State :=
  match s.rst.stage with
  | .off => s
  | .held => s
  | _ => (s.advance 10).issueAll

/-- Takes the command at the front of the queue; on an empty queue the block idles for a cycle. -/
def step (s : State) : Host.Outcome State Fault Refusal :=
  match s.pending with
  | [] => .next s.tick
  | c :: rest => exec c { s with pending := rest }

/-- `s` with the command that the word spells at the front of its queue; no word spells one. -/
def State.withFetchWord (s : State) (nbits w : Nat) : State :=
  match decodeTableWord nbits w with
  | some c => { s with pending := c :: s.pending }
  | none => s

end Sys2Proof.Machine
end

