-- ==== Sys2Proof/Safety.lean ====
section
/-! DEFINITION. The terms that the statements use: a step that answers a next state, a management session whose commands are carried out, and what recording adds to a state. -/

namespace Sys2Proof.Machine

/-- The outcome is a next state. -/
def Completes (r : Host.Outcome State Fault Refusal) : Prop := ∃ t, r = .next t

/-- Every waiting command is well formed. -/
def State.QueueOk (s : State) : Prop := ∀ c ∈ s.pending, c.wellFormed = true

/-- The device has reached READY and its owner session `ses` is answered: nothing of R336, R393, R394 or R436 turns its commands away. -/
structure Commanded (s : State) (ses : Nat) : Prop where
  stage : s.rst.stage = .up
  session : s.authorised ses = true
  noTakeover : s.takingOver = false
  noShed : s.stew.shed ≠ 3

/-- The device is neither PARKED nor on its way into or out of it (R361). -/
def State.Unparked (s : State) : Prop := s.pwr.state = .active ∨ s.pwr.state = .quiet ∨ s.pwr.state = .standby

/-- Operation entries, of distinct numbers, are the same but for nanoseconds of waiting added to them (R128). -/
def State.OpsWaited (s t : State) : Prop := (s.ops.map (·.id)).Nodup → t.ops.map (fun (o : Op) => { o with stallNs := 0 }) = s.ops.map (fun (o : Op) => { o with stallNs := 0 })

/-- `t` is `u`, or `u` with what recording adds while it is on (R396, R397): records in the replay journal, the free values drawn for them, and their writes in the steep controllers, which may end waits of others for credit. -/
def State.Recorded (u t : State) : Prop :=
  (u.recording = false → t = u) ∧ u.OpsWaited t ∧
    t = { u with jrn := t.jrn, freeCtr := t.freeCtr, stp := t.stp, kln := { u.kln with stalls := t.kln.stalls }, ops := t.ops }

/-- `u` with what fault records and the replay journal add (R384, R385, R396), and with the waits for credit that have ended (R317), as `t` has them. -/
def State.withReports (u t : State) : State :=
  { u with flt := t.flt, pins := t.pins, ports := t.ports, outs := t.outs, jrn := t.jrn, freeCtr := t.freeCtr, stp := t.stp
           kln := { u.kln with stalls := t.kln.stalls }, ops := t.ops }

/-- `t` is `u` but for that. -/
def State.Reports (u t : State) : Prop := u.OpsWaited t ∧ t = u.withReports t

/-- Nothing of the clock has changed but the time that has passed (R379). -/
def Tim.Passed (a b : Tim) : Prop :=
  b = { a with clock := b.clock, time := b.time, frac := b.frac, leaseNs := b.leaseNs, slewLeft := b.slewLeft } ∧ a.clock ≤ b.clock

/-- What a device reset keeps of `s` in `t` (R28, R135, R142, R338): chip and secure store, firmware slots, the tenant records with their keys still to be loaded, the wear counts, and the journaled versions, unless their commit record was cut off, with the bytes of their pages; all running work, bindings, pool, sessions and links are gone. -/
structure State.ResetKept (s t : State) : Prop where
  chip : t.fuses = s.fuses ∧ t.store = s.store ∧ t.rst.fwA = s.rst.fwA ∧ t.rst.fwB = s.rst.fwB
  tenants : t.tenants = s.tenants.map (fun r => (r.1, { r.2 with key := none }))
  wear : t.kln.writtenBytes = s.kln.writtenBytes ∧ t.kln.wearWarn = s.kln.wearWarn ∧ t.kln.wearOver = s.kln.wearOver
  versions : ∀ v ∈ t.vers, ∃ w ∈ s.vers, w.1 = v.1 ∧ w.2.journaled = true ∧ w.2.st = .committed ∧ v.2 = { w.2 with commitOp := none }
  journaled : ∀ w ∈ s.vers, w.2.journaled = true → w.2.st = .committed → (∀ r ∈ s.kln.journal.dropWhile (·.whole), r.entry ≠ .staged (.commit w.1)) →
    (w.1, { w.2 with commitOp := none }) ∈ t.vers
  bytes : ∀ w ∈ t.vers, ∀ q ∈ w.2.pages, ∀ off, off < 65536 → t.mem.read (pageAddr q.2 off) = s.mem.read (pageAddr q.2 off)
  work : t.ops = [] ∧ t.parts = [] ∧ t.slots = [] ∧ t.ports = [] ∧ t.reads = [] ∧ t.pool = {} ∧ t.sec.sessions = [] ∧ t.sec.lock = false ∧ t.qos = {} ∧ t.jrn = {} ∧ t.latches = []

/-- The owner anchor is `root`; sessions of other roots stay, and of this root's at most two (R336, R337). -/
structure State.Anchors (s t : State) (root : BitVec 384) : Prop where
  anchor : t.store = { s.store with anchor := some root }
  others : t.sec.sessions.filter (fun e => e.2 != root) = s.sec.sessions.filter (fun e => e.2 != root)
  kept : ∀ e ∈ t.sec.sessions, e ∈ s.sec.sessions
  two : (s.sec.sessions.map (·.1)).Nodup → (t.sec.sessions.filter (fun e => e.2 == root)).length ≤ 2

/-- The answer that left last. -/
def State.lastOut (s : State) : Option Out := s.outs.getLast?

/-- A Success answer without payload. -/
def okOut : Out := .mgmt "Success" none []

/-! ### Frames and operands of the data path -/

/-- The function of port `p` answers its host: READY reached, the link up, neither in FLR nor in D3hot (R277, R282, R285). -/
structure State.Hosted (s : State) (p : Nat) : Prop where
  port : p < Config.nPorts
  stage : s.rst.stage = .up
  linked : (s.port p).width ≠ 0
  noFlr : (s.port p).flrBusy = false
  awake : (s.port p).d3 = false

/-- A BAR request through port `p` passes the gates of R310: it lies in a Secure stream where the port requires one, and its stream is not Insecure. -/
structure State.Streams (s : State) (p : Nat) (ide : Option Nat) : Prop where
  required : (s.port p).ideRequired = true → ide.isSome = true
  kept : (s.port p).drops ide = false

/-- A completion that comes in through port `p` is taken: the link is up, the function not in FLR, and the port's streams admit it (R277, R310). -/
structure State.Hears (s : State) (p : Nat) (ide : Option Nat) : Prop extends s.Streams p ide where
  port : p < Config.nPorts
  linked : (s.port p).width ≠ 0
  noFlr : (s.port p).flrBusy = false

/-- The state in which a BAR request that has passed its gates takes effect: L1 has ended on its port and the device is awake (R301, R359). -/
def State.atBar (s : State) (p : Nat) : State := (s.leaveL1 p).awaken

/-- A command of the memory device mailbox of port `p` is carried out (R282, R285, R310). -/
structure State.Mailed (s : State) (p : Nat) (ide : Option Nat) : Prop extends s.Hosted p, s.Streams p ide

/-- An access by port `p` reaches the pages of partner `n` (R247, R282, R285, R310). -/
structure State.Reaches (s : State) (p n : Nat) (ide : Option Nat) : Prop extends s.Streams p ide where
  stage : s.rst.stage = .up
  port : p < Config.nPorts
  partner : n < Config.nPartners
  carried : (s.part n).port = p
  awake : (s.port p).d3 = false
  noFlr : (s.port p).flrBusy = false

/-- A data window access by port `p` to the window of partner `n`, past its doorbell pages, is judged by R238: the function is up and admits it. -/
structure State.OpensWindow (s : State) (p n off : Nat) (ide : Option Nat) : Prop extends s.Streams p ide where
  stage : s.rst.stage = .up
  port : p < Config.nPorts
  partner : n < Config.nPartners
  window : 0x20000 ≤ off
  awake : (s.port p).d3 = false

/-- What no command of the data path touches: chip, reset and clock state, power state, security, tenants, geometry, steward, rebuild, latches and the queue; time may pass while a steep request waits for a credit (R313). -/
structure State.SameCore (s t : State) : Prop where
  chip : t.fuses = s.fuses ∧ t.store = s.store
  run : t.rst = s.rst ∧ t.clk = s.clk ∧ t.pwr = s.pwr ∧ s.tim.Passed t.tim
  owner : t.sec = s.sec ∧ t.tenants = s.tenants
  rest : t.geo = s.geo ∧ t.stew = s.stew ∧ t.rebuild = s.rebuild ∧ t.latches = s.latches ∧ t.pending = s.pending

/-- What an operation on tiles and bytes leaves besides: faults, pins, regulation, partners, slots, casks, reads that wait, and the counters that number entries. -/
structure State.SameControl (s t : State) : Prop where
  core : s.SameCore t
  report : t.flt = s.flt ∧ t.pins = s.pins ∧ t.qos = s.qos
  tables : t.parts = s.parts ∧ t.slots = s.slots ∧ t.casks = s.casks ∧ t.reads = s.reads
  counters : t.opSeq = s.opSeq ∧ t.nextRead = s.nextRead ∧ t.nextCask = s.nextCask ∧ t.nextVer = s.nextVer

/-- Of share groups and versions nothing has changed but the counters of pages that nothing has written (R110, R125). -/
def State.ZerosCounted (s t : State) : Prop :=
  t.pool = { s.pool with groups := t.pool.groups } ∧
    (∀ g, (t.pool.groups.get? g).map (fun q => { q with zeroCtr := [] }) = (s.pool.groups.get? g).map (fun q => { q with zeroCtr := [] })) ∧
    ∀ v, (t.vers.get? v).map (fun w => { w with zeroCtr := [] }) = (s.vers.get? v).map (fun w => { w with zeroCtr := [] })

/-- No byte of memory has changed. -/
def State.SameMem (s t : State) : Prop := t.mem = s.mem ∧ t.tags = s.tags

/-- The record has entered DRAINING, with its mailboxes disabled (R184); operations that run against it go on (R182). -/
def State.Drains (s t : State) (r : Nat) (e : Ext) (cause : Cause) : Prop :=
  t.pool.recs = s.pool.recs.set r { e with st := .draining, cause := cause, since := t.tim.clock } ∧
    t.ops = s.ops.map (fun o => if s.opUses o r then { o with accepted := o.accepted ++ [r] } else o) ∧
    ∀ n, t.slot n = s.slot n ∨ t.slot n = { s.slot n with mboxDisabled := true }

/-- No running operation and no read waits on a page of the group. -/
def State.Unawaited (s : State) (g : Nat) : Prop :=
  ∀ p ∈ s.groupPages g, (∀ o ∈ s.ops, o.phase = .running → p ∉ o.waits) ∧ ∀ d ∈ s.reads, p ∉ d.pages

/-- The record is FREE, and with the last of its group the group is gone; its pages end then, and read as zeros (R178, R185). What waits on those pages ends (R126); where nothing does, no operation, partner, slot, version or cask changes. -/
def State.Freed (s t : State) (r : Nat) (e : Ext) : Prop :=
  t.pool.recs = s.pool.recs.erase r ∧ (∀ g, g ≠ e.group → t.pool.groups.get? g = s.pool.groups.get? g) ∧
    (s.Unawaited e.group → s.OpsWaited t ∧ t.parts = s.parts ∧ t.slots = s.slots ∧ t.vers = s.vers ∧ t.casks = s.casks ∧
      (1 < s.groupRecs e.group ∨ s.groupPages e.group = [] → s.SameMem t)) ∧
    (s.groupPages e.group = [] → t.pages = s.pages) ∧
    (1 < s.groupRecs e.group → t.pool.groups = s.pool.groups) ∧
    (s.groupRecs e.group ≤ 1 → t.pool.groups.get? e.group = none ∧
      ∀ p ∈ s.groupPages e.group, (s.pages.get? p).isSome = true → t.pages.get? p = none ∧ ∀ off, off < 65536 → t.mem.read (pageAddr p off) = 0)

/-- Operation entries have distinct numbers, given in the order of fetch, all below the next one. -/
structure State.OpsDistinct (s : State) : Prop where
  distinct : (s.ops.map (·.id)).Nodup
  below : ∀ o ∈ s.ops, o.id < s.opSeq

/-- The operation entry `id` runs the descriptor `o` of opcode `code`. -/
structure State.Runs (s : State) (id code : Nat) (o : Op) : Prop where
  found : s.op? id = some o
  running : o.phase = .running
  opcode : o.opcode = code

/-- The operation has ended with result `r`, stamped with TIME; its record is still to be written (R268, R271). -/
def State.Ended (t : State) (id : Nat) (r : Result) : Prop :=
  ∃ o, t.op? id = some o ∧ o.phase = .finished ∧ o.res = { r with time := t.tim.time }

/-- The entry differs in the answers that its requests have, and in its wait for them. -/
def Op.Answered (o o' : Op) : Prop := o' = { o with reads := o'.reads, stalled := o'.stalled, stallNs := o'.stallNs }

/-- A request of the operation has failed, with `n` bytes of it: a slot call has ended with its status; any other goes on, with the status kept on the request and no data of it (R166, R220, R235). -/
def State.RequestFailed (t : State) (o : Op) (r : DmaRead) (n : Nat) (st : Status) : Prop :=
  ∃ o', t.op? o.id = some o' ∧ (o.isSlotCall = true → o'.phase = .finished ∧ o'.res.status = st) ∧
    (o.isSlotCall = false → o.Answered o' ∧ o'.reads.map (fun (x : DmaRead) => (x.bad, x.got)) =
      (o.setRead r (r.spoiled n st)).reads.map (fun (x : DmaRead) => (x.bad, x.got)))

/-- The pages can be read now for the operation: none has failed, each is in a frame, ZERO or served (R125, R127), and no refresh gap holds a fast slot's reads of them (R330). -/
structure State.AtHand (s : State) (o : Op) (asks : List (Nat × Nat)) : Prop where
  here : ∀ a ∈ asks, s.troubleOf o a.1 = none ∧ s.ready o a.1 = true
  noGap : s.gapHolds o asks = false

/-- The view tiles under some bytes of a view, as the operation finds them. -/
def State.tilesFor (s : State) (o : Op) (e : Ext) (v : View) (off len : Nat) : List (Nat × (Status ⊕ List Byte)) :=
  s.viewTiles (s.troubleOf o) (fun _ => none) e v off len

/-- The bytes `bs` of operand `part` at a place are at hand, and every tile of device memory passes its check (R172, R219 to R221). -/
def State.Input (s : State) (o : Op) (part : Nat) (p : Place) (bs : List Byte) : Prop :=
  match p with
  | .dev sp => s.AtHand o (s.spanNeeds sp) ∧ s.spanWrong sp = none ∧ bs = s.spanBytes sp
  | .dma a n => (n = 0 ∨ ∃ r ∈ o.reads, r.part = part) ∧ o.partDone part = true ∧ o.partBad part a = none ∧ bs = o.part part
  | .view e v off len => s.AtHand o (s.viewAsks v off len (fun _ => none)) ∧ lowestFailing (s.tilesFor o e v off len) = none ∧
      bs = viewOf (s.tilesFor o e v off len) off len

/-- A write of `n` bytes to a place takes effect at once: the pages it must wait for are at hand, pool, frames and pending-write table have room (R112, R123, R124, R177), or the function may issue requests (R276). -/
def State.Takes (s : State) (o : Op) (p : Place) (n : Nat) : Prop :=
  match p with
  | .dev sp => s.AtHand o (s.writeDeps sp) ∧ s.roomFor { sp with len := n } = true ∧ s.spanRoom { sp with len := n } = true
  | .dma _ _ => s.mayRequest o.port = true
  | .view _ _ _ _ => False

/-- The byte at offset `off` of page `pid` is one that a write of the span stores, or lies in a page that the write made. -/
def State.Stored (s t : State) (sp : Span) (pid off : Nat) : Prop :=
  ∃ c ∈ chunks sp.off sp.len, t.pageAt sp.back c.1 = some pid ∧ ((c.2.1 ≤ off ∧ off < c.2.1 + c.2.2) ∨ s.nextPage ≤ pid)

/-- No byte of memory outside what a write of the span stores has changed. -/
def State.OnlyStored (s t : State) (sp : Span) : Prop :=
  ∀ pid off, off < 65536 → ¬ s.Stored t sp pid off → t.mem.read (pageAddr pid off) = s.mem.read (pageAddr pid off)

/-- What is written to the span can be read back from it at once: its backing is there, and its pages are distinct, of earlier numbers, and each in a frame or ZERO, with no line of it in the pending-write table. -/
structure State.Framed (s : State) (sp : Span) : Prop where
  backed : match sp.back with
    | .group g => (s.pool.groups.get? g).isSome = true
    | .ver v => (s.vers.get? v).isSome = true
  pages : ∀ p ∈ s.spanPages sp, p < s.nextPage ∧ s.lined p = false ∧ ∃ q, s.pages.get? p = some q ∧ (q.st = .zero ∨ q.st.framed = true)
  distinct : (s.spanPages sp).Nodup

/-- The requests that carry bytes to partner memory: at most Max Payload Size each, none across 4 KiB (R296), with their class (R236), the function's Relaxed Ordering attribute (R298) and the PBR ID of the member that they are for (R208). -/
def State.writeRequests (s : State) (cls port addr : Nat) (bs : List Byte) (member : Option Nat := none) : List Out :=
  (splitReq (s.port port).mps (bs.length + 1) addr bs.length).map (fun q =>
    .dmaWrite port q.1 ((bs.drop (q.1 - addr)).take q.2) { cls := cls, relaxed := (s.port port).relaxed, member := member })

/-- The bytes `bs` have gone to the place: into the span and nowhere else in memory, or out through the function. -/
def State.Lands (s t : State) (o : Op) (p : Place) (bs : List Byte) : Prop :=
  match p with
  | .dev sp => s.OnlyStored t { sp with len := bs.length } ∧ t.outs = s.outs ∧
      (s.Framed { sp with len := bs.length } → t.spanBytes { sp with len := bs.length } = bs)
  | .dma a _ => t.mem = s.mem ∧ t.outs = s.outs ++ s.writeRequests o.runClass o.port a bs
  | .view _ _ _ _ => False

/-- The read numbered `id`, made in `u`, is answered with `o`, or waits for credit of the steep requests that it made (R128, R313). -/
def State.RepliedOrHeld (u t : State) (id : Nat) (o : Out) : Prop :=
  (t.starvedFrom u.stp.nextReq = [] → t.lastOut = some o) ∧
    (t.starvedFrom u.stp.nextReq ≠ [] → ∃ w ∈ t.reads, w.id = id ∧ w.reqs = t.starvedFrom u.stp.nextReq)

/-- Every page of a version can be read now for the operation, whatever lines of it a call reads; no refresh gap lasts. -/
def State.VerAtHand (s : State) (o : Op) (v : Nat) : Prop :=
  s.stp.inGap = false ∧ ∀ w, s.vers.get? v = some w → ∀ p ∈ w.pages, s.troubleOf o p.2 = none ∧ s.ready o p.2 = true

/-- The shape is one that SLOT_BIND accepts, as far as the places of its tiles go (R30, R40, R78). -/
structure Shape.legal (h : Shape) : Prop where
  layers : h.layers ≤ 256
  kvh : h.kvh ≤ 64
  dim : h.hd = 64 ∨ h.hd = 128 ∨ h.hd = 256
  key : h.kfmt ≤ 4
  value : h.vfmt ≤ 4
  heads : h.kvh * h.group ≤ 1024

/-- The version is there, and so are its pages, each mapped once and numbered before the next, with no written line that waits for it. -/
def State.Sound (s : State) (v : Nat) : Prop :=
  ∃ w, s.vers.get? v = some w ∧ (w.pages.map (·.2)).Nodup ∧
    ∀ q ∈ w.pages, q.2 < s.nextPage ∧ (s.pages.get? q.2).isSome = true ∧ s.lined q.2 = false

/-- The elements of a position's key (kind 0) or value (kind 1), as its tile holds them (R30, R31). -/
def State.storedRow (s : State) (c : Ctx) (head kind p : Nat) : List Nat :=
  let f := if kind = 0 then c.shape.kfmt else c.shape.vfmt
  let cap := if kind = 0 then c.shape.kPos else c.shape.vPos
  elems (fmtElem f) (((s.tileBytes c.ver (c.kvWant head (p / 64) kind (p % 64 / cap)).pos).drop (p % cap * c.shape.hd * fmtSize f)).take
    (c.shape.hd * fmtSize f))

/-- A position's key in the element format of picots (R38). -/
def State.keyRow (s : State) (c : Ctx) (head p : Nat) : List Nat :=
  (s.storedRow c head 0 p).map (picotOf c.shape (s.tileTag c.ver (c.kvWant head (p / 64) 0 (p % 64 / c.shape.kPos)).pos).scale)

/-- The record of a picot: maximum elements, then minimum elements (R38, R39). -/
def State.picotRecord (s : State) (c : Ctx) (head level unit : Nat) : List Nat :=
  let r := if level = 3 then unit else unit % 64
  let w := c.picotWant level head (if level = 3 then 0 else unit / 64) (r / c.shape.perTile)
  elems (picotElem c.shape.kfmt) (((s.tileBytes c.ver w.pos).drop (r % c.shape.perTile * c.shape.recBytes)).take c.shape.recBytes)

/-- Order of picot elements: +0 counts as greater than −0 (R38). -/
def picotKey (h : Shape) (n : Nat) : Int := Float.key ((Float.expanded (picotElem h.kfmt) 0 n).getD 0)

/-- R38: the record holds, in each dimension, the largest and the smallest element of the keys. -/
def picotHolds (h : Shape) (record : List Nat) (keys : List (List Nat)) : Bool :=
  (List.range h.hd).all fun d =>
    let col := keys.map (·.getD d 0)
    let mx := record.getD d 0
    let mn := record.getD (h.hd + d) 0
    col.contains mx && col.contains mn && col.all (fun x => decide (picotKey h x ≤ picotKey h mx) && decide (picotKey h mn ≤ picotKey h x))

/-- R38, R41: every picot of the context covers the keys of the positions appended so far. -/
def State.PicotsRight (s : State) (c : Ctx) : Prop :=
  ∀ head < c.shape.kvh, ∀ u ∈ [(1, 64), (2, 4096), (3, 262144)], ∀ unit < ceilDiv c.len u.2,
    picotHolds c.shape (s.picotRecord c head u.1 unit)
      ((List.range (min u.2 (c.len - unit * u.2))).map (fun i => s.keyRow c head (unit * u.2 + i))) = true

/-- R40: the K and V tiles of the context lie in their region. -/
def Ctx.Placed (c : Ctx) : Prop := c.len ≤ 2 ^ 28 ∧ ∀ head < c.shape.kvh, ∀ b < nBlocks c.len, (blockTile c.shape c.layer head b 0).page < kvEnd

/-- No byte of memory has changed outside the tiles, but for pages that the write made. -/
def State.OnlyTiles (s t : State) (v : Nat) (tiles : List TilePos) : Prop :=
  ∀ pid off, off < 65536 → pid < s.nextPage → (∀ w ∈ tiles, t.tilePage v w = some pid → off / 4096 ≠ w.tile) →
    t.mem.read (pageAddr pid off) = s.mem.read (pageAddr pid off)

/-- Every memory of the device is in canonical form. -/
structure State.Canonical (s : State) : Prop where
  mem : s.mem.wf
  mboxes : ∀ e ∈ s.slots, e.2.mbox.wf
  upload : s.rst.upload.wf

/-- Every bounded field holds a value of its width (R110, R114, R293, R348, R370, R379, R381, R385, R391, R393). -/
structure State.InRange (s : State) : Prop where
  pages : ∀ e ∈ s.pages, e.2.ctr ≤ 255 ∧ e.2.pins ≤ 65535
  fuses : s.fuses.unlocks ≤ 255
  tokens : s.sec.tokenFails ≤ 255
  ring : s.flt.ring.length ≤ 16384
  retained : s.flt.retained.length ≤ 191
  rate : -200000 ≤ s.tim.rate ∧ s.tim.rate ≤ 200000
  frac : s.tim.frac < 2000000000
  shed : s.stew.shed ≤ 3
  starts : s.rst.failedStarts ≤ 3
  events : ∀ p ∈ s.ports, ∀ log, (p.2.events.filter (fun e => e.log == log)).length ≤ 64

end Sys2Proof.Machine

namespace Sys2Proof

open Machine

/-- The owner session that a management command names (R336); none of the other commands needs one. -/
def Instr.session (c : Instr) : Option Nat :=
  match c with
  | .poolPwCommit ses _ _ => some ses
  | .extentAdd ses _ _ _ _ _ _ => some ses
  | .viewBind ses _ _ _ _ _ _ _ => some ses
  | .extentWithdraw ses _ => some ses
  | .leaseSet ses _ _ => some ses
  | .leaseRenew ses _ => some ses
  | .extentQuery ses _ => some ses
  | .caskGrant ses _ _ _ _ _ _ => some ses
  | .caskRevoke ses _ _ _ => some ses
  | .poolJoin ses _ _ => some ses
  | .memberSet ses _ _ _ _ => some ses
  | .memberRemove ses _ => some ses
  | .remoteGrant ses _ _ _ _ _ => some ses
  | .remoteRevoke ses _ => some ses
  | .tenantCreate ses _ _ => some ses
  | .tenantRemove ses _ => some ses
  | .partnerBind ses _ _ _ _ => some ses
  | .partnerUnbind ses _ => some ses
  | .fastMark ses _ _ => some ses
  | .fastClear ses _ => some ses
  | .pinQuotaSet ses _ _ => some ses
  | .kilnPrefSet ses _ _ _ _ => some ses
  | .ownerTransfer ses _ => some ses
  | .unlockToken ses _ _ => ses
  | .park ses => some ses
  | .unpark ses => some ses
  | .faultGet ses _ => some ses
  | .faultClear ses => some ses
  | .journalExport ses _ _ _ _ => some ses
  | .phaseSet ses _ => some ses
  | .regRead ses _ => some ses
  | .regWrite ses _ _ => some ses
  | .unsupportedManagementCommand ses opcode => if 0xC400 ≤ opcode ∧ opcode < 0xC650 ∧ mgmtOpcodes.contains opcode = false then some ses else none
  | .qosResvWrite ses _ _ => some ses
  | .jrnCtlWrite ses _ => some ses
  | .secLock ses => some ses
  | .descriptorFetch _ _ _ | .descriptorReadFailed _ _ _ | .descriptorComplete _ | .recordWriteFailed _ | .fenceRelease _ | .nopFence _ | .heartbeat _
  | .copy _ | .fill _ | .compare _ | .compareAndSwap _ | .reduce _ | .loadGrist _ | .storeGrist _ | .caskOpen _ | .caskCommit _ | .caskClose _
  | .caskDrop _ | .pageHint _ | .pin _ | .unpin _ | .slotBind _ | .append _ | .attend _ | .slotPark _ | .slotResume _ | .slotUnbind _ | .picotRebuild _
  | .tableLoad _ | .tableRetire _ | .peerRead _ | .peerWrite _ | .portSession _ | .journalMark _ | .slotCallStart _ | .slotTurnTimeout _
  | .fastMarkingApply _ | .bobSlotDb _ _ _ _ | .mailboxCallComplete _ | .ringSqDb _ _ _ _ _ _ | .ringCqDb _ _ _ _ _ | .ringEnable _ _ _ _ _
  | .ringDisableSq _ _ _ _ _ | .ringDisableCq _ _ _ _ | .cqDisableTakesEffect _ | .irqCoalesceExpiry _ | .msixUnmask _ _ | .busMasterEnableClear _
  | .busMasterEnableSet _ | .flr _ | .d3hotEntry _ | .d0Return _ | .perst _ | .linkLoss _ | .linkUp _ _ _ _ _ | .l0pEntry _ | .l1Entry _
  | .cxlMemRead _ _ _ _ | .cxlMemWrite _ _ _ _ | .cxlMemReadTimeout _ | .cowCopyDone _ | .pendingTableRoom | .dataWindowWrite _ _ _ _ _ _
  | .dataWindowRead _ _ _ _ _ _ | .dataWindowReadTimeout _ | .sessionIdleTimeout _ | .writeCombineDrain _ | .peerWindowRequest _ _ _ _ _ _
  | .dmaCompletion _ _ _ | .dmaCompletionTimeout _ _ | .undecodedRequest _ _ | .malformedTlp _ | .ideCheckFail _ _ | .addDynamicCapacityResponse _ _ _
  | .releaseDynamicCapacity _ _ _ | .getDynamicCapacityExtentList _ | .getDynamicCapacityConfiguration _ | .identifyMemoryDevice _ | .getSupportedLogs _
  | .getLog _ _ | .getEventRecords _ _ | .clearEventRecords _ _ _ | .getEventInterruptPolicy _ | .setEventInterruptPolicy _ _ | .getHealthInfo _
  | .getTimestamp _ | .setTimestamp _ _ | .unsupportedMailboxCommand _ _ | .leaseExpire _ | .offerLapse _ | .drainEnd _ | .scrubComplete _
  | .tenantRemovalDone _ | .ownerClaim _ _ | .getVersion _ | .getCapabilities _ | .negotiateAlgorithms _ | .getDigests _ | .getCertificate _
  | .challenge _ _ | .getMeasurements _ _ | .keyExchange _ | .finish _ _ | .ideKm _ _ _ | .tokenLockoutExpiry | .parkDrainEnd | .parkedEntered
  | .activeResumed | .grsRomDataRead _ _ | .counterLoRead _ _ _ | .registerWrite _ _ _ _ _ | .steepingDone _ _ | .kilningDone _ _ | .pageMoveStart _
  | .evictionStart _ _ | .counterHalve | .fetchDeadline _ | .collection _ | .kilnSpaceTimeout _ | .journalCommitDone _ | .powerFail | .powerFailFlushDone
  | .railOutOfRange _ | .railCollapse _ | .powerOn | .coldPowerOn | .devRstN _ _ | .bringupStart | .bringupStep | .ready | .startTimeout | .verify
  | .writeA | .writeB | .restart | .verifyDone | .slotWriteDone _ | .uploadWrite _ _ _ | .rebuildEnd | .refLost | .clockSwitch _ | .clockSwitchAck _
  | .clockSwitchTimeout _ | .blockReset _ _ | .blockIdleAck _ | .blockIdleTimeout _ | .unitFault _ _ _ _ | .correctedCoalesceExpiry _ _
  | .stewardTakeover | .arbiterTakeover | .stewardShedStage _ | .stewardShedExit | .quietEntry | .standbyEntry | .wake | .wakeDone | .governorStep
  | .dieLimiter _ _ | .telemetryFrame _ | .vrHotN _ | .thermalTrip _ | .refreshStart | .creditReturn _ _ _ | .ageLimit _ _ | .rowIdlePrecharge _ _
  | .ppsIn _ | .slewEnd | .holdover | .configSnapshot | .hdmDecoderCommit _ _ _ _ _ | .flrResetComplete _ | .l1Exit _ | .journalCheckpoint
  | .rebuildSegmentErase _ _ | .refreshGapEnd | .stewardTakeoverDone | .arbiterTakeoverDone | .unitTemperatureChange _ _ => none

end Sys2Proof
end

