-- ==== Sys2Proof/Certificates/Slice0/Obligations.lean ====
section
/-! DEFINITION. The statements about the model that the provers take up, from the numbered rules of spec/. A statement over the premise that a table or a list is as the step finds it holds in every state; where a value is the model's choice the text names its log entry. -/

section

open Sys2Proof Sys2Proof.Machine

/-- A step takes the command at the front of the queue and runs it on the rest (the model's own form of a block's input). -/
def Obligations.StepRunsFront : Prop :=
  ∀ (c : Instr) (s : State), step { s with pending := c :: s.pending } = exec c s

/-- With nothing commanded a step is one REFCLK cycle (log 9, DESIGN CHOICE): out of reset TIME and the timers advance by 10 ns and only the steep controllers act besides, none of them inside a refresh gap (R329); a device that is off or held stays as it is. -/
def Obligations.IdleStepIsOneCycle : Prop :=
  ∀ s : State, s.pending = [] →
    ∃ t, step s = .next t ∧ t = { s with tim := t.tim, stp := t.stp } ∧
      (s.running = false → t = s) ∧
      (s.running = true → t.tim = s.tim.advance 10 s.leaseRuns ∧ (s.stp.inGap = true → t.stp = s.stp))

/-- The state right after reset, where the spec's register tables give it (R11, R338, R384, R414): the control registers at their reset values, the counters and captures at 0, and no work, queue, record or session. -/
def Obligations.ResetState : Prop :=
  (∀ r ∈ [(0x20008, 0x64), (0x2000C, 0), (0x30004, 0x40640032), (0x30008, 0x708), (0x40018, 0x800003E8), (0x50000, 0), (0x70000, 3), (0x70004, 0x100040),
      (0x70010, 0x12492492), (0x70014, 0x12492492), (0x70018, 0x492492), (0x70020, 0x4000400), (0x70024, 8), (0x70028, 0), (0x71000, 0), (0x80000, 0x7D0010),
      (0x80004, 0x14), (0x80008, 0), (0x80800, 0x19A0F3C), (0x90000, 0x8008000A), (0x90004, 0x200010), (0x90008, 0x64), (0x9000C, 0x208), (0x90100, 0),
      (0x90108, 0), (0x90200, 0), (0x90204, 0), (0x90208, 0), (0xA000C, 0), (0xA0010, 0), (0xA0014, 0), (0xB0004, 0), (0xB0008, 0), (0xB1018, 0),
      (0xC0018, 0), (0xD0008, 0), (0xD000C, 0)], State.reset.regNow .mgmt r.1 = r.2) ∧
  State.reset.pending = [] ∧ State.reset.ops = [] ∧ State.reset.parts = [] ∧ State.reset.slots = [] ∧ State.reset.pool.recs = [] ∧ State.reset.casks = [] ∧
  State.reset.vers = [] ∧ State.reset.tenants = [] ∧ State.reset.sec.sessions = [] ∧ State.reset.sec.lock = false ∧ State.reset.flt.ring = [] ∧ State.reset.mem = [] ∧
  State.reset.pins.devReady = false ∧ State.reset.pins.faultN = false

/-- The two invariants hold at reset. -/
def Obligations.InvariantsHoldAtReset : Prop :=
  State.reset.Canonical ∧ State.reset.InRange

/-- No command of the table stops the machine, and so no step does (the model's reading of the whole spec, which gives every command an effect in every state). A command's meaning touches everything but the queue: the commands that wait stay as they are (the model's form of a block's input). -/
def Obligations.CommandsCompleteAndLeaveTheQueue : Prop :=
  ((∀ (c : Instr) (s : State), Completes (exec c s)) ∧ (∀ s : State, Completes (step s))) ∧
  (∀ (c : Instr) (s t : State), exec c s = .next t → t.pending = s.pending)

/-- R346, R347: no command but UNLOCK_TOKEN changes a fuse, and that one changes UNLOCKS alone, by one, up to 255. -/
def Obligations.OnlyAnUnlockBlowsAFuse : Prop :=
  ∀ (c : Instr) (s t : State), exec c s = .next t → t.fuses ≠ s.fuses →
    (∃ ses token fails, c = .unlockToken ses token fails) ∧ t.fuses = { s.fuses with unlocks := min 255 (s.fuses.unlocks + 1) }

/-- R336: while the management endpoint answers, a command whose session is not open and authenticated under the current owner anchor is answered with Invalid Security State and has no other effect: every management command of the table that needs a session. -/
def Obligations.OnlyTheOwnerIsObeyed : Prop :=
  ∀ (c : Instr) (ses : Nat) (s : State), c.session = some ses → s.endpointUp = true → s.authorised ses = false →
    exec c s = .next (s.answer "Invalid Security State" [])

/-- R11, R337: LOCK, once set, is set until a device reset: a step that finds it clear afterwards has taken the device back to the start, with no session and no work left. -/
def Obligations.LockHoldsUntilReset : Prop :=
  ∀ s t : State, s.sec.lock = true → step s = .next t →
    t.sec.lock = true ∨
      ((t.rst.stage = .off ∨ t.rst.stage = .held ∨ t.rst.stage = .bringup 1 ∨ t.rst.stage = .recovery) ∧ t.sec.sessions = [] ∧ t.ops = [] ∧ t.slots = [] ∧ t.parts = [])

/-- R125: every memory of the device keeps its canonical form in every step, from every state that has it: steep and kiln, the mailboxes and the upload window. -/
def Obligations.MemoryStaysCanonical : Prop :=
  ∀ s t : State, s.Canonical → step s = .next t → t.Canonical

/-- Every field of bounded width stays within it in every step (R110, R114, R348, R370, R379, R381, R385, R391, R393, R293): page counters and pin counts, UNLOCKS and token failures, the fault ring and the retained records, RATE_PPB and TIME's fraction, the shedding stage, the failed starts and the event logs. -/
def Obligations.CountersStayInRange : Prop :=
  ∀ s t : State, s.InRange → step s = .next t → t.InRange

/-- R4: what a variant lacks reads as zero in its geometry table entry: on the SK-440, which has no Bobbin array, the counts of clusters and fast slots and the entries of the array; on the SK-470, the bits of the kiln stacks that it does not have, of the sixteen of R412's mask. -/
def Obligations.AbsentUnitsReadZero : Prop :=
  (∀ (s : State) (who : Accessor) (off : Nat), s.fuses.variant = .sk440 → off ∈ [0x101C, 0x1020, 0x1024, 0x1028] → s.latch? who off = none → (s.readReg who off).1 = 0) ∧
  (∀ (s : State) (who : Accessor) (k : Nat), s.fuses.variant = .sk470 → k < 16 → 4 ≤ k % 8 → s.latch? who 0x1010 = none → bit (s.readReg who 0x1010).1 (16 + k) = false)

/-- R10: a read of the low word of a 64-bit counter gives its low word and latches its high word for that accessor; the accessor's next read of the high word gives the latched value, whatever has become of the counter, and takes the latch away. -/
def Obligations.HighWordIsLatched : Prop :=
  ∀ (s u : State) (who : Accessor) (off v : Nat), s.wide off = some v → u.latches = (s.readReg who off).2.latches →
    (s.readReg who off).1 = w32 (v % 2 ^ 32) ∧ (u.readReg who (off + 4)).1 = w32 (v / 2 ^ 32) ∧ ((u.readReg who (off + 4)).2).latch? who (off + 4) = none ∧
      (s.readReg who off).2 = { s with latches := (s.readReg who off).2.latches } ∧
      (∀ w o, (w, o) ≠ (who, off + 4) → (s.readReg who off).2.latch? w o = s.latch? w o)

/-- R380, R417: an edge on PPS_IN, of a pulse of at least 100 ns, that comes at least 0.5 s of REFCLK cycles after the last accepted one, or is the first since reset, captures TIME into TIM_PPS; an earlier one captures nothing and is counted, and does nothing else; a shorter pulse does nothing. A reset forgets the last edge. -/
def Obligations.PpsEdgeIsCaptured : Prop :=
  (∀ (s : State) (x : PpsPulse), s.running = true → 100 ≤ x.highNs → (∀ e, s.tim.lastEdge = some e → e + 500000000 ≤ s.tim.clock) →
    ∃ t, exec (.ppsIn x) s = .next t ∧ t.tim.pps = s.tim.time ∧ t.tim.lastEdge = some s.tim.clock ∧ t.tim.rejectCnt = s.tim.rejectCnt) ∧
  (∀ (s : State) (x : PpsPulse) (e : Nat), s.running = true → 100 ≤ x.highNs → s.tim.lastEdge = some e → s.tim.clock < e + 500000000 →
    exec (.ppsIn x) s = .next { s with tim := { s.tim with rejectCnt := inc32 s.tim.rejectCnt } }) ∧
  (∀ (s : State) (x : PpsPulse), x.highNs < 100 → exec (.ppsIn x) s = .next s) ∧
  State.reset.tim.lastEdge = none ∧
  (∀ (s t : State) (low : Nat) (rel : Bool), s.pins.devRstLow = false → 1000 ≤ low → s.rst.flush ≠ .running → s.rst.stage ≠ .off →
    exec (.devRstN low rel) s = .next t → t.tim.lastEdge = none)

/-- R420: a pulse on DEV_RST_N that is recognised while the flush runs only leaves its mark, and the flush's end completes the flush, writing its record, and then resets the device. -/
def Obligations.FlushOutlivesReset : Prop :=
  (∀ (s : State) (low : Nat) (rel : Bool), s.pins.devRstLow = false → 1000 ≤ low → s.rst.flush = .running →
    exec (.devRstN low rel) s = .next { s with pins := { s.pins with devRstLow := !rel }, rst := { s.rst with deferredReset := true } }) ∧
  (∀ (s : State), s.rst.flush = .running → s.rst.deferredReset = true →
    ∃ t, exec .powerFailFlushDone s = .next t ∧ t.rst.stage = .held ∧ t.rst.flush = .none ∧ t.rst.cause = s.rst.cause ||| 2 ||| 16 ∧ t.kln.shutdownRecord = true ∧
      t.kln.staged = [] ∧ t.ops = [] ∧ t.sec.sessions = [] ∧ t.fuses = s.fuses ∧ t.store = s.store ∧ t.pending = s.pending)

/-- TENANT_CREATE (R338, R339, R341): the free record becomes ACTIVE with its quota and a key drawn anew, wrapped under the root key; every other record, and all else but the kiln that journals it and what a wear record or the replay journal adds, stays. PIN_QUOTA_SET, KILN_PREF_SET, FAST_MARK and FAST_CLEAR of a free slot (R114, R168, R339, R437): each sets its one field and nothing else; a marking moves the fast entries with it (R65, R316), and while the arbiter of H1 takes over it waits its turn, unanswered (R322). -/
def Obligations.TenantsAreMadeAndSet : Prop :=
  (∀ (s : State) (ses tenant quota : Nat), Commanded s ses → s.Unparked → tenant ≤ 1023 → s.tenants.get? tenant = none →
     pinsFit (s.quotaSum tenant quota) s.markings s.jrnGib = true →
     ∃ t, exec (.tenantCreate ses tenant quota) s = .next t ∧
       t.tenants.get? tenant = some
         { st := .active, quota := quota, wrapped := Config.wrapKey s.rootKey (Config.trng s.freeCtr), drawn := Config.trng s.freeCtr, wrapRoot := s.rootKey, key := some (Config.trng s.freeCtr), prefs := [] } ∧
       (∀ n, n ≠ tenant → t.tenants.get? n = s.tenants.get? n) ∧ t.lastOut = some okOut ∧
       State.Reports { s.awaken with tenants := t.tenants, kln := t.kln } t) ∧
  ((∀ (s : State) (ses tenant quota : Nat), Commanded s ses → s.Unparked → s.tenantActive tenant = true →
     pinsFit (s.quotaSum tenant quota) s.markings s.jrnGib = true →
     ∃ t, exec (.pinQuotaSet ses tenant quota) s = .next t ∧
       (({ s.awaken with tenants := s.tenants.modify tenant (fun r => { r with quota := quota }) }).success []).Recorded t) ∧
   (∀ (s : State) (ses tenant format table split : Nat), Commanded s ses → s.Unparked → s.tenantActive tenant = true →
     (table = 0 ∨ 16 ≤ table) → split ≤ 3 →
     ∃ t, exec (.kilnPrefSet ses tenant format table split) s = .next t ∧
       (({ s.awaken with tenants := s.tenants.modify tenant (fun r =>
           { r with prefs := if table = 0 then r.prefs.erase format else r.prefs.set format (table, split) }) }).success []).Recorded t) ∧
   (∀ (s : State) (ses slot tenant : Nat), Commanded s ses → s.Unparked → s.qos.takeover = false → tenant ≤ 1023 → s.tenantActive tenant = true →
     (s.slot slot).mark = none → (s.slot slot).bound = false → (s.slot slot).binding = none → s.markings < s.fastLimit →
     pinsFit (s.quotaSum 1024 0) (s.markings + 1) s.jrnGib = true → s.minimaSum + Config.fastMin ≤ s.qos.eff →
     ∃ t, exec (.fastMark ses slot tenant) s = .next t ∧
       t.slots = s.slots.set slot { s.slot slot with mark := some tenant } ∧ t.lastOut = some okOut ∧
       State.Reports { s.awaken with slots := t.slots, qos := t.qos } t) ∧
   (∀ (s : State) (ses slot tenant : Nat), Commanded s ses → s.Unparked → s.qos.takeover = true →
     (∃ t, exec (.fastMark ses slot tenant) s = .next t ∧ State.Recorded { s.awaken with qos := { s.qos with held := s.qos.held ++ [.mark slot tenant] } } t) ∧
     (∃ t, exec (.fastClear ses slot) s = .next t ∧ State.Recorded { s.awaken with qos := { s.qos with held := s.qos.held ++ [.unmark slot] } } t)) ∧
   (∀ (s : State) (ses slot : Nat) (tenant : Nat), Commanded s ses → s.Unparked → s.qos.takeover = false → (s.slot slot).mark = some tenant →
     (s.slot slot).change ≠ .adding → (s.slot slot).bound = false → (s.slot slot).binding = none →
     ∃ t, exec (.fastClear ses slot) s = .next t ∧
       t.slots = s.slots.set slot { s.slot slot with mark := none } ∧ t.lastOut = some okOut ∧
       State.Reports { s.awaken with slots := t.slots, qos := t.qos } t))

/-- PARTNER_BIND and PARTNER_UNBIND (R339): a bind names the tenant, port and MAX_OPS of a free partner and starts its two counters at 0, and changes nothing else; an unbind leaves the partner without tenant, rings, data port session (R278), handles (R205) and bound slots (R63), its ACTIVE extents drain withdrawn and those only offered are FREE (R180), its operations end, and it answers; chip, owner, tenants, reset, clock and geometry state stay. -/
def Obligations.PartnerBindAndUnbind : Prop :=
  (∀ (s : State) (ses partner tenant port maxOps : Nat), Commanded s ses → s.Unparked →
    partner ≤ 4095 → tenant ≤ 1023 → port ≤ 27 → s.tenantActive tenant = true → (s.part partner).tenant = none →
    ∃ t, exec (.partnerBind ses partner tenant port maxOps) s = .next t ∧
      ((s.awaken.setPart partner { s.part partner with
        tenant := some tenant, port := port, maxOps := maxOps % 2048, dbDrops := 0, norec := 0 }).success []).Recorded t) ∧
  (∀ (s : State) (ses partner : Nat), Commanded s ses → s.Unparked → (s.part partner).tenant ≠ none →
    ∃ t, exec (.partnerUnbind ses partner) s = .next t ∧
      (t.part partner).tenant = none ∧ (t.part partner).rings = [] ∧ (t.part partner).dp.active = false ∧
      (t.part partner).handles = [] ∧ (∀ n, (t.slot n).bound = true → (t.slot n).partner ≠ partner) ∧
      ((s.pool.recs.map (·.1)).Nodup → ∀ e ∈ s.pool.recs, e.2.partner = partner →
        (e.2.st = .active → ∃ e', t.pool.recs.get? e.1 = some e' ∧ e'.st = .draining ∧ e'.cause = .withdrawn) ∧
        (e.2.st = .offered → t.pool.recs.get? e.1 = none)) ∧
      (∀ o ∈ t.ops, o.partner = partner → o.mailbox ≠ none) ∧ t.lastOut = some okOut ∧
      t.fuses = s.fuses ∧ t.store = s.store ∧ t.rst = s.rst ∧ t.clk = s.clk ∧ t.sec = s.sec ∧ t.tenants = s.tenants ∧ t.geo = s.geo ∧ t.stew = s.stew ∧
      t.rebuild = s.rebuild ∧ t.latches = s.latches ∧ t.pending = s.pending)

/-- TENANT_REMOVE and TENANT_REMOVAL_DONE (R340): a removal marks the record REMOVING and leaves no partner bound to the tenant, no fast marking, no VALID reservation entry (unless the arbiter of H1 takes over, R322), no cask grant that it gave or holds and no remote grant to it; its ACTIVE extents drain, those only offered are FREE. Once none of its extents is left the record is gone, with its decode tables, its versions and every grant to it, and the fabric manager is told. -/
def Obligations.TenantRemoval : Prop :=
  (∀ (s : State) (ses tenant : Nat), Commanded s ses → s.Unparked → s.tenantActive tenant = true →
    ∃ t, exec (.tenantRemove ses tenant) s = .next t ∧
      t.tenants = s.tenants.modify tenant (fun r => { r with st := .removing }) ∧ (∀ n, (t.part n).tenant ≠ some tenant) ∧
      (∀ g ∈ t.pool.grants, g.2.tenant ≠ tenant) ∧ (∀ n, (t.slot n).mark ≠ some tenant) ∧
      (s.qos.takeover = false → ∀ e ∈ t.qos.resv, resvKind e.2 = 0 → resvId e.2 = tenant → resvValid e.2 = false) ∧
      (∀ c ∈ t.casks, (c.2.tenant = tenant → c.2.grants = []) ∧ ∀ g ∈ c.2.grants, g.grantee ≠ tenant) ∧
      ((s.pool.recs.map (·.1)).Nodup → ∀ e ∈ s.pool.recs, e.2.tenant = tenant →
        (e.2.st = .active → ∃ e', t.pool.recs.get? e.1 = some e' ∧ e'.st = .draining ∧ e'.cause = .withdrawn) ∧
        (e.2.st = .offered → t.pool.recs.get? e.1 = none)) ∧ t.lastOut = some okOut ∧
      t.fuses = s.fuses ∧ t.store = s.store ∧ t.rst = s.rst ∧ t.clk = s.clk ∧ t.sec = s.sec ∧
      t.geo = s.geo ∧ t.stew = s.stew ∧ t.latches = s.latches ∧ t.pending = s.pending) ∧
  (∀ (s : State) (tenant : Nat) (r : Tenant), s.tenants.get? tenant = some r → r.st = .removing →
    (∀ e ∈ s.pool.recs, e.2.tenant ≠ tenant) → s.rst.stage = .up →
    ∃ t, exec (.tenantRemovalDone tenant) s = .next t ∧
      t.tenants.get? tenant = none ∧ (∀ n, n ≠ tenant → t.tenants.get? n = s.tenants.get? n) ∧
      (∀ u ∈ t.grs.tables, u.tenant ≠ tenant) ∧ (∀ v ∈ t.vers, v.2.cask ∉ (s.casks.filter (fun c => c.2.tenant == tenant)).map (·.1)) ∧
      (∀ g ∈ t.pool.grants, g.2.tenant ≠ tenant) ∧ (∀ c ∈ t.casks, ∀ g ∈ c.2.grants, g.grantee ≠ tenant) ∧
      t.lastOut = some (.fm "TENANT_REMOVED" tenant) ∧
      t.fuses = s.fuses ∧ t.store = s.store ∧ t.rst = s.rst ∧ t.clk = s.clk ∧ t.pwr = s.pwr ∧ s.tim.Passed t.tim ∧ t.sec = s.sec ∧ t.geo = s.geo ∧ t.stew = s.stew ∧
      t.rebuild = s.rebuild ∧ t.latches = s.latches ∧ t.pending = s.pending)

/-- OWNER_CLAIM, OWNER_TRANSFER and SEC_LOCK (R336, R337, R11): a claim over I3C of an unowned device and a transfer by the owner set the anchor, under which at most two sessions stay open (log 26); LOCK is set and by these never cleared. The SPDM requests of R345 in the states that admit them (log 5, with the flags of CAPABILITIES): the connection steps forward and the answer leaves, on a DOE with its interrupt (R303); nothing else changes. The requests that only read (R345, R311), and IDE_KM (R309): digests, certificate, a challenge, signed with the leaf key over the chain's digest and the nonce, and measurements answer without any other effect, on a DOE with its interrupt (R303), an index that is not measured with an empty record; IDE_KM keys one stream of a flit-mode port, that of CXL.cachemem in containment or in skid mode. In recovery mode measurements 2, 4 and 5 are empty. -/
def Obligations.OwnerAndSpdm : Prop :=
  ((∀ (s : State) (root : BitVec 384), s.rst.stage = .up → s.takingOver = false → s.stew.shed ≠ 3 → s.store.anchor = none →
     ∃ t, exec (.ownerClaim true root) s = .next t ∧ s.Anchors t root ∧
       (({ s with store := t.store, sec := { s.sec with sessions := t.sec.sessions } }).success []).Recorded t) ∧
   (∀ (s : State) (root : BitVec 384) (i3c : Bool), s.rst.stage = .up → s.takingOver = false → s.stew.shed ≠ 3 →
     (i3c = false ∨ s.store.anchor ≠ none) → exec (.ownerClaim i3c root) s = .next (s.refuse .access)) ∧
   (∀ (s : State) (ses : Nat) (root : BitVec 384), Commanded s ses →
     ∃ t, exec (.ownerTransfer ses root) s = .next t ∧ s.Anchors t root ∧
       (({ s.awaken with store := t.store, sec := { s.sec with sessions := t.sec.sessions } }).success []).Recorded t) ∧
   (∀ (s : State) (ses : Nat), Commanded s ses →
     ∃ t, exec (.secLock ses) s = .next t ∧ (({ s with sec := { s.sec with lock := true } }).success []).Recorded t)) ∧
  (∀ (s : State) (ep : Endpoint), s.epUp ep = true →
     exec (.getVersion ep) s = .next ((s.setSpdm ep .version).spdmReply ep "VERSION" [0x13]) ∧
     (s.spdmState ep = .version → exec (.getCapabilities ep) s = .next ((s.setSpdm ep .capabilities).spdmReply ep "CAPABILITIES" [0x3D6])) ∧
     (s.spdmState ep = .capabilities →
       exec (.negotiateAlgorithms ep) s = .next ((s.setSpdm ep .negotiated).spdmReply ep "ALGORITHMS ECDSA-P384 SHA-384" [])) ∧
     (s.spdmState ep = .negotiated → s.sec.keysLocked = false →
       exec (.keyExchange ep) s = .next ((s.setSpdm ep .handshake).spdmReply ep "KEY_EXCHANGE_RSP" [])) ∧
     (s.spdmState ep = .handshake → exec (.finish ep none) s = .next ((s.setSpdm ep .session).spdmReply ep "FINISH_RSP" [])) ∧
     (∀ root, ep = .mgmt → s.spdmState ep = .handshake → s.ownerSessions < 2 →
       ∃ n t, exec (.finish ep (some root)) s = .next t ∧ s.sec.sessions.get? n = none ∧ t.sec.sessions.get? n = some root ∧
         (∀ m, m ≠ n → t.sec.sessions.get? m = s.sec.sessions.get? m) ∧ t.spdmState ep = .session ∧ t.lastOut = some (.spdm 28 "FINISH_RSP" [n]) ∧
         t = { s with sec := { s.sec with sessions := t.sec.sessions, spdm := t.sec.spdm }, outs := t.outs })) ∧
  ((∀ (s : State) (ep : Endpoint), s.epUp ep = true → negotiatedStates.contains (s.spdmState ep) = true →
     exec (.getDigests ep) s = .next (s.say ep (.digest (epNo ep) 0 (Config.sha384 s.chain))) ∧
     exec (.getCertificate ep) s = .next (s.spdmReply ep "CERTIFICATE" (s.chain.map (·.toNat))) ∧
     (∀ nonce told, told = leBytes (Config.sha384 s.chain).toNat 48 ++ leBytes nonce.toNat 8 →
       exec (.challenge ep nonce) s = .next (s.spdmReply ep "CHALLENGE_AUTH" ((told ++ Config.deviceSign s.fuses.serial told).map (·.toNat)))) ∧
     exec (.getMeasurements ep 1) s = .next (s.say ep (.digest (epNo ep) 1 Config.bootRomDigest)) ∧
     exec (.getMeasurements ep 3) s = .next (s.spdmReply ep "MEASUREMENTS"
       [s.deviceId, b2n s.sec.dbgOpen, s.fuses.unlocks, b2n s.fuses.compat, s.fuses.gpoMap.toNat, b2n s.fuses.faultMap]) ∧
     (∀ i, s.rst.stage = .recovery → i = 2 ∨ i = 4 ∨ i = 5 → exec (.getMeasurements ep i) s = .next (s.spdmReply ep "MEASUREMENTS" [])) ∧
     (s.rst.stage ≠ .recovery → exec (.getMeasurements ep 2) s = .next (s.say ep (.digest (epNo ep) 2 (Config.firmwareDigest s.rst.fw.1)))) ∧
     (s.rst.stage ≠ .recovery → exec (.getMeasurements ep 4) s = .next (s.say ep (.digest (epNo ep) 4 (Config.sha384 s.ownerBytes)))) ∧
     (∀ i, i = 0 ∨ 5 < i → exec (.getMeasurements ep i) s = .next (s.spdmReply ep "MEASUREMENTS" [])) ∧
     (s.rst.stage ≠ .recovery → exec (.getMeasurements ep 5) s = .next (s.say ep (.digest (epNo ep) 5 (Config.sha384 s.geoBytes))))) ∧
   (∀ (s : State) (p : Nat) (sel : IdeSel) (key : BitVec 256), s.epUp (.doe p) = true → s.spdmState (.doe p) = .session → s.sec.keysLocked = false →
     (s.port p).flit = true → sel.stream < 10 →
     exec (.ideKm p sel key) s =
       .next ((s.setPort p { s.port p with ide := (s.port p).ide.set sel.stream ⟨.secure, key, sel.skid && sel.stream == cachememStream⟩ }).spdmReply (.doe p) "KP_ACK" [sel.stream])))

/-- UNLOCK_TOKEN and TOKEN_LOCKOUT_EXPIRY (R346, R347): an accepted token erases anchor, wrap state, tenants, versions, all memory and what the SRAMs hold, counts in UNLOCKS and opens the lock in phase TEST with keys locked; a rejected one replaces NONCE and starts the 10 s lockout, and changes nothing else; a token during the lockout is not judged. -/
def Obligations.DebugUnlock : Prop :=
  (∀ (s : State) (token : Token), s.running = true → s.sec.dbgOpen = false → s.sec.lockout = false → s.tokenOk token = true →
    ∃ t, exec (.unlockToken none token none) s = .next t ∧
      t.sec.dbgOpen = true ∧ t.sec.keysLocked = true ∧ t.rst.phase = .test ∧ t.fuses = { s.fuses with unlocks := min 255 (s.fuses.unlocks + 1) } ∧
      t.store = { anchor := none, wrapState := none } ∧ t.tenants = [] ∧ t.casks = [] ∧ t.vers = [] ∧ t.slots = [] ∧ t.pages = [] ∧ t.mem = [] ∧ t.tags = [] ∧
      t.pool.recs = [] ∧ t.grs.tables = [] ∧ t.flt.ring = [] ∧ t.grs.cache = [] ∧ t.kln.area = none ∧ (∀ n, (t.part n).tenant = none) ∧
      t.clk = s.clk ∧ t.pwr = s.pwr ∧ t.tim = s.tim ∧ t.stp = { s.stp with reqs := t.stp.reqs, turns := t.stp.turns, urgent := t.stp.urgent, nextReq := t.stp.nextReq } ∧ t.geo = s.geo ∧ t.stew = s.stew ∧ t.rebuild = s.rebuild ∧ t.pending = s.pending) ∧
  (∀ (s : State) (token : Token), s.running = true → s.sec.dbgOpen = false → s.sec.lockout = false → s.tokenOk token = false →
    exec (.unlockToken none token none) s = .next { s with freeCtr := s.freeCtr + 1, sec := { s.sec with
      nonce := (Config.trng s.freeCtr).setWidth 64, tokenFails := min 255 (s.sec.tokenFails + 1), lockout := true, lockoutAt := s.tim.clock } }) ∧
  (∀ (s : State) (token : Token) (fails : Option Nat), s.sec.lockout = true → s.tim.clock < s.sec.lockoutAt + 10000000000 →
    exec (.unlockToken none token fails) s = .next s) ∧
  (∀ (s : State), s.sec.lockout = true → s.running = true →
    ∃ t, exec .tokenLockoutExpiry s = .next t ∧ t.sec = { s.sec with lockout := false } ∧ s.sec.lockoutAt + 10000000000 ≤ t.tim.clock ∧
      t = { s with sec := t.sec, tim := t.tim })

/-- PARK, PARK_DRAIN_END, PARKED_ENTERED, UNPARK and ACTIVE_RESUMED (R140, R141, R360, R362): the way into PARKED and out of it: step 1 starts or queues the kilning of every DIRTY page that no scrub has locked, the entry ends once none is left, with the links in L1 (R357), the exit queues the pinned pages and ends once they are in steep. QUIET_ENTRY, STANDBY_ENTRY, WAKE and WAKE_DONE (R357 to R359): an idle device sinks after the waits of PWR_CTL; a wake is noted and ends ACTIVE, after 2 µs from QUIET and 150 µs from STANDBY, counted as a table wait. -/
def Obligations.PowerStatesChange : Prop :=
  ((∀ (s : State) (ses : Nat), Commanded s ses → s.Unparked →
     ∃ t, exec (.park ses) s = .next t ∧
       (({ s.awaken with pwr := { s.awaken.pwr with state := .entering, drained := false, parkAt := s.awaken.tim.clock } }).success []).Recorded t) ∧
   (∀ (s : State), s.pwr.state = .entering → s.pwr.drained = false → (∀ o ∈ s.ops, o.phase = .finished) →
     ∃ t, exec .parkDrainEnd s = .next t ∧ t.pwr = { s.pwr with drained := true } ∧
       (∀ pid p, s.pages.get? pid = some p → p.st = .dirty → p.tileBad = false → s.lockOpen p = true →
         (∃ q, t.pages.get? pid = some q ∧ q.st ≠ .dirty) ∨ (∃ m ∈ t.kln.moves, m.page = pid ∧ m.kind = .park)) ∧
       s.OpsWaited t ∧ t = { s with
         pwr := t.pwr, pages := t.pages, stp := t.stp, ops := t.ops, kln := { s.kln with moves := t.kln.moves, stalls := t.kln.stalls } }) ∧
   (∀ (s : State), s.pwr.state = .entering → s.pwr.drained = true → s.allKilned = true →
     ∃ t, exec .parkedEntered s = .next t ∧ t.pwr = { s.pwr with state := .parked, ckpt := true } ∧
       t.pages = s.pages.map (fun p => (p.1, p.2.powerOff)) ∧ t.mem = s.mem ∧ (∀ p ∈ t.ports, p.2.width ≠ 0 → p.2.inL1 = true) ∧ t.lastOut = some (.fm "PARKED_ENTERED" 0) ∧
       State.Reports { s with pwr := t.pwr, pages := t.pages, kln := t.kln } t) ∧
   (∀ (s : State) (ses : Nat), Commanded s ses → s.pwr.state = .parked →
     ∃ t, exec (.unpark ses) s = .next t ∧ t.pwr = { s.pwr with state := .leaving } ∧ (∀ pid ∈ s.pinnedAway, ∀ p, s.pages.get? pid = some p → p.st = .kiln → ∃ m ∈ t.kln.moves, m.page = pid ∧ m.kind = .pin) ∧
       s.OpsWaited t ∧ t = { s with
         pwr := t.pwr, pages := t.pages, outs := s.outs ++ [okOut], jrn := t.jrn, freeCtr := t.freeCtr, stp := t.stp, ops := t.ops
         kln := { s.kln with moves := t.kln.moves, stalls := t.kln.stalls } }) ∧
   (∀ (s : State), s.pwr.state = .leaving → s.pinnedAway = [] →
     ∃ t, exec .activeResumed s = .next t ∧ t.pwr = { s.pwr with state := .active, drained := false, ckpt := false } ∧ t.stp.heldW = [] ∧
       t.stp.next = s.tim.time + BitVec.ofNat 64 (refreshNs s.stp.hot) ∧ t.lastOut = some (.fm "ACTIVE_RESUMED" 0) ∧
       t = { s with pwr := t.pwr, stp := t.stp, ports := t.ports, outs := t.outs })) ∧
  ((∀ (s : State), s.pwr.state = .active → s.target ≠ 0 → s.idle = true →
     exec .quietEntry s = .next { s with
       tim := s.tim.advance (max 1 (bits s.pwr.ctl 15 0) * 1000) true
       pwr := { s.pwr with state := .quiet, quietAt := s.tim.clock + max 1 (bits s.pwr.ctl 15 0) * 1000 } }) ∧
   (∀ (s : State), s.pwr.state = .quiet → s.target = 2 → s.idle = true →
     ∃ t, exec .standbyEntry s = .next t ∧ t.pwr = { s.pwr with state := .standby } ∧ t.stp = { s.stp with rows := [], inGap := false } ∧
       t.ports = s.ports.map (fun p => if p.2.width = 0 then p else (p.1, { p.2 with inL1 := true })) ∧
       s.pwr.quietAt + max 1 (bits s.pwr.ctl 23 16) * 1000000 ≤ t.tim.clock ∧
       t = { s with pwr := t.pwr, stp := t.stp, ports := t.ports, tim := t.tim }) ∧
   (∀ (s : State), s.pwr.state = .quiet ∨ s.pwr.state = .standby → s.pwr.waking = none →
     exec .wake s = .next { s with pwr := { s.pwr with waking := some s.pwr.state } }) ∧
   (∀ (s : State) (from' : PState) (ns : Nat), s.running = true → s.pwr.waking = some from' → (from' = .quiet ∧ ns = 2000) ∨ (from' = .standby ∧ ns = 150000) →
     ∃ t, exec .wakeDone s = .next t ∧ t.pwr = { s.pwr with state := .active, waking := none } ∧ t.tim = s.tim.advance ns true ∧
       t.kln = { s.kln with stalls := s.kln.stalls.set 3 ⟨(s.kln.stalls.get 3 {}).ns + ns, inc32 (s.kln.stalls.get 3 {}).cnt⟩ } ∧
       (from' = .quiet → t.stp = s.stp) ∧ t = { s with pwr := t.pwr, tim := t.tim, kln := t.kln, stp := t.stp }))

/-- GOVERNOR_STEP, DIE_LIMITER and TELEMETRY_FRAME (R7, R363, R364, R419): above the cap the first stage with room takes one step, of five, or of four where CAP_W is not below what class-0 service draws (R7; the 1,480 W of R364 are log 22's), 10 ms below it the highest stage gives one back; a die above 85 W first has fewer near-memory cores (how many is free, log 2) and then gates its attention cores. VR_HOT_N and UNIT_TEMPERATURE_CHANGE (R419, R428, R331): the pin is followed, and while the governor is forced no time below the cap counts; a sensed temperature is kept, and STP_TEMP of a steep stack follows it at most at 255, but not while its controller sleeps (R353). -/
def Obligations.PowerAndHeatAreFollowed : Prop :=
  ((∀ (s : State) (i : Nat), s.rst.stage = .up → s.rst.flush = .none → (s.forced = true ∨ s.capMw < s.averageMw + 20000) →
     s.stages.contains i = true → s.atLimit i = false → (∀ j, j < i → s.atLimit j = true) →
     ∃ t, exec .governorStep s = .next t ∧ t.pwr = { s.pwr with steps := s.pwr.steps.set i (s.stepsIn i + 1) } ∧
       State.Reports { s with pwr := t.pwr, qos := t.qos, reads := t.reads, grs := t.grs } t) ∧
   (∀ (s : State) (since : Nat), s.rst.stage = .up → s.rst.flush = .none → s.forced = false → s.averageMw + 20000 ≤ s.capMw →
     s.pwr.belowSince = some since → since + 10000000 ≤ s.tim.clock → s.stage ≠ 0 →
     ∃ t, exec .governorStep s = .next t ∧ t.pwr = { s.pwr with steps := s.pwr.steps.set (s.stage - 1) (s.stepsIn (s.stage - 1) - 1) } ∧
       State.Reports { s with pwr := t.pwr, qos := t.qos, reads := t.reads, grs := t.grs } t) ∧
   (∀ (s : State) (die watts : Nat), die < 8 → s.running = true →
     (watts ≤ 85 → exec (.dieLimiter die watts) s = .next { s with pwr := { s.pwr with
       dieCap := s.pwr.dieCap.filter (· != die), dieNear := s.pwr.dieNear.erase die } }) ∧
     (85 < watts → s.pwr.dieNear.get? die = none → s.stepsIn 1 ≤ 7 → ∃ n, n < 64 - 8 * s.stepsIn 1 ∧
       exec (.dieLimiter die watts) s = .next { s with freeCtr := s.freeCtr + 1, pwr := { s.pwr with dieNear := s.pwr.dieNear.set die n } }) ∧
     (85 < watts → s.pwr.dieNear.get? die ≠ none →
       exec (.dieLimiter die watts) s = .next { s with pwr := { s.pwr with dieCap := s.pwr.dieCap.filter (· != die) ++ [die] } })) ∧
   (∀ (s : State) (slots : List Nat), s.running = true →
     ∃ t, exec (.telemetryFrame slots) s = .next t ∧ t.pwr.frames = (framePower slots :: s.pwr.frames).take 100 ∧
       (s.forced = false ∧ t.averageMw + 30000 < t.capMw ↔ t.pwr.belowSince ≠ none) ∧
       t = { s with pwr := { s.pwr with frames := t.pwr.frames, belowSince := t.pwr.belowSince } })) ∧
  ((∀ (s : State) (low : Bool),
     ∃ t, exec (.vrHotN low) s = .next t ∧ (low = true → t.forced = true) ∧ (t.forced = true → t.pwr.belowSince = none) ∧
       (t.forced = false → t.pwr = s.pwr) ∧
       t = { s with pins := { s.pins with vrHot := low }, pwr := { s.pwr with belowSince := t.pwr.belowSince } }) ∧
   (∀ (s : State) (u : UnitId) (celsius : Nat),
     ∃ t, exec (.unitTemperatureChange u celsius) s = .next t ∧
       t.pwr = { s.pwr with temps := s.pwr.temps.set (unitKey u) celsius, belowSince := t.pwr.belowSince } ∧
       t.pwr.belowSince = (if t.forced then none else s.pwr.belowSince) ∧
       (u.kind = 3 → u.inst < 8 → s.pwr.state ≠ .standby → s.pwr.state ≠ .parked → s.pwr.state ≠ .leaving → t.stackTemp u.inst = min 255 celsius) ∧
       (u.kind ≠ 3 ∨ s.pwr.state = .standby ∨ s.pwr.state = .parked ∨ s.pwr.state = .leaving → t.stp = s.stp) ∧
       t = { s with pwr := t.pwr, stp := { s.stp with temp := t.stp.temp, coolSince := t.stp.coolSince, passed := t.stp.passed } }))

/-- REFRESH_START and REFRESH_GAP_END (R128, R329 to R331): a start enters the gap, closes every row, puts the next start one period later and changes the thermal level as the stacks that have passed 85 °C since the last start or stayed at 82 °C for 100 ms say, with a WARN record when it turns hot; at the gap's end no call waits for it any more, and each one's wait is counted under refresh. CREDIT_RETURN, AGE_LIMIT and ROW_IDLE_PRECHARGE (R313, R327, R328): the issued lines of the request leave its queue, and no other lines do; a request whose accepted line has waited out AGE_LIMIT is promoted and only that; an idle row is closed and no other. QOS_RESV_WRITE (R320 to R322): a write that passes the checks is in the table and answered at once; a refused one changes nothing; during an arbiter takeover it waits, unanswered. -/
def Obligations.SteepIsRegulated : Prop :=
  ((∀ (s s1 : State), s.refreshing = true → s.stp.inGap = false →
     s1 = (if s.stp.next ≤ s.tim.time then s else s.advance (s.stp.next - s.tim.time).toNat) →
     ∃ t, exec .refreshStart s = .next t ∧ t.tim = s1.tim ∧
       t.stp = { s.stp with
         hot := s1.hotNext, passed := decide (85 < s1.hottest), inGap := true, gapAt := s1.tim.clock, rows := []
         next := (if s.stp.next ≤ s1.tim.time then s1.tim.time else s.stp.next) + BitVec.ofNat 64 (refreshNs s1.hotNext)
         reqs := t.stp.reqs, turns := t.stp.turns, urgent := t.stp.urgent, nextReq := t.stp.nextReq } ∧
       (s.stp.hot = s1.hotNext → t.stp.reqs = s.stp.reqs) ∧
       (s.stp.hot = false → s1.hotNext = true → ∃ r, t.flt.ring.head? = some r ∧ r.code = 0x24 ∧ r.cls = 2) ∧
       State.Reports { s with tim := t.tim, qos := t.qos, reads := t.reads, grs := t.grs } t) ∧
   (∀ (s : State), s.stp.inGap = true → s.running = true → s.OpsDistinct →
     ∃ t, exec .refreshGapEnd s = .next t ∧ t.stp = { s.stp with inGap := false } ∧ s.stp.gapAt + 410 ≤ t.tim.clock ∧
       (∀ o ∈ t.ops, ∀ w, o.stalled = some w → w.1 ≠ .refresh) ∧
       (t.kln.stalls.get 1 {}).ns = (s.kln.stalls.get 1 {}).ns +
         (((s.ops.filterMap (fun o => o.stalled)).filter (fun w => w.1 == .refresh)).map (fun w => t.tim.clock - w.2)).sum ∧
       t = { s with tim := t.tim, stp := t.stp, kln := { s.kln with stalls := t.kln.stalls }, ops := t.ops })) ∧
  ((∀ (s : State) (k request level : Nat) (r : SteepReq), (s.queue k).find? (fun x => x.id == request) = some r → r.issued ≠ 0 →
     ∃ t, exec (.creditReturn k request level) s = .next t ∧
       (t.queue k).map (fun x => (x.id, x.lines)) = ((s.queue k).map (fun x => (x.id, if x.id = request then x.lines - x.issued else x.lines))).filter
         (fun x => x.1 != request || 0 < x.2) ∧
       (∀ j, j ≠ k → (t.queue j).map (fun x => (x.id, x.lines)) = (s.queue j).map (fun x => (x.id, x.lines))) ∧
       s.OpsWaited t ∧ t = { s with
         stp := { s.stp with reqs := t.stp.reqs, turns := t.stp.turns, urgent := t.stp.urgent }
         kln := { s.kln with stalls := t.kln.stalls }, ops := t.ops, reads := t.reads, grs := t.grs, outs := t.outs }) ∧
   (∀ (s : State) (k request limit : Nat) (r : SteepReq), (s.queue k).find? (fun x => x.id == request) = some r →
     limit = bits (s.stp.sched.get k 0x7D0010) 25 16 * 16 → limit ≠ 0 → r.ready = true → r.promoted = false → s.running = true →
     ∃ t, exec (.ageLimit k request) s = .next t ∧ r.since + limit ≤ t.tim.clock ∧
       t.stp = { s.stp with reqs := s.stp.reqs.set k ((s.queue k).map (fun x => if x.id = request then { x with promoted := true } else x)) } ∧
       t = { s with tim := t.tim, stp := t.stp }) ∧
   (∀ (s : State) (k bank idle : Nat) (o : OpenRow), s.openRow k bank = some o → idle = bits (s.stp.pageCtl.get k 0x14) 7 0 * 4 → s.running = true →
     (idle ≠ 0 ∨ ∀ r ∈ s.queue k, r.ready = true → r.bank = bank → r.row ≠ o.row) →
     ∃ t, exec (.rowIdlePrecharge k bank) s = .next t ∧ t.openRow k bank = none ∧
       (∀ j b, (j, b) ≠ (k, bank) → t.openRow j b = s.openRow j b) ∧ (idle ≠ 0 → o.lastUse + idle ≤ t.tim.clock) ∧
       t = { s with tim := t.tim, stp := { s.stp with rows := t.stp.rows } })) ∧
  (∀ (s : State) (ses index : Nat) (w : Word), Commanded s ses → s.Unparked → index < 512 →
     (s.qos.takeover = false → s.resvRefusal index w = none →
       ∃ t, exec (.qosResvWrite ses index w) s = .next t ∧
         t.qos.resv = (if w = 0 then s.qos.resv.erase index else s.qos.resv.set index w) ∧ t.lastOut = some okOut ∧
         State.Reports { s with qos := t.qos, reads := t.reads, grs := t.grs } t) ∧
     (s.qos.takeover = false → ∀ st, s.resvRefusal index w = some st →
       ∃ t, exec (.qosResvWrite ses index w) s = .next t ∧ (s.refuse st).Recorded t) ∧
     (s.qos.takeover = true →
       ∃ t, exec (.qosResvWrite ses index w) s = .next t ∧
         State.Recorded { s with qos := { s.qos with held := s.qos.held ++ [.resv index w] } } t))

/-- PPS_IN (R380, R381, R417) with ARM 0: a pulse under 100 ns is none; an edge within 0.5 s of the last is only counted; any other captures TIME, and the correction c towards the nearest multiple of 10^9 steps TIME forward, slews it back, or trims RATE_PPB within its bounds. A capture exactly halfway is left out here: which multiple is nearest is open (log 2). SLEW_END and HOLDOVER (R381, R382): a slew ends after its half-rate run; 1.5 s without an accepted edge sets HOLDOVER, clears LOCKED, keeps RATE_PPB and raises a WARN record. -/
def Obligations.TimeFollowsPps : Prop :=
  ((∀ (s : State) (pulse : PpsPulse), pulse.highNs < 100 → exec (.ppsIn pulse) s = .next s) ∧
   (∀ (s : State) (pulse : PpsPulse) (e : Nat), s.running = true → 100 ≤ pulse.highNs → s.tim.lastEdge = some e → s.tim.clock < e + 500000000 →
     exec (.ppsIn pulse) s = .next { s with tim := { s.tim with rejectCnt := inc32 s.tim.rejectCnt } }) ∧
   (∀ (s : State) (pulse : PpsPulse) (r : Nat) (c : Int) (base : Tim), s.running = true → 100 ≤ pulse.highNs →
     (∀ e, s.tim.lastEdge = some e → e + 500000000 ≤ s.tim.clock) → bit s.tim.ctl 30 = false →
     r = s.tim.time.toNat % 1000000000 → r ≠ 500000000 → c = (if r < 500000000 then -(r : Int) else 1000000000 - (r : Int)) →
     base = { s.tim with pps := s.tim.time, lastEdge := some s.tim.clock, holdover := false, ctl := s.tim.ctl &&& 0xBFFFFFFF } →
     (bit s.tim.ctl 31 = true → bits s.tim.ctl 15 0 < c.natAbs → 0 < c →
       exec (.ppsIn pulse) s = .next { s with tim := { base with time := s.tim.time + BitVec.ofInt 64 c, locked := false, goodEdges := 0 } }) ∧
     (bit s.tim.ctl 31 = true → bits s.tim.ctl 15 0 < c.natAbs → c < 0 →
       exec (.ppsIn pulse) s = .next { s with tim := { base with slewLeft := 2 * c.natAbs, locked := false, goodEdges := 0 } }) ∧
     (bit s.tim.ctl 31 = false ∨ c.natAbs ≤ bits s.tim.ctl 15 0 → ∃ t, exec (.ppsIn pulse) s = .next t ∧
       t.tim.rate = (if bit s.tim.ctl 31 then max (-200000) (min 200000 (s.tim.rate + pulse.adjust)) else s.tim.rate) ∧
       t.tim.goodEdges = (if c.natAbs < 100 then s.tim.goodEdges + 1 else 0) ∧
       t.tim.locked = (s.tim.locked || decide (10 ≤ t.tim.goodEdges)) ∧
       t = { s with tim := { base with rate := t.tim.rate, goodEdges := t.tim.goodEdges, locked := t.tim.locked } }))) ∧
  ((∀ (s : State), s.running = true →
     ∃ t, exec .slewEnd s = .next t ∧ t.tim.slewLeft = 0 ∧ t.tim.clock = s.tim.clock + s.tim.slewLeft ∧ t = { s with tim := t.tim }) ∧
   (∀ (s : State), s.running = true → s.tim.holdover = false →
     ∃ t, exec .holdover s = .next t ∧ t.tim.holdover = true ∧ t.tim.locked = false ∧ t.tim.rate = s.tim.rate ∧
       s.tim.lastEdge.getD 0 + 1500000000 ≤ t.tim.clock ∧ t.flt.seq = s.flt.seq + 1 ∧
       (∃ r, t.flt.ring.head? = some r ∧ r.code = 0x25 ∧ r.cls = 2 ∧ r.seq = s.flt.seq) ∧
       t.pins = s.pins ∧ State.Reports { s with tim := t.tim } t))

/-- STEWARD_SHED_STAGE, STEWARD_SHED_EXIT, STEWARD_TAKEOVER and STEWARD_TAKEOVER_DONE (R393, R394, R392): shedding climbs one stage when the oldest wait passes its limit, and ends 100 ms after the last wait of 1 ms or more that was reported at the earliest (log 9); 50 ms after its last heartbeat (log 9) the H1 steward takes over with records 0x34 and 0x33 and a change of the geometry table (whose record comes first is the model's choice, log 24). ARBITER_TAKEOVER and ARBITER_TAKEOVER_DONE (R322, R392): changes wait from the loss on; when H1 has taken over none waits any more, markings among them, and the table names it. -/
def Obligations.StewardAndArbiterHandOver : Prop :=
  ((∀ (s : State) (wait : Nat), s.endpointUp = true → s.stew.shed < 3 → [5000, 20000, 50000].getD s.stew.shed 0 < wait →
     ∃ t, exec (.stewardShedStage wait) s = .next t ∧ t.stew = { s.stew with shed := s.stew.shed + 1, calmSince := some s.tim.clock } ∧
       t.kln = (if s.stew.shed = 1 then { s.kln with published := some (s.klnWear, s.counterList) } else s.kln) ∧
       t = { s with stew := t.stew, kln := t.kln }) ∧
   (∀ (s : State), ∃ t, exec .stewardShedExit s = .next t ∧
       (s.running = true → ∀ c, s.stew.calmSince = some c → c + 100000000 ≤ t.tim.clock) ∧ (s.stew.calmSince = none → t.tim = s.tim) ∧
       t = { s with tim := t.tim, stew := { s.stew with shed := 0, calmSince := none }, kln := { s.kln with published := none } }) ∧
   (∀ (s : State), s.endpointUp = true → s.rst.devFault = false → (∀ u ∈ s.flt.offline, u.kind ≠ 7) →
     ∃ t, exec .stewardTakeover s = .next t ∧ t.stew = { s.stew with takeover := true, since := t.tim.clock } ∧
       s.lastHeartbeat + 50000000 ≤ t.tim.clock ∧
       t.geo = { s.geo with stewardH1 := true, gen := (s.geo.gen + 1) % 2 ^ 32 } ∧ t.flt.offline = s.flt.offline ++ [⟨7, 0⟩] ∧
       t.flt.seq = s.flt.seq + 2 ∧ (t.flt.ring.take 2).map (·.code) = [0x33, 0x34] ∧
       t.pins = s.pins ∧ State.Reports { s with tim := t.tim, stew := t.stew, geo := t.geo } t) ∧
   (∀ (s : State), exec .stewardTakeoverDone s = .next { s with stew := { s.stew with takeover := false } })) ∧
  ((∀ (s : State), s.running = true → s.rst.devFault = false → (∀ u ∈ s.flt.offline, u.kind ≠ 10) →
     exec .arbiterTakeover s = .next { s with
       qos := { s.qos with takeover := true, lostSeq := none }, flt := { s.flt with offline := s.flt.offline ++ [⟨10, 0⟩] } }) ∧
   (∀ (s : State), s.qos.takeover = true →
     ∃ t, exec .arbiterTakeoverDone s = .next t ∧ t.qos.takeover = false ∧ t.qos.held = [] ∧
       t.geo = { s.geo with arbiterH1 := true, gen := (s.geo.gen + 1) % 2 ^ 32 } ∧ (t.flt.ring.take 2).map (·.code) = [0x33, 0x35] ∧
       State.Reports { s with qos := t.qos, geo := t.geo, slots := t.slots, reads := t.reads, grs := t.grs } t))

/-- FAULT_GET, FAULT_CLEAR, PHASE_SET and an undefined opcode (R404, R438, R388, R349, R339): the record, BOUNDS for a SEQ not yet written, VERSION_GONE for one no longer held; the count and the first record cleared; the phase set while no fast slot is bound; Unsupported. JRN_CTL_WRITE, CONFIG_SNAPSHOT and JOURNAL_CHECKPOINT (R396, R397, R399, R402, R135): an admitted JRN_CTL takes its value, with a CONFIG record where recording starts, and slot pins are settled anew, which moves no page and may leave some unpinned, as a fault record then says; a periodic snapshot is the next CONFIG record, or is dropped and counted when the writer is behind; a checkpoint empties the journal. JOURNAL_EXPORT (R403, R404): the records of an INDEX range that are all held go, whole, into a new version of the cask named, which is committed and on the journal; a range that is not all held is VERSION_GONE. -/
def Obligations.FaultAndJournalCommands : Prop :=
  ((∀ (s : State) (ses : Nat) (seq : Word), Commanded s ses →
     ∃ t, exec (.faultGet ses seq) s = .next t ∧
       ((match s.flt.record? seq with
         | some r => s.success ((faultBytes r).map (fun (b : Byte) => b.toNat))
         | none => s.refuse (if s.flt.future seq then .bounds else .versionGone)).Recorded t)) ∧
   (∀ (s : State) (ses : Nat), Commanded s ses →
     ∃ t, exec (.faultClear ses) s = .next t ∧ (({ s with flt := { s.flt with count := 0, first := none } }).success []).Recorded t) ∧
   (∀ (s : State) (ses phase : Nat), Commanded s ses → phase = 1 ∨ phase = 2 → (∀ e ∈ s.slots, (e.2.bound && e.2.fast) = false) →
     s.rst.phase ≠ .rebuild →
     ∃ t, exec (.phaseSet ses phase) s = .next t ∧
       (({ s with rst := { s.rst with phase := if phase = 1 then .service else .test } }).success []).Recorded t) ∧
   (∀ (s : State) (ses opcode : Nat), Commanded s ses → 0xC400 ≤ opcode → opcode < 0xC650 → mgmtOpcodes.contains opcode = false →
     ∃ t, exec (.unsupportedManagementCommand ses opcode) s = .next t ∧ (s.awaken.answer "Unsupported" []).Recorded t)) ∧
  ((∀ (s : State) (ses : Nat) (w : Word), Commanded s ses → 1 ≤ bits w 22 16 → bits w 22 16 ≤ 0x40 →
     pinsFit (s.quotaSum 1024 0) s.markings (bits (s.jrn.newCtl w) 22 16) = true →
     ∃ t, exec (.jrnCtlWrite ses w) s = .next t ∧ t.jrn.ctl = s.jrn.newCtl w ∧ t.lastOut = some okOut ∧
       (bit w 31 = true → bit s.jrn.ctl 31 = false → ∀ r ∈ t.jrn.recs, r.ty = 0x04 ∨ r.ty = 0x06 ∨ r.ty = 0x07 ∨ r.ty = 0x08) ∧
       (∀ pid, (t.pages.get? pid).map (fun p => { p with overflow := false, ctr := 0 }) = (s.pages.get? pid).map (fun p => { p with overflow := false, ctr := 0 })) ∧
       State.Reports { s with pages := t.pages, kln := { s.kln with pinOvfCnt := t.kln.pinOvfCnt } } t) ∧
   (∀ (s : State), s.recording = true → bits s.jrn.ctl 15 0 ≠ 0 → s.running = true →
     ∃ t, exec .configSnapshot s = .next t ∧ t.jrn.snapAt = t.tim.clock ∧ s.jrn.snapAt + bits s.jrn.ctl 15 0 * 1000000 ≤ t.tim.clock ∧
       (Config.jrnBehind s.freeCtr = true → t.jrn.recs = s.jrn.recs ∧ t.jrn.lost = inc32 s.jrn.lost) ∧
       (Config.jrnBehind s.freeCtr = false → s.jrn.gap = 0 → jrnUsed (s.jrn.recs ++ [⟨s.jrn.next, 0x04, State.configBody { s with tim := t.tim }⟩]) ≤ s.jrn.cap →
         t.jrn.recs = s.jrn.recs ++ [⟨s.jrn.next, 0x04, State.configBody { s with tim := t.tim }⟩] ∧ t.jrn.next = s.jrn.next + 1) ∧
       s.OpsWaited t ∧ t = { s with
         tim := t.tim, jrn := t.jrn, freeCtr := t.freeCtr, stp := t.stp, ops := t.ops, kln := { s.kln with stalls := t.kln.stalls } }) ∧
   (∀ (s : State), s.rst.stage = .up → s.rst.flush = .none →
     ∃ t, exec .journalCheckpoint s = .next t ∧ t.kln.journalBytes = 0 ∧ t.kln.journal = [] ∧ t.kln.checkpoints = s.kln.checkpoints + 1 ∧
       s.kln.writtenBytes ≤ t.kln.writtenBytes ∧
       State.Reports { s with kln := t.kln } t)) ∧
  (∀ (s : State) (ses tenant cask first count : Nat) (rs : List JrnRec), Commanded s ses → s.Unparked →
     rs = s.jrn.recs.filter (fun r => decide (first ≤ r.index) && decide (r.index < first + count)) →
     (rs.length < count → ∃ t, exec (.journalExport ses tenant cask first count) s = .next t ∧ (s.awaken.refuse .versionGone).Recorded t) ∧
     (∀ u, count ≤ rs.length → s.tenantActive tenant = true → s.rst.devFault = false → s.awaken.exportTo tenant cask (rs.flatMap jrnBytes) = .inr u →
       ∃ t w, exec (.journalExport ses tenant cask first count) s = .next t ∧ (u.success []).Recorded t ∧ t.vers.get? s.nextVer = some w ∧
         w.st = .committed ∧ w.journaled = true ∧ (rs.flatMap jrnBytes).length ≤ w.size ∧
         t.spanBytes (t.verSpan s.nextVer 0 (rs.flatMap jrnBytes).length) = rs.flatMap jrnBytes ∧ s.awaken.SameCore t))

/-- POWER_FAIL, RAIL_OUT_OF_RANGE, POWER_FAIL_FLUSH_DONE and THERMAL_TRIP (R138, R139, R423, R430): the flush starts once, in every stage out of reset, kilnings in progress are given up to DIRTY, and it ends with the shutdown record; a thermal trip asserts THERMTRIP_N and takes level 5. DEV_RST_N, POWER_ON, COLD_POWER_ON, RAIL_COLLAPSE and RESTART (R28, R365, R366, R371, R373, R378, R420, R423): each leaves the device in reset, off or in a new bring-up, with what a reset keeps; only DEV_RST_N and power-on release THERMTRIP_N and close an open debug lock (R348, R430), and a power-on needs VAON (R422); a pulse below 1 µs does nothing, and one that meets the flush waits for its end. -/
def Obligations.ResetsAndPowerFail : Prop :=
  ((∀ (s : State), s.running = true → s.rst.flush = .none →
     ∃ t, exec .powerFail s = .next t ∧ t.pins = { s.pins with powerFailLow := true } ∧ t.rst = { s.rst with flush := .running } ∧
       t.pages = s.pages.map (fun p => (p.1, p.2.abandon)) ∧
       t = { s with pins := t.pins, rst := t.rst, pages := t.pages, pwr := t.pwr, tim := t.tim, kln := { s.kln with stalls := t.kln.stalls }, stp := t.stp }) ∧
   (∀ (s : State) (rail : Nat), 1 ≤ rail → rail ≤ 18 → s.running = true → s.rst.flush = .none →
     ∃ t, exec (.railOutOfRange rail) s = .next t ∧ t.pins = { s.pins with rails := s.pins.rails.set rail .out } ∧ t.rst = { s.rst with flush := .running } ∧
       t.pages = s.pages.map (fun p => (p.1, p.2.abandon)) ∧
       t = { s with pins := t.pins, rst := t.rst, pages := t.pages, pwr := t.pwr, tim := t.tim, kln := { s.kln with stalls := t.kln.stalls }, stp := t.stp }) ∧
   (∀ (s : State), s.rst.flush = .running → s.rst.deferredReset = false →
     ∃ t, exec .powerFailFlushDone s = .next t ∧ t.rst = { s.rst with flush := .flushed } ∧ t.kln.staged = [] ∧ t.kln.shutdownRecord = true ∧
       t.fuses = s.fuses ∧ t.store = s.store ∧ t.clk = s.clk ∧ t.tim = s.tim ∧ t.sec = s.sec ∧ t.tenants = s.tenants ∧ t.qos = s.qos ∧
       t.pages = s.pages ∧ t.mem = s.mem ∧ t.tags = s.tags ∧ t.pool = s.pool ∧ t.grs = s.grs ∧ t.geo = s.geo ∧ t.pending = s.pending) ∧
   (∀ (s : State) (u : UnitId), s.running = true → s.rst.devFault = false → s.unitFitted u = true →
     ∃ t, exec (.thermalTrip u) s = .next t ∧ t.pins = { s.pins with thermtripN := true, faultN := true, devReady := false } ∧ t.rst.devFault = true ∧
       (∃ r, t.flt.ring.head? = some r ∧ r.code = 0x37 ∧ r.cls = 5 ∧ r.action = 5 ∧ r.unit = u) ∧
       t.mem = s.mem ∧ t.tags = s.tags ∧ t.sec = s.sec ∧ t.tenants = s.tenants ∧ t.pool = s.pool ∧ s.OpsWaited t ∧ t.parts = s.parts ∧ t.slots = s.slots ∧
       t.vers = s.vers ∧ t.pending = s.pending)) ∧
  ((∀ (s : State) (low : Nat) (rel : Bool), s.pins.devRstLow = false → 1000 ≤ low → s.rst.flush ≠ .running → s.rst.stage ≠ .off →
     ∃ t, exec (.devRstN low rel) s = .next t ∧ s.ResetKept t ∧ t.rst.stage = .held ∧ t.pins.devRstLow = !rel ∧ t.pins.thermtripN = false ∧ t.sec.dbgOpen = false ∧
       t.rst.cause = s.rst.cause ||| 2 ||| (if s.rst.flush = .none then 0 else 16) ∧ t.rst.backup = s.rst.backup ∧
       t.flt = { seq := s.flt.seq, count := s.flt.count, first := s.flt.first, retained := s.flt.retained, everWritten := s.flt.everWritten } ∧
       t.outs = s.outs ∧ t.pending = s.pending) ∧
   (∀ (s : State) (low : Nat) (rel : Bool), s.pins.devRstLow = false → low < 1000 → exec (.devRstN low rel) s = .next s) ∧
   (∀ (s : State) (low : Nat) (rel : Bool), s.pins.devRstLow = false → 1000 ≤ low → s.rst.flush = .running →
     exec (.devRstN low rel) s = .next { s with pins := { s.pins with devRstLow := !rel }, rst := { s.rst with deferredReset := true } }) ∧
   (∀ (s : State), s.running = false → s.pins.rails.get? 0 = none →
     ∃ t, exec .powerOn s = .next t ∧ s.ResetKept t ∧ t.rst.stage = .held ∧ t.pins.thermtripN = false ∧ t.sec.dbgOpen = false ∧ t.rst.cause.getLsbD 0 = true ∧ t.pins.rails = [] ∧
       (s.fuses.compat = false → t.rst.gpo = 0) ∧ t.outs = s.outs ∧ t.pending = s.pending) ∧
   (∀ (s : State) (v : RailLevel), s.running = false → s.pins.rails.get? 0 = some v → exec .powerOn s = .next s) ∧
   (∀ (s : State), ∃ t, exec .coldPowerOn s = .next t ∧ s.ResetKept t ∧ t.rst.stage = .off ∧ t.rst.cause = 1 ∧ t.rst.failedStarts = 0 ∧ t.rst.backup = [] ∧
       t.kln.area = none ∧ t.pins.rails.get? 0 = none ∧ t.flt = {} ∧ t.outs = s.outs ∧ t.pending = s.pending) ∧
   (∀ (s : State) (rail : Nat), rail ≤ 18 → s.rst.stage ≠ .off →
     ∃ t, exec (.railCollapse rail) s = .next t ∧ s.cutJournal.ResetKept t ∧ t.rst.stage = .off ∧ t.pins.rails = s.pins.rails.set rail .collapsed ∧
       t.pins.thermtripN = s.pins.thermtripN ∧ t.sec.dbgOpen = s.sec.dbgOpen ∧
       t.outs = s.outs ∧ t.pending = s.pending) ∧
   (∀ (s : State), s.rst.stage = .recovery → (s.port 0).width ≠ 0 → (s.port 0).d3 = false → s.rst.rcvStat ≠ .busy → s.rst.flush = .none →
     ∃ t, exec .restart s = .next t ∧ s.ResetKept t ∧ t.rst.stage = .bringup 1 ∧ t.rst.failedStarts = 0 ∧ t.rst.cause.getLsbD 3 = true ∧
       t.pins.thermtripN = s.pins.thermtripN ∧ t.sec.dbgOpen = s.sec.dbgOpen ∧
       t.outs = s.outs ∧ t.pending = s.pending))

/-- BRINGUP_START, BRINGUP_STEP, READY and START_TIMEOUT (R367 to R370, R341, R348, R356): bring-up begins when reset is released and every rail is in range, goes through its steps one by one, and at its end the device is up, with DEV_READY, in TEST with locked keys if the debug lock is still open (log 26), and without owner and tenants after a debug session; a start without acceptable firmware, or one that takes too long, begins anew, and the third failure leads to recovery mode. -/
def Obligations.BringUp : Prop :=
  (∀ (s : State), s.rst.stage = .held → s.pins.devRstLow = false → s.pins.rails = [] →
    exec .bringupStart s = .next { s with
      rst := { s.rst with stage := .bringup 1, phase := .bringup, startedAt := s.tim.clock }, clk := { s.clk with xtalOk := true } }) ∧
  (∀ (s : State) (n : Nat), s.rst.stage = .bringup n → n ≤ 9 → s.rst.flush = .none → s.rst.devFault = false → s.rst.phase = .bringup →
    (n = 3 → s.chooseFirmware ≠ none) →
    ∃ t, exec .bringupStep s = .next t ∧ t.rst.stage = .bringup (n + 1) ∧ (n = 3 → t.rst.fwChosen = s.chooseFirmware) ∧
      (n = 4 → t.clk = { s.clk with onOsc := [] }) ∧
      (n = 5 → ∀ k r, t.tenants.get? k = some r → r.key = some (if t.rootKey = r.wrapRoot then r.drawn else Config.unwrapKey t.rootKey r.wrapped)) ∧
      (n = 5 → s.rst.freshStart = false → t.store = s.store) ∧
      (n = 8 → s.rst.freshStart = true → t.rebuild = some [] ∧ t.geo.rebuildGib = some 0 ∧ ∀ g ∈ t.kln.segs, g.2.st = some .full) ∧
      t.fuses = s.fuses ∧ t.pages = s.pages ∧ t.mem = s.mem ∧ t.vers = s.vers ∧ t.casks = s.casks ∧ t.pending = s.pending) ∧
  (∀ (s : State), (s.rst.stage = .bringup 3 ∧ s.chooseFirmware = none ∧ s.rst.flush = .none ∧ s.rst.devFault = false ∧ s.rst.phase = .bringup) →
    ∃ t, exec .bringupStep s = .next t ∧ s.ResetKept t ∧ t.rst.failedStarts = min 3 (s.rst.failedStarts + 1) ∧
      t.rst.stage = (if s.rst.failedStarts < 2 then .bringup 1 else .recovery) ∧ (2 ≤ s.rst.failedStarts → t.sec.keysLocked = true)) ∧
  (∀ (s : State) (n : Nat), s.rst.stage = .bringup n → s.rst.flush = .none → s.rst.devFault = false → s.rst.phase = .bringup →
    ∃ t, exec .startTimeout s = .next t ∧ t.sec.dbgOpen = s.sec.dbgOpen ∧ t.rst.failedStarts = min 3 (s.rst.failedStarts + 1) ∧
      t.rst.stage = (if s.rst.failedStarts < 2 then .bringup 1 else .recovery) ∧ t.rst.cause.getLsbD 2 = true ∧
      t.fuses = s.fuses ∧ t.store = s.store ∧ t.ops = [] ∧ t.slots = [] ∧ t.outs = s.outs ∧ t.pending = s.pending) ∧
  (∀ (s : State) (n : Nat), s.rst.stage = .bringup n → 10 ≤ n → s.rst.flush = .none → s.rst.devFault = false → s.rst.phase = .bringup →
    ∃ t, exec .ready s = .next t ∧ t.rst.stage = .up ∧ t.rst.phase = (if s.sec.dbgOpen then .test else if s.rebuild.isSome then .rebuild else .service) ∧ t.rst.failedStarts = 0 ∧
      t.rst.fw = s.rst.fwChosen.getD (0, 0) ∧ t.pins.devReady = true ∧
      t.store = (if s.rst.freshStart then { s.store with anchor := none } else s.store) ∧ t.tenants = (if s.rst.freshStart then [] else s.tenants) ∧
      t.fuses = s.fuses ∧ t.clk = s.clk ∧ t.pwr = s.pwr ∧ s.tim.Passed t.tim ∧ t.sec = { s.sec with keysLocked := s.sec.keysLocked || s.sec.dbgOpen } ∧
      t.geo = s.geo ∧ t.pending = s.pending)

/-- VERIFY, WRITE_A, WRITE_B, VERIFY_DONE, SLOT_WRITE_DONE and UPLOAD_WRITE (R371, R372): in recovery mode, with P0 trained and in D0, each moves RST_RCV_STAT as its row of R372 says and touches nothing else; while BUSY all but the end of the work under way are ignored, writes of the upload window and of RST_RCV_LEN too, and a slot is written from VERIFIED only. REBUILD_SEGMENT_ERASE and REBUILD_END (R349, R413): a segment is erased once, counted, and free again; when every segment of the present stacks has been, the phase is SERVICE and POOL_GIB is the full size again, a second after its last rise at the earliest. -/
def Obligations.RecoveryAndRebuild : Prop :=
  ((∀ (s : State), s.rst.stage = .recovery → (s.port 0).width ≠ 0 → (s.port 0).d3 = false →
     (s.rst.rcvStat ≠ .busy → exec .verify s = .next { s with rst := { s.rst with rcvStat := .busy, rcvJob := .verify } }) ∧
     (s.rst.rcvStat = .verified → exec .writeA s = .next { s with rst := { s.rst with rcvStat := .busy, rcvJob := .writeA } }) ∧
     (s.rst.rcvStat = .verified → exec .writeB s = .next { s with rst := { s.rst with rcvStat := .busy, rcvJob := .writeB } }) ∧
     (s.rst.rcvStat ≠ .verified → exec .writeA s = .next s ∧ exec .writeB s = .next s) ∧
     (s.rst.rcvStat = .busy → exec .verify s = .next s ∧ exec .writeA s = .next s ∧ exec .writeB s = .next s ∧ exec .restart s = .next s ∧
       ∀ toLen off bs, exec (.uploadWrite toLen off bs) s = .next s) ∧
     (∀ off bs, 0x4000000 < off + bs.length → exec (.uploadWrite false off bs) s = .next s) ∧
     (∀ off bs, s.rst.rcvStat ≠ .busy → off + bs.length ≤ 0x4000000 →
       ∃ t, exec (.uploadWrite false off bs) s = .next t ∧ (∀ a, t.rst.upload.read a = if off ≤ a ∧ a < off + bs.length then bs.getD (a - off) 0 else s.rst.upload.read a) ∧
         t.rst.rcvStat = (if s.rst.rcvStat = .verified then .idle else s.rst.rcvStat) ∧
         t = { s with rst := { s.rst with upload := t.rst.upload, rcvStat := t.rst.rcvStat } }) ∧
     (∀ bs, s.rst.rcvStat ≠ .busy → exec (.uploadWrite true 0 bs) s = .next { s with rst := { s.rst with
       rcvLen := leNat (bs.take 4) % 2 ^ 27, rcvStat := if s.rst.rcvStat = .verified then .idle else s.rst.rcvStat } })) ∧
   (∀ (s : State), s.rst.rcvStat = .busy → s.rst.rcvJob = .verify →
     exec .verifyDone s = .next { s with rst := { s.rst with rcvStat := if s.imageOk then .verified else .rejected, rcvJob := .none } }) ∧
   (∀ (s : State), s.rst.rcvStat = .busy → s.rst.rcvJob = .writeA →
     exec (.slotWriteDone true) s = .next { s with rst := { s.rst with
       fwA := { valid := true, major := Config.imageMajor s.image, minor := Config.imageMinor s.image }, rcvStat := .written, rcvJob := .none } } ∧
     exec (.slotWriteDone false) s = .next { s with rst := { s.rst with
       fwA := { s.rst.fwA with valid := false }, rcvStat := .rejected, rcvJob := .none } }) ∧
   (∀ (s : State), s.rst.rcvStat = .busy → s.rst.rcvJob = .writeB →
     exec (.slotWriteDone true) s = .next { s with rst := { s.rst with
       fwB := { valid := true, major := Config.imageMajor s.image, minor := Config.imageMinor s.image }, rcvStat := .written, rcvJob := .none } } ∧
     exec (.slotWriteDone false) s = .next { s with rst := { s.rst with
       fwB := { s.rst.fwB with valid := false }, rcvStat := .rejected, rcvJob := .none } }) ∧
   (∀ (s : State) (ok : Bool), s.rst.rcvStat ≠ .busy → exec .verifyDone s = .next s ∧ exec (.slotWriteDone ok) s = .next s) ∧
   (∀ (s : State) (ok : Bool), s.rst.rcvStat = .busy →
     (s.rst.rcvJob ≠ .verify → exec .verifyDone s = .next s) ∧
     (s.rst.rcvJob ≠ .writeA → s.rst.rcvJob ≠ .writeB → exec (.slotWriteDone ok) s = .next s))) ∧
  ((∀ (s : State) (k seg : Nat) (es : List Nat), s.rebuild = some es → seg < 32768 → s.kilnPresent k = true → es.contains (k * 32768 + seg) = false → s.movesRun = true →
     ∃ t, exec (.rebuildSegmentErase k seg) s = .next t ∧ t.rebuild = some ((k * 32768 + seg) :: es) ∧
       t.kln = { s.kln with segs := s.kln.segs.set (k * 32768 + seg) { st := none, erases := (s.kln.segs.get (k * 32768 + seg) {}).erases + 1 } } ∧
       t = { s with rebuild := t.rebuild, kln := t.kln, geo := { s.geo with gen := t.geo.gen, rebuildGib := t.geo.rebuildGib, rebuildAt := t.geo.rebuildAt } }) ∧
   (∀ (s : State) (es : List Nat), s.rebuild = some es → s.stacksPresent * 32768 ≤ (es.filter (fun g => s.kilnPresent (g / 32768))).length → s.rst.stage = .up →
     ∃ t, exec .rebuildEnd s = .next t ∧ s.geo.rebuildAt + 1000000000 ≤ t.tim.clock ∧ s.tim.Passed t.tim ∧ t = { s with
       tim := t.tim, rebuild := none, rst := { s.rst with phase := if s.rst.phase = .rebuild then .service else s.rst.phase }
       geo := { s.geo with rebuildGib := none, gen := (s.geo.gen + 1) % 2 ^ 32 } }))

/-- CLOCK_SWITCH, CLOCK_SWITCH_ACK, CLOCK_SWITCH_TIMEOUT and REF_LOST (R355, R356): a domain changes to its other clock when the old one answers, or by force after 2 µs with its LOST bit set; losing REFCLK is a device fault. BLOCK_RESET, BLOCK_IDLE_ACK and BLOCK_IDLE_TIMEOUT (R374, R375): a block is asked to go idle, and reset when it answers or when TIMEOUT_US has passed; a reset steep controller holds no request and no open row. -/
def Obligations.ClocksSwitchAndBlocksReset : Prop :=
  ((∀ (s : State) (d : Domain), s.running = true → (∀ w ∈ s.clk.switches, w.domain ≠ d) →
     exec (.clockSwitch d) s = .next { s with clk := { s.clk with
       switches := s.clk.switches ++ [⟨d, if s.clk.onOsc.contains d then .pll else .osc, s.tim.clock⟩] } }) ∧
   (∀ (s : State) (d : Domain) (w : ClkSwitch), s.clk.switches.find? (fun x => x.domain == d) = some w →
     ∃ t, exec (.clockSwitchAck d) s = .next t ∧ (t.clk.onOsc.contains d = (w.toSrc == .osc)) ∧ (∀ x ∈ t.clk.switches, x.domain ≠ d) ∧
       (∀ e, e ≠ d → (t.clk.onOsc.contains e = s.clk.onOsc.contains e)) ∧
       t = { s with clk := { s.clk with switches := t.clk.switches, onOsc := t.clk.onOsc } }) ∧
   (∀ (s : State) (d : Domain) (w : ClkSwitch), s.clk.switches.find? (fun x => x.domain == d) = some w → s.running = true →
     ∃ t, exec (.clockSwitchTimeout d) s = .next t ∧ (t.clk.onOsc.contains d = (w.toSrc == .osc)) ∧ (∀ x ∈ t.clk.switches, x.domain ≠ d) ∧
       w.since + 2000 ≤ t.tim.clock ∧
       t.clk.lostPort = (match d with
         | .port p => s.clk.lostPort ||| BitVec.ofNat 28 (2 ^ p)
         | _ => s.clk.lostPort) ∧
       t.clk.lostCore = (match d with
         | .port _ => s.clk.lostCore
         | .hub _ => s.clk.lostCore ||| 1
         | .fabric b => s.clk.lostCore ||| BitVec.ofNat 21 (2 ^ (1 + b))
         | .steep k => s.clk.lostCore ||| BitVec.ofNat 21 (2 ^ (9 + k))
         | .kiln h => s.clk.lostCore ||| BitVec.ofNat 21 (2 ^ (17 + h))
         | .steward h => s.clk.lostCore ||| BitVec.ofNat 21 (2 ^ (19 + h))) ∧
       t.fuses = s.fuses ∧ t.store = s.store ∧ t.sec = { s.sec with spdm := t.sec.spdm } ∧ t.tenants = s.tenants ∧ t.rebuild = s.rebuild ∧
       t.latches = s.latches ∧ t.pending = s.pending) ∧
   (∀ (s : State), s.running = true → s.clk.refLost = false →
     ∃ t, exec .refLost s = .next t ∧ t.clk = { s.clk with refLost := true } ∧ t.rst.devFault = true ∧ t.pins.devReady = false ∧ t.pins.faultN = true ∧
       t.sec = s.sec ∧ t.tenants = s.tenants ∧ t.pool = s.pool ∧ s.OpsWaited t ∧ t.parts = s.parts ∧ t.slots = s.slots ∧ t.vers = s.vers ∧ t.mem = s.mem ∧
       t.tags = s.tags ∧ t.pending = s.pending)) ∧
  ((∀ (s : State) (b : Block) (cause : Word), s.running = true → (∀ j ∈ s.rst.blocks, j.block ≠ b) → bits s.rst.blkCtl 15 0 ≠ 0 →
     ∃ t, exec (.blockReset b cause) s = .next t ∧ t.rst = { s.rst with blocks := s.rst.blocks ++ [⟨b, cause, s.tim.clock⟩] } ∧
       t.fuses = s.fuses ∧ t.store = s.store ∧ t.clk = s.clk ∧ t.pwr = s.pwr ∧ t.tim = s.tim ∧ t.sec = s.sec ∧ t.tenants = s.tenants ∧
       t.geo = s.geo ∧ t.stew = s.stew ∧ t.pending = s.pending) ∧
   (∀ (s : State) (b : Block) (cause : Word) (j : BlockJob), s.running = true → j ∈ s.rst.blocks → j.block = b → exec (.blockReset b cause) s = .next s) ∧
   (∀ (s : State) (b : Block) (j : BlockJob), j ∈ s.rst.blocks → j.block = b →
     ∃ t, exec (.blockIdleAck b) s = .next t ∧ t.rst = { s.rst with blocks := s.rst.blocks.filter (fun j => j.block != b) } ∧
       (∀ k, b = .steep k → t.queue k = [] ∧ ∀ r ∈ t.stp.rows, r.stack ≠ k) ∧
       t.fuses = s.fuses ∧ t.store = s.store ∧ t.clk = s.clk ∧ t.pwr = s.pwr ∧ t.tim = s.tim ∧ t.sec = { s.sec with spdm := t.sec.spdm } ∧ t.tenants = s.tenants ∧ t.geo = s.geo ∧
       t.stew = s.stew ∧ t.pending = s.pending) ∧
   (∀ (s : State) (b : Block) (j : BlockJob), s.rst.blocks.find? (fun j => j.block == b) = some j → s.running = true →
     ∃ t, exec (.blockIdleTimeout b) s = .next t ∧ t.rst = { s.rst with blocks := s.rst.blocks.filter (fun j => j.block != b) } ∧
       j.since + bits s.rst.blkCtl 15 0 * 1000 ≤ t.tim.clock ∧
       t.fuses = s.fuses ∧ t.store = s.store ∧ t.clk = s.clk ∧ t.pwr = s.pwr ∧ t.sec = { s.sec with spdm := t.sec.spdm } ∧ t.tenants = s.tenants ∧ t.geo = s.geo ∧ t.stew = s.stew ∧
       t.pending = s.pending))

/-- UNIT_FAULT, CORRECTED_COALESCE_EXPIRY and the DEVICE class (R385 to R392, R413): a CORRECTED fault opens or counts in the window of its unit and code, and the window's end writes its one record with COUNT, at the TIME of the window's first; an ERROR or WARN fault is one record at once, of level 2 or 0; a code that no unit reports changes nothing. A UNIT fault is remembered for the ladder and recorded with its level: 3, a block reset, for a first one; 4, the unit offline with record 0x0033 of that fault, for one within 10 ms or of a unit without a block where R392 lets it go; else 5, with record 0x0037, service stopped. Losing REFCLK is of the DEVICE class, level 5. -/
def Obligations.FaultReports : Prop :=
  (∀ (s : State) (u : UnitId) (code tenant : Nat) (detail : List Nat), s.running = true → s.unitFitted u = true → code = 1 ∨ code = 2 →
    ((∀ w ∈ s.flt.windows, ¬ (w.unit = u ∧ w.code = code)) →
      exec (.unitFault u code detail tenant) s = .next { s with flt := { s.flt with windows := s.flt.windows ++ [⟨u, code, 1, s.tim.clock, s.tim.time⟩] } }) ∧
    (∀ w ∈ s.flt.windows, w.unit = u → w.code = code →
      exec (.unitFault u code detail tenant) s = .next { s with flt := { s.flt with
        windows := s.flt.windows.map (fun x => if x.unit = u ∧ x.code = code then { x with count := inc32 x.count } else x) } })) ∧
  (∀ (s : State) (u : UnitId) (code tenant : Nat) (detail : List Nat), s.running = true → s.unitFitted u = true →
    code ∈ [0x10, 0x11, 0x12, 0x20, 0x21, 0x22, 0x23, 0x24, 0x25, 0x26] →
    ∃ t, exec (.unitFault u code detail tenant) s = .next t ∧ t.flt.seq = s.flt.seq + 1 ∧ t.flt.count = inc32 s.flt.count ∧
      (∃ r, t.flt.ring.head? = some r ∧ r.seq = s.flt.seq ∧ r.time = s.tim.time ∧ r.code = code ∧ r.unit = u ∧ r.count = 1 ∧ r.detail = detail ∧ r.tenant = tenant ∧
        r.cls = (if code ∈ [0x10, 0x11, 0x12] then 3 else 2) ∧ r.action = (if code ∈ [0x10, 0x11, 0x12] then 2 else 0) ∧
        t.flt.first = some (s.flt.first.getD r)) ∧
      (code ≠ 0x10 ∨ u.kind ≠ 3 → t.pages = s.pages) ∧ t.pins = s.pins ∧ State.Reports { s with pages := t.pages } t) ∧
  (∀ (s : State) (u : UnitId) (code tenant : Nat) (detail : List Nat), reportedCode code = false → code ≠ 0x30 → code ≠ 0x32 →
    exec (.unitFault u code detail tenant) s = .next s) ∧
  (∀ (s : State) (u : UnitId) (tenant : Nat) (detail : List Nat) (b : Block), s.running = true → s.rst.devFault = false → s.unitFitted u = true →
    s.flt.offline.contains u = false → unitBlock u = some b → (∀ l, s.flt.lastUnit.find? (fun l => l.1 == u) = some l → l.2 + 10000000 < s.tim.clock) →
    bits s.rst.blkCtl 15 0 ≠ 0 →
    ∃ t, exec (.unitFault u 0x32 detail tenant) s = .next t ∧ (∃ j ∈ t.rst.blocks, j.block = b) ∧
      (∃ r ∈ t.flt.ring, r.seq = s.flt.seq ∧ r.code = 0x32 ∧ r.cls = 4 ∧ r.unit = u ∧ r.action = 3 ∧ r.detail = detail) ∧
      t.rst = { s.rst with blocks := t.rst.blocks } ∧ t.flt.offline = s.flt.offline) ∧
  (∀ (s : State) (u : UnitId) (tenant : Nat) (detail : List Nat), s.running = true → s.rst.devFault = false → s.unitFitted u = true →
    s.flt.offline.contains u = false → (unitBlock u = none ∨ ∃ l, s.flt.lastUnit.find? (fun l => l.1 == u) = some l ∧ s.tim.clock ≤ l.2 + 10000000) →
    (s.canOffline u = true → u.kind ≠ 10 →
      ∃ t, exec (.unitFault u 0x32 detail tenant) s = .next t ∧ t.flt.offline = s.flt.offline ++ [u] ∧ t.rst.devFault = false ∧
        (∀ j ∈ t.rst.blocks, blockUnit j.block ≠ u) ∧
        (∃ r ∈ t.flt.ring, r.seq = s.flt.seq ∧ r.code = 0x32 ∧ r.cls = 4 ∧ r.unit = u ∧ r.action = 4 ∧ r.detail = detail) ∧
        (∃ r ∈ t.flt.ring, r.code = 0x33 ∧ r.unit = u ∧ r.action = 4)) ∧
    (s.canOffline u = false →
      ∃ t, exec (.unitFault u 0x32 detail tenant) s = .next t ∧ t.rst.devFault = true ∧ t.pins.devReady = false ∧ t.pins.faultN = true ∧
        (s.rst.flush = .none → t.rst.flush = .running) ∧
        (t.flt.ring.take 2).map (fun r => (r.seq, r.code, r.cls, r.unit, r.action, r.detail)) =
          [(s.flt.seq + 1, 0x37, 5, unitDevice, 5, [s.flt.seq.toNat]), (s.flt.seq, 0x32, 4, u, 5, detail)])) ∧
  (∀ (s : State), s.running = true → s.clk.refLost = false → s.rst.devFault = false →
    ∃ t, exec .refLost s = .next t ∧ t.rst.devFault = true ∧ t.pins.devReady = false ∧ t.pins.faultN = true ∧
      (t.flt.ring.take 2).map (fun r => (r.seq, r.code, r.cls, r.unit, r.action, r.detail)) =
        [(s.flt.seq + 1, 0x37, 5, unitDevice, 5, [s.flt.seq.toNat]), (s.flt.seq, 0x36, 5, unitDevice, 5, [])]) ∧
  (∀ (s : State) (u : UnitId) (code tenant : Nat) (detail : List Nat), s.running = true → s.rst.devFault = false → s.unitFitted u = true → code = 0x30 ∨ code = 0x32 →
    s.flt.offline.contains u = false →
    ∃ t, exec (.unitFault u code detail tenant) s = .next t ∧ t.flt.lastUnit.find? (fun l => l.1 == u) = some (u, s.tim.clock) ∧
      t.fuses = s.fuses ∧ t.store = s.store ∧ (code = 0x32 → t.clk = s.clk) ∧ t.sec = { s.sec with spdm := t.sec.spdm } ∧ t.tenants = s.tenants ∧ t.rebuild = s.rebuild ∧
      t.latches = s.latches ∧ t.pending = s.pending) ∧
  (∀ (s : State) (u : UnitId) (code : Nat) (w : Coalesce), s.flt.windows.find? (fun w => w.unit == u && w.code == code) = some w → s.running = true →
    ∃ t, exec (.correctedCoalesceExpiry u code) s = .next t ∧ w.openedAt + 1000000000 ≤ t.tim.clock ∧ w ∉ t.flt.windows ∧
      (∃ r, t.flt.ring.head? = some r ∧ r.code = code ∧ r.unit = u ∧ r.count = w.count ∧ r.time = w.time) ∧
      State.Reports { s with tim := t.tim } t)

/-- REG_READ, COUNTER_LO_READ and GRS_ROM_DATA_READ (R10, R301, R407 to R409): a read answers the register; the low word of a 64-bit counter latches its high word for that accessor alone, and that accessor's next high-word read gives the latched value, whatever the counter does meanwhile; reading ROM data steps WORD, wrapping from 0x7F; a read through a port ends L1 on it; a register command needs no sleeping unit (R353). -/
def Obligations.RegisterReads : Prop :=
  (∀ (s : State) (ses off : Nat), Commanded s ses → off % 4 = 0 → off < 0xE0000 → s.wide off = none → s.latch? .mgmt off = none →
    exec (.regRead ses off) s = .next (s.success [(w32 (s.regNow .mgmt off)).toNat])) ∧
  (∀ (s : State) (ses off v : Nat), Commanded s ses → s.wide off = some v →
    ∃ t, exec (.regRead ses off) s = .next t ∧ t.lastOut = some (.mgmt "Success" none [v % 2 ^ 32]) ∧
      (∀ u : State, u.latches = t.latches → (u.readReg .mgmt (off + 4)).1 = w32 (v / 2 ^ 32)) ∧
      t = { s with latches := t.latches, outs := t.outs }) ∧
  (∀ (s : State) (ses off : Nat), Commanded s ses → (off % 4 ≠ 0 ∨ 0xE0000 ≤ off) →
    exec (.regRead ses off) s = .next (s.refuse (if off % 4 ≠ 0 then .align else .bounds))) ∧
  (∀ (s : State) (p off v : Nat), s.Hosted p → (s.port p).ideRequired = false → s.wide off = some v →
    ∃ t, exec (.counterLoRead (.port p) off none) s = .next t ∧ t.lastOut = some (.value (w32 (v % 2 ^ 32))) ∧
      (∀ u : State, u.latches = t.latches → (u.readReg (.port p) (off + 4)).1 = w32 (v / 2 ^ 32)) ∧
      (∀ who o, (who, o) ≠ (.port p, off + 4) → t.latch? who o = s.latch? who o) ∧
      t = { s.leaveL1 p with latches := t.latches, outs := t.outs }) ∧
  (∀ (s : State) (p : Nat), p < 28 → s.rst.stage = .up → (s.port p).ideRequired = false → (s.port p).d3 = false →
    ∃ t, exec (.grsRomDataRead p none) s = .next t ∧
      t.lastOut = some (.value (w32 (Grist.romWord (bits (s.grs.romSel.get p 0) 10 7) (bits (s.grs.romSel.get p 0) 6 0)))) ∧
      bits (t.grs.romSel.get p 0) 6 0 = (bits (s.grs.romSel.get p 0) 6 0 + 1) % 128 ∧
      bits (t.grs.romSel.get p 0) 10 7 = bits (s.grs.romSel.get p 0) 10 7 ∧
      (∀ q, q ≠ p → t.grs.romSel.get? q = s.grs.romSel.get? q) ∧ t = { s.leaveL1 p with grs := { s.grs with romSel := t.grs.romSel }, outs := t.outs })

/-- REG_WRITE and REGISTER_WRITE (R11, R12, R248, R283, R301, R302, R317, R353, R379, R407, R409): RW fields take the value and reserved bits stay 0; W1C bits clear where a 1 is written; a set LOCK keeps PORT_IDE_CTL; registers that the manual gives as RO do not change; a change of LEND or URG_EN grants the credits that it frees; GRS_ROM_SEL is each function's own; a steep controller's register is written at once, or held while the controller sleeps; the policy registers of KLN_, which the steward writes, stay; base and size of a ring take writes only while it is neither enabled nor busy; in the configuration space BAR0, Memory Space Enable and Device Control take what is written to them. -/
def Obligations.RegisterWrites : Prop :=
  (∀ (s : State) (ses : Nat) (v : Word), Commanded s ses →
    (∃ t, exec (.regWrite ses 0x30004 v) s = .next t ∧ (({ s with pwr := { s.pwr with ctl := v &&& 0xC0FFFFFF } }).success []).Recorded t) ∧
    (∃ t, exec (.regWrite ses 0x30008 v) s = .next t ∧ (({ s with pwr := { s.pwr with cap := v &&& 0x7FF } }).success []).Recorded t) ∧
    (∃ t, exec (.regWrite ses 0x20000 v) s = .next t ∧ (({ s with rst := { s.rst with cause := s.rst.cause &&& ~~~(v.setWidth 5) } }).success []).Recorded t) ∧
    (∃ t, exec (.regWrite ses 0x20008 v) s = .next t ∧ (({ s with rst := { s.rst with blkCtl := v &&& 0xFFFF } }).success []).Recorded t) ∧
    (∃ t, exec (.regWrite ses 0x10004 v) s = .next t ∧ (({ s with clk := { s.clk with lostCore := s.clk.lostCore &&& ~~~(v.setWidth 21) } }).success []).Recorded t) ∧
    (∃ t, exec (.regWrite ses 0x60004 v) s = .next t ∧ (({ s with sec := { s.sec with lock := s.sec.lock || bit v 0 } }).success []).Recorded t) ∧
    (∀ p, p < 28 → ∃ t, exec (.regWrite ses (0xD0004 + 0x40 * p) v) s = .next t ∧
      ((s.setPort p { s.port p with pmCtl := v &&& 0x98FFFFFF }).success []).Recorded t) ∧
    (∀ k, k < 8 → s.steepAway = false → ∃ t, exec (.regWrite ses (0x80000 + 0x100 * k) v) s = .next t ∧
      (({ s with stp := { s.stp with sched := s.stp.sched.set k (v &&& 0x03FF001F) } }).success []).Recorded t) ∧
    (∀ k, k < 8 → s.steepAway = false → ∃ t, exec (.regWrite ses (0x80004 + 0x100 * k) v) s = .next t ∧
      (({ s with stp := { s.stp with pageCtl := s.stp.pageCtl.set k (v &&& 0xFF) } }).success []).Recorded t) ∧
    (∀ o, o < 0x800 → o % 4 = 0 → s.steepAway = true → ∃ t, exec (.regWrite ses (0x80000 + o) v) s = .next t ∧
      (({ s with stp := { s.stp with heldW := s.stp.heldW ++ [(o, v)] } }).success []).Recorded t) ∧
    (∀ o, o < 0x10000 → o % 4 = 0 → exec (.regWrite ses (0x90000 + o) v) s = .next (s.success [])) ∧
    (∃ t, exec (.regWrite ses 0x40010 v) s = .next t ∧ t.tim.nextSec.toNat = v.toNat + s.tim.nextSec.toNat / 2 ^ 32 * 2 ^ 32 ∧
      (({ s with tim := { s.tim with nextSec := t.tim.nextSec } }).success []).Recorded t) ∧
    (∃ t, exec (.regWrite ses 0x40018 v) s = .next t ∧ (({ s with tim := { s.tim with ctl := t.tim.ctl } }).success []).Recorded t ∧
      bits t.tim.ctl 15 0 = bits v 15 0 ∧ bit t.tim.ctl 31 = bit v 31 ∧ bit t.tim.ctl 30 = (bit s.tim.ctl 30 || bit v 30) ∧ bits t.tim.ctl 29 16 = 0) ∧
    exec (.regWrite ses 0x50000 v) s = .next (s.success []) ∧
    (∀ p, p < 28 → s.sec.lock = true → exec (.regWrite ses (0xD0008 + 0x40 * p) v) s = .next (s.success [])) ∧
    (∀ p, p < 28 → s.sec.lock = false → ∃ t, exec (.regWrite ses (0xD0008 + 0x40 * p) v) s = .next t ∧
      ((s.setPort p { s.port p with ideRequired := bit v 0 }).success []).Recorded t) ∧
    (s.Unparked → ∃ t, exec (.regWrite ses 0x70000 v) s = .next t ∧
      ((({ s with qos := { s.qos with ctl := v &&& 3 } } : State).grantAll.serveStarved).success []).Recorded t)) ∧
  (∀ (s : State) (p : Nat) (v : Word), s.live p = true → s.rst.stage = .up → (s.port p).ideRequired = false → (s.port p).d3 = false →
    (∃ t, exec (.registerWrite p 0xA0000 v 15 none) s = .next t ∧ bits (t.grs.romSel.get p 0) 10 0 = bits v 10 0 ∧
      (∀ q, q ≠ p → t.grs.romSel.get? q = s.grs.romSel.get? q) ∧ t = { s.leaveL1 p with grs := { s.grs with romSel := t.grs.romSel } }) ∧
    exec (.registerWrite p 0x30004 v 15 none) s = .next (s.leaveL1 p)) ∧
  (∀ (s : State) (p n r : Nat) (v : Word), s.Reaches p n none → s.live p = true → r < 5 →
    ((s.ring n r).enable = true ∨ (if r = 4 then (s.ring n r).disabling else s.ringBusy n r) = true → ∀ o, o = 0 ∨ o = 4 ∨ o = 8 →
      exec (.registerWrite p (0x02000000 + 0x1000 * n + 0x40 * r + o) v 7 none) s = .next (s.leaveL1 p)) ∧
    ((s.ring n r).enable = false → (if r = 4 then (s.ring n r).disabling else s.ringBusy n r) = false →
      exec (.registerWrite p (0x02000000 + 0x1000 * n + 0x40 * r) v 15 none) s = .next ((s.leaveL1 p).setRing n r { s.ring n r with baseLo := v &&& 0xFFFFF000 }) ∧
      exec (.registerWrite p (0x02000004 + 0x1000 * n + 0x40 * r) v 15 none) s = .next ((s.leaveL1 p).setRing n r { s.ring n r with baseHi := v }) ∧
      exec (.registerWrite p (0x02000008 + 0x1000 * n + 0x40 * r) v 1 none) s = .next ((s.leaveL1 p).setRing n r { s.ring n r with sizeLog2 := bits v 4 0 }))) ∧
  (∀ (s : State) (p : Nat) (v : Word), s.live p = true → (s.port p).flrBusy = false → s.rst.stage = .up →
    (∃ t, exec (.registerWrite p 0x100000010 v 15 none) s = .next t ∧ t.cfgWord p 0x10 = (v &&& 0xFC000000).toNat + 4 ∧
      t = (s.leaveL1 p).setPort p { (s.leaveL1 p).port p with cfg := (t.port p).cfg }) ∧
    (∃ t, exec (.registerWrite p 0x100000004 v 15 none) s = .next t ∧ (t.port p).memSpace = bit v 1 ∧
      t = (s.leaveL1 p).setPort p { (s.leaveL1 p).port p with cfg := (t.port p).cfg, memSpace := bit v 1 }) ∧
    (∃ t, exec (.registerWrite p 0x100000078 v 15 none) s = .next t ∧ t.cfgWord p 0x78 = (v &&& 0x79FF).toNat ∧
      t = (s.leaveL1 p).setPort p { (s.leaveL1 p).port p with
        cfg := (t.port p).cfg, relaxed := bit v 4, mps := 128 * 2 ^ min 2 (bits v 7 5), mrrs := 128 * 2 ^ min 5 (bits v 14 12) }))

/-- The queries of the memory device mailbox and an unsupported opcode (R290, R291, R293, R301): each is answered and changes nothing, but that the port leaves L1 and the device wakes; the opcodes and the order of a payload's words are the model's (log 5). CLEAR_EVENT_RECORDS, SET_EVENT_INTERRUPT_POLICY and SET_TIMESTAMP (R293): the named records leave their log and no other, or, where one is not there, none does; the policy is taken; TIME stays and the function's offset makes its records show the new time. -/
def Obligations.MemoryDeviceMailbox : Prop :=
  (∀ (s : State) (p : Nat) (ide : Option Nat), s.Mailed p ide →
     exec (.identifyMemoryDevice ⟨p, ide⟩) s = .next ((s.atBar p).mailOk p [0, 0, 0, 1]) ∧
     exec (.getDynamicCapacityConfiguration ⟨p, ide⟩) s = .next ((s.atBar p).mailOk p [1, 0, 70368744177664, 2097152]) ∧
     (∃ es, es = s.pool.recs.filter (fun e => s.extPort e.2 == p && e.2.st == .active) ∧ exec (.getDynamicCapacityExtentList ⟨p, ide⟩) s =
       .next ((s.atBar p).mailOk p (es.length :: es.flatMap (fun e => [e.2.dpa, e.2.bytes, e.2.tenant, e.1, e.2.position])))) ∧
     exec (.getSupportedLogs ⟨p, ide⟩) s = .next ((s.atBar p).mailOk p [1, 56]) ∧
     exec (.getLog ⟨p, ide⟩ true) s = .next ((s.atBar p).mailOk p mailboxOpcodes) ∧
     exec (.getLog ⟨p, ide⟩ false) s = .next ((s.atBar p).mailBad p "Invalid Log") ∧
     (∀ log es, log < 5 → es = (s.port p).events.filter (fun e => e.log == log) → exec (.getEventRecords ⟨p, ide⟩ log) s =
       .next ((s.atBar p).mailOk p (b2n ((s.port p).overflow.contains log) :: es.length ::
         es.flatMap (fun e => e.handle :: e.timestamp.toNat :: e.body.length :: e.body)))) ∧
     exec (.getEventInterruptPolicy ⟨p, ide⟩) s = .next ((s.atBar p).mailOk p (s.port p).policy) ∧
     exec (.getHealthInfo ⟨p, ide⟩) s = .next ((s.atBar p).mailOk p [min 100 (bits s.klnWear 15 0 / 100)]) ∧
     exec (.getTimestamp ⟨p, ide⟩) s = .next ((s.atBar p).mailOk p [(s.atBar p).tim.time.toNat]) ∧
     (∀ opcode, exec (.unsupportedMailboxCommand ⟨p, ide⟩ opcode) s = .next ((s.atBar p).mailBad p "Unsupported"))) ∧
  ((∀ (s u : State) (p log : Nat) (hs : List Nat) (ide : Option Nat), s.Mailed p ide → u = s.atBar p → log < 5 →
     (∀ h ∈ hs, ∃ e ∈ (s.port p).events, e.log = log ∧ e.handle = h) →
     ∃ t, exec (.clearEventRecords ⟨p, ide⟩ log hs) s = .next t ∧
       (∀ e, e ∈ (t.port p).events ↔ e ∈ (s.port p).events ∧ ¬ (e.log = log ∧ e.handle ∈ hs)) ∧ log ∉ (t.port p).overflow ∧
       t.lastOut = some (.mailbox p "Success" []) ∧
       t = { u.setPort p { u.port p with events := (t.port p).events, overflow := (t.port p).overflow } with outs := t.outs }) ∧
   (∀ (s : State) (p log : Nat) (hs : List Nat) (ide : Option Nat), s.Mailed p ide → log < 5 →
     (∃ h ∈ hs, ∀ e ∈ (s.port p).events, e.log = log → e.handle ≠ h) →
     exec (.clearEventRecords ⟨p, ide⟩ log hs) s = .next ((s.atBar p).mailBad p "Invalid Handle")) ∧
   (∀ (s u : State) (p a b c d e : Nat) (ide : Option Nat), s.Mailed p ide → u = s.atBar p → a < 256 → b < 256 → c < 256 → d < 256 → e < 256 →
     exec (.setEventInterruptPolicy ⟨p, ide⟩ [a, b, c, d, e]) s = .next ((u.setPort p { u.port p with policy := [a, b, c, d, e] }).mailOk p [])) ∧
   (∀ (s u : State) (p : Nat) (v : DWord) (ide : Option Nat), s.Mailed p ide → u = s.atBar p →
     ∃ t, exec (.setTimestamp ⟨p, ide⟩ v) s = .next t ∧ (t.tim.time.toNat : Int) + (t.port p).tsOffset = v.toNat ∧
       t = { u.setPort p { u.port p with tsOffset := (t.port p).tsOffset } with outs := t.outs }))

/-- ADD_DYNAMIC_CAPACITY_RESPONSE and RELEASE_DYNAMIC_CAPACITY (R178, R180, R182, R184, R291, R435): an accepted offer is ACTIVE with its lease running, a declined one is gone, and with the last record of a group the group and its pages; an answer that lists an extent of which no record is left, or a record is no longer OFFERED, fails with Invalid Input and changes nothing, and one that declines what is no longer OFFERED changes nothing; a release sets an ACTIVE record draining, with its mailboxes disabled, while the operations that run against it go on. EXTENT_ADD and VIEW_BIND (R155, R163, R167, R175 to R180, R291, R435): a request that passes the checks makes the lowest free record OFFERED, with a group that reserves its granules, as the next member of the share group named, or as a view, which reserves nothing; one for which the pool has no room is refused with RESV_EXCEEDS. -/
def Obligations.ExtentOffersAndAnswers : Prop :=
  ((∀ (s : State) (p r : Nat) (e : Ext) (ide : Option Nat), s.Mailed p ide → s.pool.recs.get? r = some e → e.st = .offered → s.extPort e = p → 0 < e.bytes →
     (∀ x ∈ s.touching p e.dpa e.bytes, x.2.st = .offered) →
     ∃ t, exec (.addDynamicCapacityResponse ⟨p, ide⟩ r [⟨e.dpa, e.bytes⟩]) s = .next t ∧
       t.pool.recs.get? r = some { e with st := .active, expiry := t.leaseMs + e.leaseMs } ∧
       (∀ k, k ≠ r → t.pool.recs.get? k = s.pool.recs.get? k) ∧ t.lastOut = some (.mailbox p "Success" []) ∧
       t = { s.atBar p with pool := { s.pool with recs := t.pool.recs }, outs := t.outs }) ∧
   (∀ (s : State) (p r : Nat) (e : Ext) (ide : Option Nat), s.Mailed p ide → s.pool.recs.get? r = some e → e.st = .offered → s.extPort e = p →
     ∃ t, exec (.addDynamicCapacityResponse ⟨p, ide⟩ r []) s = .next t ∧ (s.atBar p).Freed t r e ∧ t.lastOut = some (.mailbox p "Success" []) ∧
       (s.atBar p).SameCore t) ∧
   (∀ (s : State) (p r : Nat) (e : Ext) (x : DcExtent) (ide : Option Nat), s.Mailed p ide → s.pool.recs.get? r = some e → s.touching p x.dpa x.length = [] →
     exec (.addDynamicCapacityResponse ⟨p, ide⟩ r [x]) s = .next ((s.atBar p).mailBad p "Invalid Input")) ∧
   (∀ (s : State) (p r k : Nat) (e f : Ext) (xs : List DcExtent) (ide : Option Nat), s.Mailed p ide → s.pool.recs.get? r = some e →
     (⟨f.dpa, f.bytes⟩ ∈ xs ∧ 0 < f.bytes ∧ s.pool.recs.get? k = some f ∧ s.extPort f = p ∧ f.st ≠ .offered) ∨ (xs ≠ [] ∧ e.st ≠ .offered) →
     exec (.addDynamicCapacityResponse ⟨p, ide⟩ r xs) s = .next ((s.atBar p).mailBad p "Invalid Input")) ∧
   (∀ (s : State) (p r : Nat) (e : Ext) (ide : Option Nat), s.Mailed p ide → s.pool.recs.get? r = some e → s.extPort e = p → e.st ≠ .offered →
     exec (.addDynamicCapacityResponse ⟨p, ide⟩ r []) s = .next ((s.atBar p).mailOk p [])) ∧
   (∀ (s : State) (p r : Nat) (xs : List DcExtent) (ide : Option Nat), s.Mailed p ide → s.pool.recs.get? r = none → xs ≠ [] →
     exec (.addDynamicCapacityResponse ⟨p, ide⟩ r xs) s = .next ((s.atBar p).mailBad p "Invalid Input")) ∧
   (∀ (s : State) (p r : Nat) (e : Ext) (ide : Option Nat), s.Mailed p ide →
     s.pool.recs.find? (fun x => s.extPort x.2 == p && x.2.dpa == e.dpa && x.2.bytes == e.bytes) = some (r, e) →
     s.pool.recs.get? r = some e → e.st = .active →
     ∃ t, exec (.releaseDynamicCapacity ⟨p, ide⟩ e.dpa e.bytes) s = .next t ∧ (s.atBar p).Drains t r e .withdrawn ∧ t.lastOut = some (.mailbox p "Success" []) ∧
       t = { s.atBar p with pool := { s.pool with recs := t.pool.recs }, slots := t.slots, ops := t.ops, outs := t.outs })) ∧
  ((∀ (s : State) (ses tenant partner dpa granules leaseMs r : Nat), Commanded s ses → s.Unparked →
     s.addBounds tenant partner dpa granules leaseMs = none → s.tenantActive tenant = true → (s.part partner).tenant = some tenant →
     s.addBusy partner = false → r = freeKey s.pool.recs →
     (granules * Config.granuleBytes ≤ s.poolFree →
       ∃ t, exec (.extentAdd ses tenant partner dpa granules leaseMs 0xFFFFFFFF) s = .next t ∧
         t.pool = { s.pool with
           recs := s.pool.recs.set r { st := .offered, tenant := tenant, partner := partner, dpa := dpa, granules := granules, leaseMs := leaseMs
                                       since := t.tim.clock, group := s.pool.nextGroup, born := s.pool.nextBorn }
           groups := s.pool.groups.set s.pool.nextGroup { tenant := tenant, granules := granules, creator := r }
           nextGroup := s.pool.nextGroup + 1, nextBorn := s.pool.nextBorn + 1, withdrawn := t.pool.withdrawn } ∧
         t.lastOut = some (.mgmt "Success" none [r]) ∧ t.flt = s.flt ∧ State.Reports { s.awaken with pool := t.pool } t) ∧
     (s.poolFree < granules * Config.granuleBytes →
       exec (.extentAdd ses tenant partner dpa granules leaseMs 0xFFFFFFFF) s = .next (s.awaken.refuse .resvExceeds))) ∧
   (∀ (s : State) (ses tenant partner dpa granules leaseMs share r : Nat) (m : Ext), Commanded s ses → s.Unparked → share < Config.nRecords →
     s.pool.recs.get? share = some m → m.tenant = tenant → m.st = .offered ∨ m.st = .active → m.view = none → m.granules = granules →
     s.addBounds tenant partner dpa granules leaseMs = none → s.tenantActive tenant = true → (s.part partner).tenant = some tenant →
     s.addBusy partner = false → s.groupRecs m.group < 64 → r = freeKey s.pool.recs →
     ∃ t, exec (.extentAdd ses tenant partner dpa granules leaseMs share) s = .next t ∧
       t.pool = { s.pool with
         recs := s.pool.recs.set r { st := .offered, tenant := tenant, partner := partner, dpa := dpa, granules := granules, leaseMs := leaseMs
                                     since := t.tim.clock, group := m.group, position := s.groupRecs m.group, born := s.pool.nextBorn }
         nextBorn := s.pool.nextBorn + 1, withdrawn := t.pool.withdrawn } ∧
       t.lastOut = some (.mgmt "Success" none [r]) ∧ t.flt = s.flt ∧ State.Reports { s.awaken with pool := t.pool } t) ∧
   (∀ (s : State) (ses tenant partner dpa granules leaseMs rec0 off r : Nat) (b : Ext) (h : Grist.BlobHead), Commanded s ses → s.Unparked →
     rec0 < Config.nRecords → off % 64 = 0 → s.pool.recs.get? rec0 = some b → b.tenant = tenant → b.st = .active → b.view = none →
     off + 64 ≤ b.bytes → s.spanForeign (extSpan rec0 b off 64) = false → Grist.blobHead (s.spanBytes (extSpan rec0 b off 64)) = some h → off + h.total ≤ b.bytes →
     (∀ k ∈ Grist.blobTables h.mask, s.tableLoaded tenant k = true) →
     s.addBounds tenant partner dpa granules leaseMs = none → s.tenantActive tenant = true → (s.part partner).tenant = some tenant →
     s.addBusy partner = false → r = freeKey s.pool.recs →
     ∃ t, exec (.viewBind ses tenant partner dpa granules leaseMs rec0 off) s = .next t ∧
       t.pool = { s.pool with
         recs := s.pool.recs.set r { st := .offered, tenant := tenant, partner := partner, dpa := dpa, granules := granules, leaseMs := leaseMs
                                     since := t.tim.clock, group := s.pool.nextGroup, view := some ⟨rec0, off, h.n, h.mask⟩, born := s.pool.nextBorn }
         nextGroup := s.pool.nextGroup + 1, nextBorn := s.pool.nextBorn + 1, withdrawn := t.pool.withdrawn } ∧
       t.lastOut = some (.mgmt "Success" none [r]) ∧ t.flt = s.flt ∧ State.Reports { s.awaken with pool := t.pool } t))

/-- EXTENT_WITHDRAW, LEASE_SET, LEASE_RENEW and EXTENT_QUERY (R178, R179, R180, R182, R186, R435): an OFFERED record goes at once, an ACTIVE one drains with its host told; an ACTIVE record's lease is set or renewed from now, any other is LEASE_EXPIRED; a query reports the record and the time left. LEASE_EXPIRE, OFFER_LAPSE, DRAIN_END and SCRUB_COMPLETE (R126, R178, R180, R182 to R185, R188, R359, R435): a lease that has run out wakes the device and drains its record with cause lease; an offer lapses after its lease; draining ends in SCRUBBING, at once when nothing is in flight; the scrub takes the pages of a group once all its records are SCRUBBING: no move and no written line of theirs is left; its end frees the record, and with the last record of its group the pages, which read as zeros. That each time limit has passed one nanosecond before it acts is the model's (log 9), as is that an offer's lease length passes on the device's clock (log 12). -/
def Obligations.ExtentLifetimes : Prop :=
  ((∀ (s : State) (ses r : Nat) (e : Ext), Commanded s ses → s.Unparked → r < Config.nRecords → s.pool.recs.get? r = some e →
     (e.st = .offered → ∃ t, exec (.extentWithdraw ses r) s = .next t ∧ s.awaken.Freed t r e ∧ t.lastOut = some okOut ∧ s.awaken.SameCore t) ∧
     (e.st = .active → ∃ t, exec (.extentWithdraw ses r) s = .next t ∧
       t.pool.recs = s.pool.recs.set r { e with st := .draining, cause := .withdrawn, since := t.tim.clock } ∧
       t.pool.withdrawn = s.pool.withdrawn ++ [(s.extPort e, e.dpa, e.bytes)] ∧ t.lastOut = some okOut ∧ t.flt = s.flt ∧
       State.Reports { s.awaken with
         pool := { s.pool with recs := t.pool.recs, withdrawn := t.pool.withdrawn }, slots := t.slots
         ops := s.ops.map (fun o => if s.opUses o r then { o with accepted := o.accepted ++ [r] } else o) } t) ∧
     (∀ ms, 1000 ≤ ms → ms ≤ 3600000 → e.st = .active → ∃ t, exec (.leaseSet ses r ms) s = .next t ∧
       (({ s.awaken with pool := { s.pool with recs :=
         (s.pool.recs.set r { e with leaseMs := ms }).set r { e with leaseMs := ms, expiry := s.awaken.leaseMs + ms } } }).success []).Recorded t) ∧
     (∀ ms, 1000 ≤ ms → ms ≤ 3600000 → e.st ≠ .active → exec (.leaseSet ses r ms) s = .next (s.awaken.refuse .leaseExpired)) ∧
     (e.st = .active → ∃ t, exec (.leaseRenew ses r) s = .next t ∧
       (({ s.awaken with pool := { s.pool with recs := s.pool.recs.set r { e with expiry := s.awaken.leaseMs + e.leaseMs } } }).success []).Recorded t) ∧
     (e.st ≠ .active → exec (.leaseRenew ses r) s = .next (s.awaken.refuse .leaseExpired)) ∧
     exec (.extentQuery ses r) s = .next (s.awaken.success [recStateCode e.st, b2n (e.cause == .lease), e.tenant, e.partner, e.dpa, e.granules, e.leaseMs
         , if e.st = .active then e.expiry - s.awaken.leaseMs else 0]))) ∧
  ((∀ (s u : State) (r : Nat) (e : Ext), s.running = true → s.leaseRuns = true → s.pool.recs.get? r = some e → e.st = .active →
     u = ((s.leaseTo e.expiry).advance 1).awaken →
     ∃ t, exec (.leaseExpire r) s = .next t ∧ e.expiry * 1000000 < t.tim.leaseNs ∧ u.Drains t r e .lease ∧
       t = { u with pool := { u.pool with recs := t.pool.recs }, slots := t.slots, ops := t.ops }) ∧
   (∀ (s u : State) (r : Nat) (e : Ext), s.running = true → s.pool.recs.get? r = some e → e.st = .offered →
     u = (s.expire (e.since + e.leaseMs * 1000000)).awaken →
     ∃ t, exec (.offerLapse r) s = .next t ∧ e.since + e.leaseMs * 1000000 < t.tim.clock ∧ u.Freed t r e ∧
       t.lastOut = some (.fm "EXTENT_RELEASED" r) ∧ u.SameCore t) ∧
   (∀ (s : State) (r : Nat) (e : Ext), s.pool.recs.get? r = some e → e.st = .draining → s.inFlight r = false →
     ((∃ k x, k ≠ r ∧ s.pool.recs.get? k = some x ∧ x.group = e.group ∧ x.st ≠ .scrubbing) →
       exec (.drainEnd r) s = .next (s.awaken.setExt r { e with st := .scrubbing })) ∧
     ((∀ k x, k ≠ r → s.pool.recs.get? k = some x → x.group = e.group → x.st = .scrubbing) → s.Unawaited e.group →
       ∃ t, exec (.drainEnd r) s = .next t ∧ t.pool = { s.pool with recs := s.pool.recs.set r { e with st := .scrubbing }, refusedCnt := t.pool.refusedCnt } ∧
         (∀ p ∈ s.groupPages e.group, (s.pages.get? p).isSome = true →
           (∀ l ∈ t.kln.pend, l.page ≠ p) ∧ (∀ m ∈ t.kln.moves, m.page ≠ p) ∧ ∀ w ∈ t.kln.pendWait, w.on p = false) ∧
         s.SameMem t ∧ s.OpsWaited t ∧
         t = { s.awaken with pool := t.pool, pages := t.pages, kln := t.kln, stp := t.stp, ops := t.ops, outs := t.outs })) ∧
   (∀ (s : State) (r : Nat) (e : Ext), s.running = true → s.pool.recs.get? r = some e → e.st = .draining → s.inFlight r = true →
     ∃ t, exec (.drainEnd r) s = .next t ∧ e.since + 1000000 < t.tim.clock ∧ (t.pool.recs.get? r).map (·.st) = some .scrubbing ∧
       (∀ d ∈ t.reads, d.record ≠ r) ∧ t.rst = s.rst ∧ t.sec = s.sec ∧ t.tenants = s.tenants ∧ t.geo = s.geo ∧ t.pending = s.pending) ∧
   (∀ (s : State) (r : Nat) (e : Ext), s.pool.recs.get? r = some e → e.st = .scrubbing →
     ∃ t, exec (.scrubComplete r) s = .next t ∧ s.Freed t r e ∧ t.lastOut = some (.fm "EXTENT_RELEASED" r) ∧ s.SameCore t))

/-- POOL_JOIN, MEMBER_SET, MEMBER_REMOVE, REMOTE_GRANT, REMOTE_REVOKE and POOL_PW_COMMIT (R206, R207, R211 to R213): each changes its one table; a window's shadow copy takes effect whole, bound to the record as it stands, or, where a check fails, not at all, with ERR set. CASK_GRANT and CASK_REVOKE (R197, R435): a grant adds one entry to the owner's cask; a revoke removes the grantee's entries and closes its handles that came by them, while the descriptors that it has started keep the names; a tenant that is being removed is refused ACCESS (R338), and so is an alias that the grantee already uses. -/
def Obligations.SpreadPoolAndGrants : Prop :=
  (∀ (s : State) (ses : Nat), Commanded s ses → s.Unparked →
     (∀ ns member, member ≤ 20479 → s.pool.ns = none → ∃ t, exec (.poolJoin ses ns member) s = .next t ∧
       (({ s.awaken with pool := { s.pool with ns := some (ns, member) } }).success []).Recorded t) ∧
     (∀ member kind pbr port, member ≤ 20479 → kind ≤ 2 → pbr ≤ 4095 → port ≤ 27 → ∃ t, exec (.memberSet ses member kind pbr port) s = .next t ∧
       (({ s.awaken with pool := { s.pool with members := s.pool.members.set member ⟨kind, pbr, port⟩ } }).success []).Recorded t) ∧
     (∀ member m, s.pool.members.get? member = some m → ∃ t, exec (.memberRemove ses member) s = .next t ∧
       (({ s.awaken with pool := { s.pool with members := s.pool.members.erase member } }).success []).Recorded t) ∧
     (∀ member base len tenant rights m, base % 4096 = 0 → len % 4096 = 0 → s.pool.members.get? member = some m →
       s.tenantLeaving tenant = false → s.pool.grants.length < 65536 →
       ∃ t, exec (.remoteGrant ses member base len tenant rights) s = .next t ∧
         (({ s.awaken with pool := { s.pool with grants := s.pool.grants.set (freeKey s.pool.grants) ⟨member, base, len, tenant, rights⟩ } }).success
           [freeKey s.pool.grants]).Recorded t) ∧
     (∀ n g, s.pool.grants.get? n = some g → ∃ t, exec (.remoteRevoke ses n) s = .next t ∧
       (({ s.awaken with pool := { s.pool with grants := s.pool.grants.erase n } }).success []).Recorded t) ∧
     (∀ n (v : Word) (w : Window), n < 64 → bit v 3 = true → w = { s.shadowWin n with ctl := w32 (bits v 2 0) } →
       ∃ t, exec (.poolPwCommit ses n v) s = .next t ∧
         (if s.commitRefused w then
           (({ s with pool := { s.pool with shadow := s.pool.shadow.set n { w with ctl := w32 (bits v 2 0 + 16) } } }).success []).Recorded t
         else
           (({ s with pool := { s.pool with shadow := s.pool.shadow.set n w, act := s.pool.act.set n w, actBorn := t.pool.actBorn } }).success []).Recorded t ∧
           t.pool.actBorn.get? n = (s.pool.recs.get? w.record).map (·.born)))) ∧
  ((∀ (s : State) (ses owner id grantee name minV rights c : Nat) (k : Cask), Commanded s ses → s.Unparked →
     s.tenantLeaving owner = false → s.tenantLeaving grantee = false →
     s.casks.find? (fun c => c.2.tenant == owner && c.2.id == id) = some (c, k) → s.findCask grantee name = none → k.grants.length < 16 →
     ∃ t, exec (.caskGrant ses owner id grantee name minV rights) s = .next t ∧
       (({ s.awaken with casks := s.casks.set c { k with grants := k.grants ++ ([⟨grantee, name, minV, bitN rights 1⟩] : List CaskGrant) } }).success []).Recorded t) ∧
   (∀ (s : State) (ses owner id grantee c : Nat) (k : Cask), Commanded s ses → s.Unparked →
     s.tenantLeaving owner = false → s.tenantLeaving grantee = false →
     s.casks.find? (fun c => c.2.tenant == owner && c.2.id == id) = some (c, k) → (∃ g ∈ k.grants, g.grantee = grantee) →
     ∃ t, exec (.caskRevoke ses owner id grantee) s = .next t ∧ t.lastOut = some okOut ∧
       (∀ k', t.casks.get? c = some k' → k'.grants = k.grants.filter (fun g => g.grantee != grantee)) ∧
       (∀ n h q w, (s.part n).tenant = some grantee → s.handle n h = some q → q.granted = true → s.vers.get? q.ver = some w → w.cask = c →
         t.handle n h = none) ∧
       (∀ o ∈ s.ops, s.opTenant o = grantee → (s.part o.partner).tenant.isSome = true → o.phase = .running → o.begun = false →
         ∃ o' ∈ t.ops, o'.id = o.id ∧ ∀ g ∈ k.grants, g.grantee = grantee → (c, g) ∈ o'.kept) ∧
       t.fuses = s.fuses ∧ t.store = s.store ∧ t.rst = s.rst ∧ t.clk = s.clk ∧ t.sec = s.sec ∧ t.tenants = s.tenants ∧ t.slots = s.slots ∧
       t.geo = s.geo ∧ t.stew = s.stew ∧ t.latches = s.latches ∧ t.pending = s.pending) ∧
   (∀ (s : State) (ses owner id grantee name minV rights : Nat), Commanded s ses → s.Unparked →
     s.tenantLeaving owner = true ∨ s.tenantLeaving grantee = true →
     exec (.caskGrant ses owner id grantee name minV rights) s = .next (s.awaken.refuse .access) ∧
     exec (.caskRevoke ses owner id grantee) s = .next (s.awaken.refuse .access)) ∧
   (∀ (s : State) (ses owner id grantee name minV rights : Nat), Commanded s ses → s.Unparked → (s.findCask grantee name).isSome = true →
     exec (.caskGrant ses owner id grantee name minV rights) s = .next (s.awaken.refuse .access)))

/-- BUS_MASTER_ENABLE_CLEAR and D3HOT_ENTRY (R276, R285): the function may issue no requests, and its fetched descriptors that have not started end, a fenced one with HALTED. BUS_MASTER_ENABLE_SET and D0_RETURN (R276, R285): once the function may issue requests again, everything it held has left, and nothing is held. FLR, FLR_RESET_COMPLETE, PERST and LINK_LOSS (R277, R306, R307): the function's registers return to reset, its partners keep no descriptor and no ring, and FLR's busy time ends; PERST and a lost link take the link down too, with the streams and the SPDM state of the function, and a lost link is counted. -/
def Obligations.FunctionStates : Prop :=
  (∀ (s : State) (p : Nat), p < Config.nPorts → (s.port p).width ≠ 0 → s.OpsDistinct →
     (∃ t, exec (.busMasterEnableClear p) s = .next t ∧ (t.port p).bme = false ∧ (t.port p).d3 = (s.port p).d3 ∧ s.SameCore t ∧
       (∀ id o, s.op? id = some o → o.mailbox = none → (s.part o.partner).port = p → o.phase = .fenced ∨ (o.isSlotCall = true ∧ (o.phase = .waitTurn ∨ o.phase = .turn)) →
         ∃ o', t.op? id = some o' ∧ o'.phase = .finished ∧ (o.phase = .fenced → o'.res.status = .halted)) ∧
       (∀ n k, (s.part n).port = p → t.ring n k = s.ring n k)) ∧
     (∃ t, exec (.d3hotEntry p) s = .next t ∧ (t.port p).d3 = true ∧ (t.port p).bme = (s.port p).bme ∧ s.SameCore t ∧
       (∀ id o, s.op? id = some o → o.mailbox = none → (s.part o.partner).port = p → o.phase = .fenced ∨ (o.isSlotCall = true ∧ (o.phase = .waitTurn ∨ o.phase = .turn)) →
         ∃ o', t.op? id = some o' ∧ o'.phase = .finished ∧ (o.phase = .fenced → o'.res.status = .halted)) ∧
       (∀ n k, (s.part n).port = p → t.ring n k = s.ring n k))) ∧
  ((∀ (s : State) (p : Nat), p < Config.nPorts → (s.port p).width ≠ 0 → (s.port p).d3 = false → (s.port p).flrBusy = false →
     ∃ t, exec (.busMasterEnableSet p) s = .next t ∧ (t.port p).bme = true ∧ (t.port p).held = [] ∧ (∀ m ∈ (s.port p).held, m ∈ t.outs) ∧ s.SameCore t) ∧
   (∀ (s : State) (p : Nat), p < Config.nPorts → (s.port p).width ≠ 0 → (s.port p).d3 = true ∨ (s.port p).flrBusy = true →
     exec (.busMasterEnableSet p) s = .next (s.setPort p { s.port p with bme := true })) ∧
   (∀ (s : State) (p : Nat), p < Config.nPorts → (s.port p).width ≠ 0 → (s.port p).bme = true → (s.port p).flrBusy = false →
     ∃ t, exec (.d0Return p) s = .next t ∧ (t.port p).d3 = false ∧ (t.port p).held = [] ∧ (∀ m ∈ (s.port p).held, m ∈ t.outs) ∧ s.SameCore t) ∧
   (∀ (s : State) (p : Nat), p < Config.nPorts → (s.port p).width ≠ 0 → (s.port p).bme = false ∨ (s.port p).flrBusy = true →
     exec (.d0Return p) s = .next (s.setPort p { s.port p with d3 := false }))) ∧
  ((∀ (s : State) (p : Nat), p < Config.nPorts → (s.port p).width ≠ 0 →
     ∃ t, exec (.flr p) s = .next t ∧ t.port p = { (t.port p).flrReset with flrBusy := true } ∧ (t.port p).width = (s.port p).width ∧ (t.port p).hdm = (s.port p).hdm ∧
       (∀ n ∈ s.partnersOf p, (t.part n).rings = [] ∧ (t.part n).dp.active = false ∧ ∀ o ∈ t.ops, o.mailbox = none → o.partner ≠ n) ∧ s.SameCore t) ∧
   (∀ (s : State) (p : Nat), exec (.flrResetComplete p) s = .next (s.setPort p { s.port p with flrBusy := false })) ∧
   (∀ (s : State) (p : Nat), p < Config.nPorts →
     ∃ t, exec (.perst p) s = .next t ∧ t.port p = { (t.port p).functionReset with width := 0, speed := 0, flit := false, cxl := false, l0pWidth := 0, inL1 := false, flrBusy := false, ide := [], governed := false } ∧
       p ∈ t.pins.perstLow ∧ (t.port p).linkDown = (s.port p).linkDown ∧ (∀ r ∈ t.reads, r.port ≠ p) ∧
       (∀ n ∈ s.partnersOf p, (t.part n).rings = [] ∧ (t.part n).dp.active = false ∧ ∀ o ∈ t.ops, o.mailbox = none → o.partner ≠ n) ∧ State.SameCore { s with sec := { s.sec with spdm := s.sec.spdm.erase p } } t) ∧
   (∀ (s : State) (p : Nat), p < Config.nPorts → (s.port p).width ≠ 0 →
     ∃ t, exec (.linkLoss p) s = .next t ∧ t.port p = { (t.port p).functionReset with width := 0, speed := 0, flit := false, cxl := false, l0pWidth := 0, inL1 := false, flrBusy := false, ide := [], governed := false } ∧
       (t.port p).linkDown = inc32 (s.port p).linkDown ∧ (∀ r ∈ t.reads, r.port ≠ p) ∧
       (∀ n ∈ s.partnersOf p, (t.part n).rings = [] ∧ (t.part n).dp.active = false ∧ ∀ o ∈ t.ops, o.mailbox = none → o.partner ≠ n) ∧ State.SameCore { s with sec := { s.sec with spdm := s.sec.spdm.erase p } } t))

/-- LINK_UP, L0P_ENTRY, L1_ENTRY, L1_EXIT, HDM_DECODER_COMMIT and MSIX_UNMASK (R280 to R282, R285, R287, R289, R301 to R303, R307, R308, R310): a link that may train comes up at full width with its function, and its DOE, in reset; it narrows, sleeps and wakes as its power fields say; a decoder of one way commits, one of more is in error (the codes of its control register are the model's, log 5); an unmasked vector that was pending is sent. UNDECODED_REQUEST, MALFORMED_TLP and IDE_CHECK_FAIL (R280, R286, R304, R310): each leaves its AER report, with an error message for what the function does not mask; the first is answered with Unsupported Request, the last makes its stream insecure. -/
def Obligations.LinksAndErrors : Prop :=
  ((∀ (s : State) (p w speed : Nat) (flit cxl : Bool), p < Config.nPorts → (s.port p).width = 0 → s.mayTrain p speed flit cxl = true →
     1 ≤ w → w ≤ 4 → speed ≤ 6 →
     ∃ t, exec (.linkUp p w speed flit cxl) s = .next t ∧
       t.port p = { (s.port p).functionReset with width := w, speed := speed, flit := flit, cxl := cxl, l0pWidth := w, inL1 := false, flrBusy := false } ∧
       p ∉ t.pins.perstLow ∧ (∀ q, q ≠ p → t.port q = s.port q) ∧ t = { s with ports := t.ports, pins := { s.pins with perstLow := t.pins.perstLow }, sec := { s.sec with spdm := s.sec.spdm.erase p } }) ∧
   (∀ (s : State) (p : Nat), s.running = true → p < Config.nPorts → (s.port p).width ≠ 0 →
     (bit (s.port p).pmCtl 31 = true → (s.port p).l0pLink = true → s.carriesMailbox p = false → s.portIdle p = true →
       ∃ t, exec (.l0pEntry p) s = .next t ∧ t.port p = { s.port p with l0pWidth := min (s.port p).width (l0pMin (s.port p).pmCtl) } ∧
         t.tim = s.tim.advance (max 1 (bits (s.port p).pmCtl 23 16) * 1000) s.leaseRuns ∧ t = { s with tim := t.tim, ports := s.ports.set p (t.port p) }) ∧
     ((s.port p).inL1 = false → s.pwr.state = .standby ∨ s.pwr.state = .parked →
       exec (.l1Entry p) s = .next (s.setPort p { s.port p with inL1 := true })) ∧
     ((s.port p).inL1 = false → s.pwr.state ≠ .standby → s.pwr.state ≠ .parked → (s.port p).aspmL1 = true → bits (s.port p).pmCtl 15 0 ≠ 0 →
       s.carriesMailbox p = false → s.portIdle p = true →
       ∃ t, exec (.l1Entry p) s = .next t ∧ t.tim = s.tim.advance (bits (s.port p).pmCtl 15 0 * 1000) s.leaseRuns ∧
         t = { s with tim := t.tim, ports := s.ports.set p { s.port p with inL1 := true } }) ∧
     ((s.port p).inL1 = true → exec (.l1Exit p) s = .next (s.setPort p { s.port p with inL1 := false }))) ∧
   (∀ (s : State) (p d base size ways : Nat) (ide : Option Nat) (q : Port), s.Mailed p ide → q = (s.leaveL1 p).port p → q.cxl = true → d < 4 →
     (q.hdm.get d {}).committed = false →
     exec (.hdmDecoderCommit ⟨p, ide⟩ d base size ways) s = .next ((s.leaveL1 p).setPort p { q with
       hdm := q.hdm.set d { base := base, size := size, ctl := w32 (0x200 + 16 * waysCode ways), committed := ways == 1, err := ways != 1 } })) ∧
   (∀ (s : State) (p v : Nat) (ide : Option Nat), s.Mailed p ide → v < 2048 → (s.port p).msi = .msix → (s.port p).bme = true →
     bit ((s.port p).cfg.get 0xB0 0) 30 = false → (∀ w ∈ (s.port p).pendingV, (s.port p).entryMasked w = true) →
     ∃ t, exec (.msixUnmask ⟨p, ide⟩ v) s = .next t ∧ (t.port p).entryMasked v = false ∧ (∀ w, w ≠ v → (t.port p).entryMasked w = (s.port p).entryMasked w) ∧
       (t.port p).pendingV = (s.port p).pendingV.filter (· != v) ∧
       t.outs = s.outs ++ ((s.port p).pendingV.filter (· == v)).map (fun w => .irq p w) ∧ t = { s with ports := t.ports, outs := t.outs }) ∧
   (∀ (s : State) (p v n : Nat) (ide : Option Nat), s.Hosted p → v < 2048 → (s.port p).msi = .msi n → 1 ≤ n → n ≤ 32 → (s.port p).bme = true →
     (∀ w ∈ (s.port p).msiPending, (s.port p).messageMasked w = true) →
     ∃ t, exec (.msixUnmask ⟨p, ide⟩ v) s = .next t ∧ (t.port p).messageMasked (v % n) = false ∧
       (t.port p).msiPending = (s.port p).msiPending.filter (· != v % n) ∧
       t.outs = s.outs ++ ((s.port p).msiPending.filter (· == v % n)).map (fun m => .irq p m) ∧ t = { s with ports := t.ports, outs := t.outs })) ∧
  (∀ (s : State) (p : Nat) (q : Port), p < Config.nPorts → q = s.port p → q.width ≠ 0 →
     (∀ what, exec (.undecodedRequest p what) s = .next { s with
       ports := s.ports.set p { q with aer := q.aer ++ q.logged .unsupportedRequest }
       outs := s.outs ++ [.unsupportedRequest p] ++ q.errMessages p .unsupportedRequest }) ∧
     (∀ what e, (what, e) ∈ [(BadTlp.malformed, AerError.malformed), (.flowControl, .flowControl), (.receiverOverflow, .receiverOverflow)] →
       exec (.malformedTlp ⟨p, what⟩) s = .next { s with
         ports := s.ports.set p { q with aer := q.aer ++ q.logged e }, outs := s.outs ++ q.errMessages p e }) ∧
     (∀ stream misrouted e, e = (if misrouted then AerError.ideMisrouted else .ideCheck) →
       ∃ t, exec (.ideCheckFail p ⟨stream, misrouted⟩) s = .next t ∧
         (∀ i, q.ide.get? stream = some i → (t.port p).ide.get? stream = some { i with st := .insecure }) ∧
         (∀ k, k ≠ stream → (t.port p).ide.get? k = q.ide.get? k) ∧
         t = { s with ports := s.ports.set p { q with aer := q.aer ++ q.logged e, ide := (t.port p).ide }, outs := s.outs ++ q.errMessages p e }))

/-- DMA_COMPLETION and DMA_COMPLETION_TIMEOUT (R166, R220, R235, R276, R295, R297, R299, R301, R304, R310): data that returns for a tag goes to the request that holds it, and to that only; a request that is refused, poisoned or late ends a slot call with ACCESS, MEDIA or DEADLINE, and leaves that mark on the request of any other operation, which ends once all its requests are answered; a tag whose operation has ended is free once all its bytes have come; a completion that nobody waits for is reported; one that the port's streams do not admit does nothing. -/
def Obligations.DmaCompletions : Prop :=
  (∀ (s : State) (p tag : Nat) (ide : Option Nat) (o : Op) (r : DmaRead) (bs : List Byte), s.Hears p ide →
    (s.port p).bme = true → (s.port p).d3 = false → s.OpsDistinct → s.tagHolder p tag = some (o, r) → s.op? o.id = some o → r.ack = false → r.stale = false →
    ∃ t, exec (.dmaCompletion ⟨p, ide⟩ tag (.data bs)) s = .next t ∧
      (∃ o', t.op? o.id = some o' ∧ o'.reads.map (·.got) = (o.setRead r { r with got := (r.got ++ bs).take r.len }).reads.map (·.got) ∧ o.Answered o') ∧
      (∀ id q, id ≠ o.id → s.op? id = some q → ∃ q', t.op? id = some q' ∧ q'.reads.map (·.got) = q.reads.map (·.got) ∧ q.Answered q') ∧
      t = { s with ops := t.ops, outs := t.outs, ports := t.ports, kln := { s.kln with stalls := t.kln.stalls } }) ∧
  (∀ (s : State) (p tag n : Nat) (ide : Option Nat) (o : Op) (r : DmaRead) (a : DmaAnswer) (st : Status), s.Hears p ide →
    (s.port p).bme = true → (s.port p).d3 = false → s.OpsDistinct → s.tagHolder p tag = some (o, r) → s.op? o.id = some o → o.phase = .running → r.stale = false →
    ((a = .ur ∨ a = .ca) ∧ n = r.len ∧ st = .access) ∨ (a = .poison n ∧ st = .media) →
    ∃ t, exec (.dmaCompletion ⟨p, ide⟩ tag a) s = .next t ∧ t.RequestFailed o r n st ∧
      (t.port p).aer = (s.port p).aer ++ (if st = .media then (s.port p).logged .poisonedTlp else []) ∧ s.SameCore t) ∧
  (∀ (s : State) (p tag owed n : Nat) (ide : Option Nat) (a : DmaAnswer), s.Hears p ide → s.tagHolder p tag = none →
    (s.port p).retired.get? tag = some owed → n = answerBytes a owed →
    ∃ t, exec (.dmaCompletion ⟨p, ide⟩ tag a) s = .next t ∧ (t.port p).aer = (s.port p).aer ∧
      (n < owed → (t.port p).retired.get? tag = some (owed - n)) ∧ (owed ≤ n → (t.port p).retired.get? tag = none) ∧
      t = { s with ops := t.ops, outs := t.outs, ports := t.ports, kln := { s.kln with stalls := t.kln.stalls } }) ∧
  (∀ (s : State) (p tag : Nat) (ide : Option Nat) (a : DmaAnswer), s.Hears p ide → s.tagHolder p tag = none → (s.port p).retired.get? tag = none →
    exec (.dmaCompletion ⟨p, ide⟩ tag a) s = .next ((s.leaveL1 p).aer p .unexpectedCompletion)) ∧
  (∀ (s : State) (p tag : Nat) (ide : Option Nat) (a : DmaAnswer), p < Config.nPorts → (s.port p).width ≠ 0 → (s.port p).flrBusy = false →
    ((s.port p).drops ide = true → exec (.dmaCompletion ⟨p, ide⟩ tag a) s = .next (s.leaveL1 p)) ∧
    ((s.port p).ideRequired = true → ide = none → ∃ q, q = (s.leaveL1 p).port p ∧
      exec (.dmaCompletion ⟨p, ide⟩ tag a) s = .next ((s.leaveL1 p).setPort p { q with ideRefuse := inc32 q.ideRefuse }))) ∧
  (∀ (s : State) (p tag : Nat) (o : Op) (r : DmaRead), s.running = true → s.OpsDistinct → s.tagHolder p tag = some (o, r) → s.op? o.id = some o →
    o.phase = .running → r.stale = false →
    ∃ t, exec (.dmaCompletionTimeout p tag) s = .next t ∧ r.issuedAt + (s.port p).ctoNs < t.tim.clock ∧ t.RequestFailed o r r.len .deadline ∧
      (t.port p).aer = (s.port p).aer ++ (s.port p).logged .completionTimeout ∧ s.SameCore t)

/-- RING_SQ_DB and RING_CQ_DB (R247, R249, R252 to R254): an index within the ring that moves on is taken as TAIL or HEAD; one past the size, one that moves back, or a HEAD past TAIL is an error with its cause; a doorbell to a ring that is off or in error, or wider than four bytes, is dropped and counted. An access ends L1 on its port and wakes the device (R301, R359). RING_ENABLE, RING_DISABLE_SQ, RING_DISABLE_CQ, CQ_DISABLE_TAKES_EFFECT and IRQ_COALESCE_EXPIRY (R248 to R251, R274): an idle ring of a legal size starts empty, of another it is in error; a submission ring stops at once, the completion ring when the partner's last descriptor has gone; the interrupt that was held back is signalled, with the vector as it stands then (the model's choice, log 14). -/
def Obligations.RingsAreDriven : Prop :=
  (∀ (s : State) (p n : Nat) (ide : Option Nat) (v : Word) (nb i : Nat), s.Reaches p n ide → i = bits v 16 0 →
     (∀ r q, r < 4 → q = s.ring n r →
       (nb ≤ 4 → q.enable = true → q.err = false →
         (q.size ≤ i → exec (.ringSqDb p n r v nb ide) s =
           .next ((s.atBar p).setRing n r { q with err := true, errCause := 2, badTail := inc32 q.badTail })) ∧
         (i = q.tail → i < q.size → exec (.ringSqDb p n r v nb ide) s = .next (s.atBar p)) ∧
         (i < q.size → i ≠ q.tail → (i + q.size - q.head) % q.size < (q.tail + q.size - q.head) % q.size →
           exec (.ringSqDb p n r v nb ide) s = .next ((s.atBar p).setRing n r { q with err := true, errCause := 3, badTail := inc32 q.badTail })) ∧
         (i < q.size → i ≠ q.tail → (q.tail + q.size - q.head) % q.size ≤ (i + q.size - q.head) % q.size →
           exec (.ringSqDb p n r v nb ide) s = .next ((s.atBar p).setRing n r { q with tail := i }))) ∧
       (4 < nb ∨ q.enable = false ∨ q.err = true → exec (.ringSqDb p n r v nb ide) s =
         .next ((s.atBar p).setPart n { s.part n with dbDrops := inc32 (s.part n).dbDrops }))) ∧
     (∀ q, q = s.ring n 4 →
       (nb ≤ 4 → q.enable = true → q.err = false →
         (i < q.size → (i + q.size - q.head) % q.size ≤ (q.tail + q.size - q.head) % q.size →
           exec (.ringCqDb p n v nb ide) s = .next ((s.atBar p).setRing n 4 { q with head := i })) ∧
         (q.size ≤ i ∨ (q.tail + q.size - q.head) % q.size < (i + q.size - q.head) % q.size →
           exec (.ringCqDb p n v nb ide) s = .next ((s.atBar p).setRing n 4 { q with err := true, errCause := 5 }))) ∧
       (4 < nb ∨ q.enable = false ∨ q.err = true → exec (.ringCqDb p n v nb ide) s =
         .next ((s.atBar p).setPart n { s.part n with dbDrops := inc32 (s.part n).dbDrops })))) ∧
  ((∀ (s : State) (p n r : Nat) (ide : Option Nat) (v : Word) (q : Ring), s.Reaches p n ide → q = s.ring n r → q.enable = false →
     (r < 4 ∧ s.ringBusy n r = false) ∨ (r = 4 ∧ q.disabling = false) →
     (6 ≤ bits v 4 0 → bits v 4 0 ≤ 16 → exec (.ringEnable p n r v ide) s = .next ((s.leaveL1 p).setRing n r { q with
       sizeLog2 := bits v 4 0, head := 0, tail := 0, err := false, errCause := 0, phase := decide (r = 4), recFail := false, enable := true })) ∧
     (bits v 4 0 < 6 ∨ 16 < bits v 4 0 → exec (.ringEnable p n r v ide) s = .next ((s.leaveL1 p).setRing n r { q with
       sizeLog2 := bits v 4 0, head := 0, tail := 0, err := true, errCause := 1, phase := decide (r = 4), recFail := false }))) ∧
   (∀ (s : State) (p n : Nat) (ide : Option Nat) (v : Word), s.Reaches p n ide →
     (∀ r q, r < 4 → q = s.ring n r →
       (q.enable = true → exec (.ringDisableSq p n r v ide) s = .next ((s.leaveL1 p).setRing n r { q with enable := false })) ∧
       (q.enable = false → s.ringBusy n r = false → exec (.ringDisableSq p n r v ide) s = .next ((s.leaveL1 p).setRing n r { q with sizeLog2 := bits v 4 0 }))) ∧
     (∀ q, q = s.ring n 4 →
       (q.enable = true → s.descOpsOf n = [] →
         exec (.ringDisableCq p n v ide) s = .next ((s.leaveL1 p).setRing n 4 { q with enable := false, disabling := false })) ∧
       (q.enable = true → s.descOpsOf n ≠ [] → exec (.ringDisableCq p n v ide) s = .next ((s.leaveL1 p).setRing n 4 { q with disabling := true })) ∧
       (q.enable = false → exec (.ringDisableCq p n v ide) s = .next ((s.leaveL1 p).setRing n 4 { q with sizeLog2 := bits v 4 0 })))) ∧
   (∀ (s : State) (n : Nat), (s.ring n 4).disabling = true → s.descOpsOf n = [] →
     exec (.cqDisableTakesEffect n) s = .next (s.setRing n 4 { s.ring n 4 with enable := false, disabling := false })) ∧
   (∀ (s : State) (n due : Nat), s.running = true → (s.part n).coalesce = some due →
     ∃ t u, u = (s.advanceTo due).awaken ∧ exec (.irqCoalesceExpiry n) s = .next t ∧ due ≤ t.tim.clock ∧ t.parts = s.parts.set n { s.part n with coalesce := none } ∧
       ((s.port (s.part n).port).msi = .msix → (s.port (s.part n).port).entryMasked (s.ring n 4).vector = false → s.mayRequest (s.part n).port = true →
         t.outs = s.outs ++ [.irq (s.part n).port (s.ring n 4).vector]) ∧
       t = { u with parts := t.parts, ports := t.ports, outs := t.outs }))

/-- DESCRIPTOR_FETCH (R198, R255 to R258, R263, R265, R295, R140): the descriptor at HEAD is copied into a new entry and HEAD moves on, when the round robin has come to its ring (where it starts after reset is the model's choice, log 11); it starts unless a fence holds it back, and its header is judged then: OPCODE for an unknown opcode, UNSUPPORTED for a reserved bit, else it runs; on the way into PARKED it ends with BUSY. Where the read of partner memory finds no free tag it waits, a regulation wait (R128); a ring in an extent that refuses it, or whose bytes cannot be had, is in error with cause 4 (R259). DESCRIPTOR_READ_FAILED and FENCE_RELEASE (R253, R257, R259, R304): a failed read of partner memory puts the ring in error with cause 4 and the port's report; a fenced descriptor starts once no earlier one is left, unless the flush has begun. -/
def Obligations.DescriptorsAreFetched : Prop :=
  ((∀ (s s1 : State) (n r : Nat) (d : List Word), s.fetchReady n r = true → s.fetchTurn n r = true →
     (s.fetchTag n r = false → ∃ c, exec (.descriptorFetch n r d) s = .next (s.setRing n r { s.ring n r with
       waits := some (c, (((s.ring n r).waits.map (·.2)).getD s.tim.clock)) }) ∧ ((s.ring n r).waits = none → c = .regulation)) ∧
     (s.fetchTag n r = true → s.headWords n r d = (some none, s1) →
       ∃ t, exec (.descriptorFetch n r d) s = .next t ∧ t.ring n r = { s.ring n r with err := true, errCause := 4, waits := none } ∧ t.ops = s1.ops)) ∧
   ∀ (s s1 : State) (n r : Nat) (d ws : List Word), s.fetchReady n r = true → s.fetchTurn n r = true → s.fetchTag n r = true → s.OpsDistinct →
     s.headWords n r d = (some (some ws), s1) →
     ∃ t o, exec (.descriptorFetch n r d) s = .next t ∧ t.op? s.opSeq = some o ∧ t.opSeq = s.opSeq + 1 ∧
       o.dws = ws ∧ o.partner = n ∧ o.ring = r ∧ o.port = (s.part n).port ∧ o.mailbox = none ∧ o.arrival = s.tim.clock ∧
       (t.ring n r) = { s.ring n r with head := ((s.ring n r).head + 1) % (s.ring n r).size, waits := none } ∧
       (s.pwr.state = .entering → o.phase = .finished ∧ o.res.status = .busy) ∧
       (s.pwr.state ≠ .entering → o.isSlotCall = false →
         (if o.fence then (∃ q ∈ s.descOpsOf n, q.ring = r) ∨ (o.opcode = 1 ∧ bit (o.dw 1) 0 = true ∧ s.descOpsOf n ≠ [])
          else ∃ q ∈ s.descOpsOf n, q.ring = r ∧ q.phase = .fenced) → o.phase = .fenced) ∧
       (s.pwr.state ≠ .entering → o.isSlotCall = false →
         (if o.fence then (∀ q ∈ s.descOpsOf n, q.ring ≠ r) ∧ (o.opcode = 1 → bit (o.dw 1) 0 = true → s.descOpsOf n = [])
          else ∀ q ∈ s.descOpsOf n, q.ring = r → q.phase ≠ .fenced) →
         (knownOpcode o.opcode = false → o.phase = .finished ∧ o.res.status = .opcode) ∧
         (knownOpcode o.opcode = true → o.zero 0 15 13 = false → o.phase = .finished ∧ o.res.status = .unsupported) ∧
         (knownOpcode o.opcode = true → o.zero 0 15 13 = true → o.phase = .running ∧
           o.held = o.handleNames.filterMap (fun h => (s.handle n h).map (fun q => (h, q))))) ∧
       (∀ q ∈ s.ops, q.isSlotCall = false → ∃ q' ∈ t.ops, q' = { q with stallNs := q'.stallNs }) ∧
       t.turns = (s.takeFetch n r).turns ∧ t.ringTurns = s.ringTurns.set n r ∧ s.ZerosCounted t ∧
       t = { s with
         pool := t.pool, vers := t.vers, ports := t.ports, turns := t.turns, ringTurns := t.ringTurns, kln := t.kln, pages := t.pages, parts := t.parts, ops := t.ops, opSeq := t.opSeq, slots := t.slots, jrn := t.jrn
         freeCtr := t.freeCtr, stp := t.stp }) ∧
  ((∀ (s : State) (n r : Nat) (why : ReadFail) (q : Ring), s.fetchReady n r = true → s.fetchTurn n r = true → s.fetchTag n r = true → q = s.ring n r →
     s.locate n (q.base + 64 * q.head) = none →
     ∃ t, exec (.descriptorReadFailed n r why) s = .next t ∧ t.parts = (s.setRing n r { q with err := true, errCause := 4, waits := none }).parts ∧
       (t.port (s.part n).port).aer = (s.port (s.part n).port).aer ++ (match why with
         | .poison => (s.port (s.part n).port).logged .poisonedTlp
         | .timeout => (s.port (s.part n).port).logged .completionTimeout
         | .ur => []
         | .ca => []) ∧
       t = { s with
         parts := t.parts, ports := t.ports, outs := t.outs, kln := { s.kln with stalls := t.kln.stalls }
         turns := (s.takeFetch n r).turns, ringTurns := s.ringTurns.set n r }) ∧
   (∀ (s : State) (id : Nat) (o : Op), s.OpsDistinct → s.op? id = some o → o.phase = .fenced → s.mayStart o = true → s.rst.flush = .none →
     ∃ t o', exec (.fenceRelease id) s = .next t ∧ t.op? id = some o' ∧ o'.phase ≠ .fenced ∧ o'.dws = o.dws ∧
       (knownOpcode o.opcode = false → o'.phase = .finished ∧ o'.res.status = .opcode) ∧
       (knownOpcode o.opcode = true → o.zero 0 15 13 = false → o'.phase = .finished ∧ o'.res.status = .unsupported) ∧
       (knownOpcode o.opcode = true → o.zero 0 15 13 = true → o.isSlotCall = false →
         o' = { o with phase := .running, gone := s.takenVersions id, held := o'.held, lent := o'.lent }) ∧
       t = { s with ops := t.ops, slots := t.slots, kln := { s.kln with stalls := t.kln.stalls } }))

/-- DESCRIPTOR_COMPLETE (R74, R268 to R271, R273, R276, R313), once no steep request of the descriptor waits for a credit, and a slot call once the earlier calls of its slot have completed: the record of a finished descriptor goes to the next index of the completion ring, by DMA or into an extent, the index and the phase move on, and the entry is gone; with Bus Master Enable clear it is held; with the ring off, or after a record that could not be written, the descriptor ends without a record and is counted. A descriptor that ends as the last user of a dropped version takes the version with it (R197). RECORD_WRITE_FAILED (R273): the completion ring is in error with cause 5, the descriptor ends without a record, counted, and a fault record 0x0011 names the partner, the ring and the tag. -/
def Obligations.CompletionRecords : Prop :=
  ((∀ (s : State) (id : Nat) (o : Op), s.op? id = some o → s.turnFirst o = false → exec (.descriptorComplete id) s = .next s) ∧
   ∀ (s : State) (id a : Nat) (o : Op) (cq moved : Ring), s.op? id = some o → o.phase = .finished → o.mailbox = none → o.recordHeld = false → s.opHeld id = false →
     s.turnFirst o = true → cq = s.ring o.partner 4 → a = cq.base + 32 * cq.tail →
     moved = { cq with tail := (cq.tail + 1) % cq.size, phase := if (cq.tail + 1) % cq.size = 0 then !cq.phase else cq.phase } →
     (cq.enable = true → cq.recFail = false → s.locate o.partner a = none →
       (s.mayRequest (s.part o.partner).port = true →
         ∃ t, exec (.descriptorComplete id) s = .next t ∧ t.op? id = none ∧ t.ring o.partner 4 = moved ∧
           .record (s.part o.partner).port o.partner a (recordBytes o cq.phase) ∈ t.outs ∧ s.SameCore t ∧
           ((s.part o.partner).dp.consumer ≠ some id → (∀ v ∈ s.vers, v.2.st ≠ .dropping) → s.SameMem t ∧ t.pages = s.pages)) ∧
       (s.mayRequest (s.part o.partner).port = false →
         exec (.descriptorComplete id) s = .next { s with ops := s.ops.filter (fun q => q.id != id) ++ [{ o with recordHeld := true }] })) ∧
     (∀ r e off, cq.enable = true → cq.recFail = false → s.locate o.partner a = some (r, e, off) → e.refusal = none → s.viewGuard r = false →
       (∀ p ∈ s.spanPages (extSpan r e off 32), s.trouble p = none) → s.spanRoom (extSpan r e off 32) = true →
       ∃ t, exec (.descriptorComplete id) s = .next t ∧ t.op? id = none ∧ t.ring o.partner 4 = moved ∧ s.SameCore t ∧
         ((s.part o.partner).dp.consumer ≠ some id → (∀ v ∈ s.vers, v.2.st ≠ .dropping) → s.OnlyStored t (extSpan r e off 32) ∧
           (s.Framed (extSpan r e off 32) → t.spanBytes (extSpan r e off 32) = recordBytes o cq.phase))) ∧
     (cq.enable = false ∨ cq.recFail = true →
       ∃ t, exec (.descriptorComplete id) s = .next t ∧ t.op? id = none ∧ t.ring o.partner 4 = cq ∧
         (t.part o.partner).norec = inc32 (s.part o.partner).norec ∧ s.SameCore t ∧
         ((s.part o.partner).dp.consumer ≠ some id → (∀ v ∈ s.vers, v.2.st ≠ .dropping) → s.SameMem t ∧ t.pages = s.pages))) ∧
  (∀ (s : State) (id : Nat) (o : Op), s.op? id = some o → o.phase = .finished → o.mailbox = none →
     ∃ t, exec (.recordWriteFailed id) s = .next t ∧ t.op? id = none ∧
       t.ring o.partner 4 = { s.ring o.partner 4 with err := true, errCause := 5, recFail := true } ∧ (t.part o.partner).norec = inc32 (s.part o.partner).norec ∧
       (∃ r ∈ t.flt.ring, r.code = 0x11 ∧ r.cls = 3 ∧ r.action = 2 ∧ r.tenant = s.opTenant o ∧ r.seq = s.flt.seq ∧ r.detail = [o.partner, o.ring, o.tag]) ∧ s.SameCore t ∧
       ((s.part o.partner).dp.consumer ≠ some id → (∀ v ∈ s.vers, v.2.st ≠ .dropping) → s.SameMem t ∧ t.pages = s.pages))

/-- NOP_FENCE, JOURNAL_MARK and HEARTBEAT (R187, R191, R265, R266): the fence, once started (R257, R265), ends when no buffered line of the partner is left; a mark becomes the next journal record, whose index is its result; a heartbeat renews its record, or all the partner's, and counts the lapsed ones. -/
def Obligations.FenceMarkAndHeartbeat : Prop :=
  (∀ (s : State) (id : Nat) (o : Op), s.Runs id 0x01 o → o.zero 1 31 1 = true → o.zeroFrom 2 = true →
    (∀ p ∈ s.ports, ∀ l ∈ p.2.wcb, l.1 ≠ o.partner) →
    exec (.nopFence id) s = .next (s.finish o {})) ∧
  (∀ (s : State) (id : Nat) (o : Op), s.Runs id 0x7E o → o.zeroFrom 4 = true →
    ∃ t, exec (.journalMark id) s = .next t ∧ t = { s with ops := t.ops, jrn := t.jrn, freeCtr := t.freeCtr, stp := t.stp, kln := { s.kln with stalls := t.kln.stalls } } ∧
      (s.recording = false → t.Ended id {}) ∧
      (∀ body, body = leBytes (4 * o.partner + o.ring) 4 ++ leBytes (o.dw 1).toNat 4 ++ leBytes (o.q 2) 8 ++ leBytes s.tim.time.toNat 8 →
        s.recording = true → Config.jrnBehind s.freeCtr = false → s.jrn.gap = 0 → jrnUsed (s.jrn.recs ++ [⟨s.jrn.next, 0x05, body⟩]) ≤ s.jrn.cap →
        t.Ended id { dw1 := 1, dw23 := s.jrn.next } ∧ t.jrn.recs = s.jrn.recs ++ [⟨s.jrn.next, 0x05, body⟩])) ∧
  (∀ (s : State) (id r : Nat) (o : Op) (e : Ext), s.Runs id 0x02 o → o.zero 1 31 19 = true → o.zeroFrom 2 = true → bit (o.dw 1) 18 = true →
    r = bits (o.dw 1) 17 0 → s.pool.recs.get? r = some e → e.partner = o.partner →
    (e.st = .active → ∃ t, exec (.heartbeat id) s = .next t ∧ t.Ended id { dw1 := 1, dw23 := t.earliest o.partner } ∧
      t = { s with pool := { s.pool with recs := s.pool.recs.set r { e with expiry := s.leaseMs + e.leaseMs } }, ops := t.ops, kln := { s.kln with stalls := t.kln.stalls } }) ∧
    (e.st ≠ .active → ∃ t, exec (.heartbeat id) s = .next t ∧
      t.Ended id { status := .leaseExpired, dw1 := b2n e.lapsed * 65536, dw23 := s.earliest o.partner } ∧
      t = { s with ops := t.ops, kln := { s.kln with stalls := t.kln.stalls } })) ∧
  (∀ (s : State) (id : Nat) (o : Op), s.Runs id 0x02 o → o.zero 1 31 19 = true → o.zeroFrom 2 = true → bit (o.dw 1) 18 = false → bits (o.dw 1) 17 0 = 0 →
    (s.pool.recs.map (·.1)).Nodup →
    ∃ t, exec (.heartbeat id) s = .next t ∧
      t.Ended id { dw1 := (s.pool.recs.filter (fun e => e.2.partner == o.partner && e.2.st == .active)).length
                          + (s.pool.recs.filter (fun e => e.2.partner == o.partner && e.2.lapsed)).length * 65536
                   dw23 := t.earliest o.partner } ∧
      (∀ r e, s.pool.recs.get? r = some e → t.pool.recs.get? r =
        some (if e.partner = o.partner ∧ e.st = .active then { e with expiry := s.leaseMs + e.leaseMs } else e)) ∧
      t = { s with pool := { s.pool with recs := t.pool.recs }, ops := t.ops, kln := { s.kln with stalls := t.kln.stalls } })

/-- CASK_OPEN (R199, R203): a reader takes the lowest free handle on the committed version named, or on the latest; a writer opens the next version of the cask, whose pages are those of its base; MODE 2 with CREATE makes the cask. -/
def Obligations.CasksOpen : Prop :=
  (∀ (s : State) (id h c : Nat) (o : Op) (k : Cask) (g : Option CaskGrant) (v : Nat) (w : Ver), s.Runs id 0x20 o →
    o.zero 1 31 2 = true → bits (o.dw 1) 1 0 = 0 → o.q 2 ≠ 0 → o.q 6 = 0 → o.zeroFrom 8 = true →
    s.findCask (s.opTenant o) (o.q 2) = some (c, k, g) → s.committedVer c (o.q 4) = some (v, w) → (∀ x, g = some x → x.minVersion ≤ w.seq) →
    freeHandle (s.part o.partner) = some h → s.handleCount < 65536 →
    ∃ t, exec (.caskOpen id) s = .next t ∧ t.Ended id { dw1 := h, dw23 := w.seq } ∧
      t.parts = s.parts.set o.partner { s.part o.partner with
        handles := (s.part o.partner).handles.set h { ver := v, writer := false, granted := g.isSome } } ∧
      t = { s with parts := t.parts, ops := t.ops, kln := { s.kln with stalls := t.kln.stalls } }) ∧
  (∀ (s : State) (id h c size : Nat) (o : Op) (k : Cask) (v : Nat) (w : Ver), s.Runs id 0x20 o →
    o.zero 1 31 2 = true → bits (o.dw 1) 1 0 = 1 → o.q 2 ≠ 0 → size = o.q 6 → o.zeroFrom 8 = true → size % 65536 = 0 →
    size = 0 ∨ (w.size ≤ size ∧ size ≤ sixteenTib) → s.findCask (s.opTenant o) (o.q 2) = some (c, k, none) → s.casks.get? c = some k →
    s.committedVer c (o.q 4) = some (v, w) → s.vers.get? v = some w → k.lastSeq < 0xFFFFFFFF → (s.versionsOf c).length < 64 →
    freeHandle (s.part o.partner) = some h → s.handleCount < 65536 →
    ∃ t, exec (.caskOpen id) s = .next t ∧ t.Ended id { dw1 := h, dw23 := k.lastSeq + 1 } ∧
      t.vers = s.vers.set s.nextVer { cask := c, seq := k.lastSeq + 1, size := if size = 0 then w.size else size, base := some v, pages := w.pages } ∧
      t.casks = s.casks.set c { k with lastSeq := k.lastSeq + 1 } ∧ t.handle o.partner h = some { ver := s.nextVer, writer := true } ∧
      t = { s with parts := t.parts, ops := t.ops, casks := t.casks, vers := t.vers, nextVer := s.nextVer + 1, kln := { s.kln with stalls := t.kln.stalls } }) ∧
  (∀ (s : State) (id h size : Nat) (o : Op), s.Runs id 0x20 o →
    o.zero 1 31 3 = true → bits (o.dw 1) 1 0 = 2 → bit (o.dw 1) 2 = true → o.q 2 ≠ 0 → o.q 4 = 0 → size = o.q 6 → o.zeroFrom 8 = true →
    size % 65536 = 0 → size ≤ sixteenTib → s.findCask (s.opTenant o) (o.q 2) = none → s.casks.length < Config.nCasks →
    freeHandle (s.part o.partner) = some h → s.handleCount < 65536 →
    ∃ t, exec (.caskOpen id) s = .next t ∧ t.Ended id { dw1 := h, dw23 := 1 } ∧
      t.casks.get? s.nextCask = some { tenant := s.opTenant o, id := o.q 2, lastSeq := 1 } ∧
      t.vers = s.vers.set s.nextVer { cask := s.nextCask, seq := 1, size := if size = 0 then sixteenTib else size } ∧
      t.handle o.partner h = some { ver := s.nextVer, writer := true } ∧
      t = { s with parts := t.parts, ops := t.ops, casks := t.casks, nextCask := s.nextCask + 1, vers := t.vers, nextVer := s.nextVer + 1, kln := { s.kln with stalls := t.kln.stalls } })

/-- CASK_COMMIT, JOURNAL_COMMIT_DONE and KILN_SPACE_TIMEOUT (R134, R135, R198, R200): a commit without DURABLE publishes the version at once and closes its handle; a durable one waits in COMMITTING until its record is on the journal; one that finds no kiln space for 10 ms ends BUSY with the version OPEN; IF_LATEST with another base ends VERSION_CONFLICT. CASK_CLOSE and CASK_DROP (R198, R201, R202): closing a reader of a version that is not DROPPING keeps the version, closing a writer discards it, and a drop, while no running operation waits for pages, frees a version that no handle and no started descriptor holds and lets one that is held wait in DROPPING. -/
def Obligations.CasksCommitCloseAndDrop : Prop :=
  ((∀ (s : State) (id h : Nat) (o : Op) (q : Handle) (w : Ver), s.Runs id 0x21 o → o.zero 1 31 2 = true → o.zero 2 31 10 = true → o.zeroFrom 3 = true →
     h = bits (o.dw 2) 9 0 → s.handleOf o h = some q → s.handle o.partner h = some q → o.gone.contains q.ver = false →
     q.writer = true → s.vers.get? q.ver = some w → w.st = .open → s.earlierNames q.ver id = false →
     (bit (o.dw 1) 1 = true → w.base = (s.latest w.cask).map (·.1)) →
     (bit (o.dw 1) 0 = false →
       ∃ t, exec (.caskCommit id) s = .next t ∧ t.Ended id { dw23 := w.seq } ∧
         t.vers = s.vers.set q.ver { w with st := .committed, journaled := false, commitOp := none } ∧ t.handle o.partner h = none ∧
         t = { s with parts := t.parts, ops := t.ops, vers := t.vers, kln := { s.kln with stalls := t.kln.stalls } }) ∧
     (bit (o.dw 1) 0 = true → s.versionBad q.ver = false →
       ∃ t, exec (.caskCommit id) s = .next t ∧ t.vers = s.vers.set q.ver { w with st := .committing, commitOp := some id } ∧
         (∃ o', t.op? id = some o' ∧ o'.phase = .running ∧ o'.commitAt = some (o.commitAt.getD s.tim.clock)) ∧
         t = { s with kln := { s.kln with moves := t.kln.moves, staged := t.kln.staged, stalls := t.kln.stalls }, stp := t.stp, pages := t.pages, ops := t.ops, vers := t.vers })) ∧
   (∀ (s : State) (id h : Nat) (o : Op) (q : Handle) (w : Ver), s.Runs id 0x21 o → o.zero 1 31 2 = true → o.zero 2 31 10 = true → o.zeroFrom 3 = true →
     h = bits (o.dw 2) 9 0 → s.handleOf o h = some q → s.handle o.partner h = some q → o.gone.contains q.ver = false →
     q.writer = true → s.vers.get? q.ver = some w → w.st = .open → s.earlierNames q.ver id = false →
     bit (o.dw 1) 1 = true → w.base ≠ (s.latest w.cask).map (·.1) →
     ∃ t, exec (.caskCommit id) s = .next t ∧ t.Ended id { status := .versionConflict } ∧ t.vers = s.vers.set q.ver { w with st := .open, commitOp := none } ∧
       t.handle o.partner h = some q ∧ t = { s with kln := { s.kln with staged := t.kln.staged, stalls := t.kln.stalls }, ops := t.ops, vers := t.vers }) ∧
   (∀ (s : State) (id v : Nat) (o : Op) (w : Ver), s.Runs id 0x21 o →
     s.vers.find? (fun x => x.2.commitOp == some id && x.2.st == .committing) = some (v, w) → s.vers.get? v = some w → s.kln.staged.contains (.commit v) = true →
     ∃ t, exec (.journalCommitDone id) s = .next t ∧ t.Ended id { dw23 := w.seq, journaled := true } ∧
       t.vers = s.vers.set v { w with st := .committed, journaled := true, commitOp := none } ∧ t.kln.staged = s.kln.staged.filter (· != .commit v) ∧
       s.kln.writtenBytes ≤ t.kln.writtenBytes ∧ t.handle o.partner (bits (o.dw 2) 9 0) = none ∧ s.SameCore t ∧ s.SameMem t ∧ t.pages = s.pages) ∧
   (∀ (s : State) (id v since : Nat) (o : Op) (w : Ver), s.running = true → s.op? id = some o → o.phase = .running → o.commitAt = some since →
     s.vers.find? (fun x => x.2.commitOp == some id && x.2.st == .committing) = some (v, w) → s.vers.get? v = some w →
     (∃ q ∈ w.pages, ∃ p, s.pages.get? q.2 = some p ∧ s.spaceless p = true) →
     ∃ t, exec (.kilnSpaceTimeout id) s = .next t ∧ since + 10000000 < t.tim.clock ∧ t.Ended id { status := .busy } ∧
       t.vers = s.vers.set v { w with st := .open, commitOp := none } ∧
       t = { s with tim := t.tim, kln := { s.kln with staged := t.kln.staged, stalls := t.kln.stalls }, vers := t.vers, ops := t.ops })) ∧
  ((∀ (s : State) (id h : Nat) (o : Op) (q : Handle), s.Runs id 0x22 o → o.dw 1 = 0 → o.zero 2 31 10 = true → o.zeroFrom 3 = true →
     h = bits (o.dw 2) 9 0 → s.handleOf o h = some q → s.handle o.partner h = some q → o.gone.contains q.ver = false →
     (q.writer = false → (∀ w, s.vers.get? q.ver = some w → w.st ≠ .dropping) →
       ∃ t, exec (.caskClose id) s = .next t ∧ t.Ended id { dw1 := 0 } ∧ t.parts = s.parts.set o.partner { s.part o.partner with
         handles := (s.part o.partner).handles.erase h } ∧
         t = { s with parts := t.parts, ops := t.ops, kln := { s.kln with stalls := t.kln.stalls } }) ∧
     (q.writer = true → (∀ p ∈ s.ops, p.phase = .running → p.waits = []) →
       ∃ t, exec (.caskClose id) s = .next t ∧ t.Ended id { dw1 := 1 } ∧ t.handle o.partner h = none ∧ t.vers = s.vers.erase q.ver ∧
         (∀ pid, (t.pages.get? pid).isSome → t.pages.get? pid = s.pages.get? pid) ∧ s.SameCore t)) ∧
   (∀ (s : State) (id c : Nat) (o : Op) (k : Cask) (v : Nat) (w : Ver), s.Runs id 0x23 o → o.dw 1 = 0 → o.zeroFrom 6 = true → o.q 2 ≠ 0 → o.q 4 ≠ 0 →
     s.findCask (s.opTenant o) (o.q 2) = some (c, k, none) → (s.versionsOf c).find? (fun x => x.2.seq == o.q 4) = some (v, w) →
     s.vers.get? v = some w → w.st = .committed →
     (0 < s.handlesOn v ∨ s.versionUsed v = true → ∃ t, exec (.caskDrop id) s = .next t ∧
       t.Ended id { dw1 := b2n (decide (0 < s.handlesOn v)), journaled := w.journaled } ∧
       t.vers = s.vers.set v { w with st := .dropping } ∧ s.SameCore t ∧ s.SameMem t ∧ t.pages = s.pages ∧ t.casks = s.casks ∧ t.parts = s.parts) ∧
     (s.handlesOn v = 0 → s.versionUsed v = false → (∀ p ∈ s.ops, p.phase = .running → p.waits = []) → ∃ t, exec (.caskDrop id) s = .next t ∧ t.Ended id { dw1 := 0, journaled := w.journaled } ∧
       t.vers.get? v = none ∧ s.SameCore t ∧ t.parts = s.parts)))

/-- PAGE_HINT, PIN and UNPIN (R113, R114, R117 to R120): WILLNEED queues a steeping of each page in kiln, DONTNEED sets the counters to 0, CLEAN starts the records that are not current; a pin counts every page of the range, ends when all are resident, queues those in kiln and waits for them, and one past its quota is refused whole; an unpin counts down the pinned ones. -/
def Obligations.HintsAndPins : Prop :=
  (∀ (s : State) (id : Nat) (o : Op) (r : List (Backing × Nat)), s.Runs id 0x30 o → o.dw 8 ≠ 0 → o.hinted = none → s.hintRange o = .inr r →
    (bits (o.dw 1) 3 2 = 0 → ∃ t n, exec (.pageHint id) s = .next t ∧ t.Ended id { dw1 := n } ∧
      t.kln.moves.length = s.kln.moves.length + n ∧ t.kln.moves.take s.kln.moves.length = s.kln.moves ∧
      (∀ m ∈ t.kln.moves.drop s.kln.moves.length, m.kind = .willneed ∧ m.cls = o.runClass ∧ m.page ∈ s.hintPages r ∧
        ∃ p, s.pages.get? m.page = some p ∧ p.st = .kiln) ∧
      (∀ pid ∈ s.hintPages r, ∀ p, s.pages.get? pid = some p → p.st = .kiln → s.recordStatus p = none → ∃ m ∈ t.kln.moves, m.page = pid ∧ m.kind = .willneed) ∧
      t = { s with kln := { s.kln with moves := t.kln.moves, stalls := t.kln.stalls }, ops := t.ops }) ∧
    (bits (o.dw 1) 3 2 = 1 → ∃ t n, exec (.pageHint id) s = .next t ∧ t.Ended id { dw1 := n } ∧ n ≤ (s.hintPages r).length ∧
      (∀ pid p, s.pages.get? pid = some p → t.pages.get? pid =
        some (if pid ∈ s.hintPages r ∧ s.counted p = true ∧ p.overflow = false then { p with ctr := 0 } else p)) ∧
      t = { s with pages := t.pages, ops := t.ops, kln := { s.kln with stalls := t.kln.stalls } }) ∧
    (bits (o.dw 1) 3 2 = 2 → (∀ pid ∈ s.hintPages r, ∀ p, s.pages.get? pid = some p → p.tileBad = false) →
      ∃ t o', exec (.pageHint id) s = .next t ∧ t.op? id = some o' ∧ (o'.phase = .finished ∨ (o'.phase = .running ∧ o'.waits ≠ [])) ∧
        (∀ pid p, s.pages.get? pid = some p → p.st = .dirty → p.copying = false → s.lockOpen p = true → s.halfRoom (p.stack / 4) = true → pid ∈ s.hintPages r →
          ∃ p', t.pages.get? pid = some p' ∧ p' = { p with st := .kilnKeep false, moveCls := o.runClass, coding := p'.coding }) ∧
        (∀ pid, pid ∉ s.hintPages r → t.pages.get? pid = s.pages.get? pid) ∧
        t = { s with pages := t.pages, kln := { s.kln with moves := t.kln.moves, stalls := t.kln.stalls }, stp := t.stp, ops := t.ops })) ∧
  (∀ (s : State) (id : Nat) (o : Op) (r : List (Backing × Nat)) (pids : List Nat), s.Runs id 0x31 o → o.dw 8 ≠ 0 → o.hinted = none →
    s.hintRange o = .inr r → (∀ q ∈ r, (s.pageAt q.1 q.2).isSome = true) → pids = s.hintPages r →
    (s.pinRefused (s.opTenant o) pids = true → ∃ t, exec (.pin id) s = .next t ∧ t.Ended id { status := .resvExceeds } ∧
      t = { s with ops := t.ops, kln := { s.kln with stalls := t.kln.stalls } }) ∧
    (s.pinRefused (s.opTenant o) pids = false → (∀ pid ∈ pids, s.troubleOf o pid = none ∧ ∃ p, s.pages.get? pid = some p ∧ p.st.framed = true ∧ p.copying = false) →
      ∃ t n, exec (.pin id) s = .next t ∧ t.Ended id { dw1 := n } ∧ n ≤ pids.length ∧
        ((∀ pid ∈ pids, ∀ p, s.pages.get? pid = some p → p.pins < 65535) → n = pids.length) ∧
        (∀ pid p, s.pages.get? pid = some p → pid ∈ pids → t.pages.get? pid = some { p with
          pins := min 65535 (p.pins + 1), pinBy := if p.pins = 0 then s.opTenant o else p.pinBy, pinCls := if p.pins = 0 then o.runClass else p.pinCls
          st := if p.st = .kilnEvict then .kilnKeep false else p.st }) ∧
        (∀ pid, pid ∉ pids → t.pages.get? pid = s.pages.get? pid) ∧
        t = { s with pages := t.pages, kln := { s.kln with moves := t.kln.moves, stalls := t.kln.stalls }, ops := t.ops }) ∧
    (s.pinRefused (s.opTenant o) pids = false → pids ≠ [] → (∀ pid ∈ pids, s.troubleOf o pid = none ∧ ∃ p, s.pages.get? pid = some p ∧ p.st = .kiln) →
      ∃ t o', exec (.pin id) s = .next t ∧ t.op? id = some o' ∧ o'.phase = .running ∧ o'.waits = pids ∧ o'.hinted = some pids ∧
        (∀ pid p, s.pages.get? pid = some p → pid ∈ pids → t.pages.get? pid = some { p with
          pins := min 65535 (p.pins + 1), pinBy := if p.pins = 0 then s.opTenant o else p.pinBy
          pinCls := if p.pins = 0 then o.runClass else p.pinCls }) ∧
        (∀ pid ∈ pids, ∃ m ∈ t.kln.moves, m.page = pid ∧ m.kind = .pin) ∧
        (∀ pid, pid ∉ pids → t.pages.get? pid = s.pages.get? pid) ∧
        t = { s with pages := t.pages, kln := { s.kln with moves := t.kln.moves }, ops := t.ops })) ∧
  (∀ (s : State) (id : Nat) (o : Op) (r : List (Backing × Nat)), s.Runs id 0x32 o → o.dw 8 ≠ 0 → s.hintRange o = .inr r →
    ∃ t n, exec (.unpin id) s = .next t ∧ t.Ended id { dw1 := n } ∧ n ≤ (s.hintPages r).length ∧
      (∀ pid p, s.pages.get? pid = some p → t.pages.get? pid = some (if pid ∈ s.hintPages r then { p with pins := p.pins - 1 } else p)) ∧
      t = { s with pages := t.pages, ops := t.ops, kln := { s.kln with stalls := t.kln.stalls } })

/-- STEEPING_DONE and KILNING_DONE (R111, R125, R127, R132, R171, R172, R174), while nothing else waits on the page, no durable commit runs and the device does not enter PARKED: a steeped page is CLEAN, or DIRTY with the lines that waited for it; the first failure of its record sends it back to KILN, the second marks it failed and raises 0x0010; a kilned page has a record and leaves its frame, stays CLEAN, or stays DIRTY if it was written meanwhile; a media failure queues it again; a tile that fails its CRC fails a steeping, and on a page that was to be kilned the tile and the page stay marked, as on one whose frame cannot be read (the model's choice, log 23); a record whose header fails its CRC, or of KIND 3, fails too. -/
def Obligations.MovesEnd : Prop :=
  (∀ (s : State) (pid : Nat) (p : Page) (q : Record), s.pages.get? pid = some p → p.record = some q → deadRecord q.image = true →
    exec (.steepingDone pid .ok) s = exec (.steepingDone pid .corrupt) s) ∧
  (∀ (s : State) (pid : Nat) (p : Page), s.pages.get? pid = some p → p.st = .steeping → (∀ o ∈ s.ops, pid ∉ o.waits) → (∀ r ∈ s.reads, pid ∉ r.pages) →
    (∀ v ∈ s.vers, v.2.st ≠ .committing) → s.pwr.state ≠ .entering → (∀ q ∈ s.parts, q.2.dp.active = false) →
    (∀ q, p.record = some q → deadRecord q.image = false) →
    (s.tilesRight pid = true → s.lined pid = false →
      ∃ t, exec (.steepingDone pid .ok) s = .next t ∧ t.pages = s.pages.set pid { p with st := .clean, failedOnce := false } ∧ s.SameMem t ∧
        s.SameControl t ∧ t.jrn = s.jrn) ∧
    (s.tilesRight pid = true → s.lined pid = true →
      ∃ t, exec (.steepingDone pid .ok) s = .next t ∧ t.pages = s.pages.set pid { p with st := .dirty, record := none, failedOnce := false } ∧
        t.lined pid = false ∧ (∀ l, s.kln.pend.filter (fun x => x.page == pid) = [l] → t.mem.slice (pageAddr pid l.off) l.data.length = l.data) ∧
        (∀ l, l ∈ t.kln.pend ↔ l ∈ s.kln.pend ∧ l.page ≠ pid) ∧ s.SameControl t ∧ t.jrn = s.jrn) ∧
    (s.tilesRight pid = false → exec (.steepingDone pid .ok) s = exec (.steepingDone pid .tileCrc) s) ∧
    (∀ res, res ≠ .ok → s.lined pid = false →
      (p.failedOnce = false → ∃ t, exec (.steepingDone pid res) s = .next t ∧
        t.pages = s.pages.set pid { p with st := .kiln, failedOnce := true, failed := none } ∧ s.SameMem t ∧ s.SameControl t) ∧
      (p.failedOnce = true → ∃ t, exec (.steepingDone pid res) s = .next t ∧
        t.pages = s.pages.set pid { p with st := .kiln, failedOnce := true, failed := steepStatus res } ∧
        (∃ r, t.flt.ring.head? = some r ∧ r.code = 0x10 ∧ r.seq = s.flt.seq ∧ r.tenant = p.tenant) ∧ s.SameMem t ∧ s.SameCore t))) ∧
  (∀ (s : State) (pid : Nat) (p : Page) (rec0 : Record) (s1 : State), s.pages.get? pid = some p → (∀ v ∈ s.vers, v.2.st ≠ .committing) →
    s.pwr.state ≠ .entering → s.tilesRight pid = true → p.frameBad = false → s.writeRecord pid p = some (rec0, s1) →
    (p.st = .kilnEvict → ∃ t q, exec (.kilningDone pid .ok) s = .next t ∧ t.pages.get? pid = some q ∧ q.st = .kiln ∧ q.record = some rec0 ∧ s.SameMem t ∧ s.SameCore t) ∧
    (p.st = .kilnKeep false → ∃ t q, exec (.kilningDone pid .ok) s = .next t ∧ t.pages.get? pid = some q ∧ q.st = .clean ∧ q.record = some rec0 ∧ s.SameMem t ∧ s.SameCore t) ∧
    (p.st = .kilnKeep true → ∃ t q, exec (.kilningDone pid .ok) s = .next t ∧ t.pages.get? pid = some q ∧ q.st = .dirty ∧ q.record = none ∧ s.SameMem t ∧ s.SameCore t)) ∧
  (∀ (s : State) (pid : Nat) (p : Page), s.pages.get? pid = some p → p.st = .kilnEvict ∨ p.st = .kilnKeep false ∨ p.st = .kilnKeep true →
    (∃ t m, exec (.kilningDone pid .media) s = .next t ∧ t.pages = s.pages.set pid { p with st := .dirty, coding := [] } ∧ m ∈ t.kln.moves ∧ m.page = pid ∧
      m.kind = (if p.st = .kilnEvict then .evict else .clean) ∧ s.SameMem t ∧ s.SameControl t) ∧
    (∃ t, exec (.kilningDone pid .tileCrc) s = .next t ∧ t.pages = s.pages.set pid { p with st := .dirty, tileBad := true, coding := [] } ∧ s.SameCore t ∧ t.mem = s.mem ∧
      t.tilesRight pid = false ∧ (s.tilesRight pid = false → t.tags = s.tags) ∧
      (∃ r, t.flt.ring.head? = some r ∧ r.code = 0x10 ∧ r.seq = s.flt.seq)) ∧
    (s.tilesRight pid = false ∨ p.frameBad = true → exec (.kilningDone pid .ok) s = exec (.kilningDone pid .tileCrc) s))

/-- PAGE_MOVE_START, EVICTION_START, COUNTER_HALVE, FETCH_DEADLINE and COLLECTION (R110, R112, R113, R122, R125, R130, R133, R158): a queued steeping takes the lock and a frame, at the lowest class of those that asked for it; an eviction chooses a page that may leave, the lowest counter first; every counter is halved at its tick but those of pins past a limit, those of pages that nothing has written too; a late steeping serves its waiters by the deadline path; collection leaves every byte as it was. COW_COPY_DONE and PENDING_TABLE_ROOM (R123, R124): a copy that has ended, and that no host's read waits on, lets its page be used; a write of one piece that waited for room goes into the frame of its page, or into the table of a page in kiln, where a reader finds its bytes, and is acknowledged. -/
def Obligations.TieringActs : Prop :=
  ((∀ (s : State) (pid : Nat) (p : Page) (m : Move), s.kln.moves.find? (fun m => m.page == pid) = some m → s.pages.get? pid = some p → s.movesRun = true →
     s.moveHeld p = false → s.lockOpen p = true → (∀ x ∈ s.kln.moves, x.page = pid → s.deferred x = false) → p.st = .kiln → p.copying = false → (s.recordStatus p).isNone = true → 0 < s.framesFree p.stack →
     (∀ x ∈ s.kln.moves, x.page = pid → x.kind = .demand ∨ x.kind = .willneed ∨ x.kind = .pin) →
     ∃ t q, exec (.pageMoveStart pid) s = .next t ∧ t.pages = s.pages.set pid q ∧
       q = { p with st := .steeping, frame := q.frame, fetchAt := q.fetchAt, moveCls := q.moveCls } ∧ q.frame ∉ s.frameNos p.stack ∧ (m.kind = .demand → q.fetchAt = m.since) ∧
       (∀ x ∈ s.kln.moves, x.page = pid → q.moveCls ≤ x.cls) ∧ (∃ x ∈ s.kln.moves, x.page = pid ∧ q.moveCls = x.cls) ∧
       (∀ x, x ∈ t.kln.moves ↔ x ∈ s.kln.moves ∧ x.page ≠ pid) ∧ s.OpsWaited t ∧
       t = { s with pages := t.pages, kln := { s.kln with moves := t.kln.moves, stalls := t.kln.stalls }, stp := t.stp, ops := t.ops }) ∧
   (∀ (s : State) (half : Nat), half < 2 → s.movesRun = true → s.halfFree half < s.lowFrames →
     ∃ t, exec (.evictionStart half none) s = .next t ∧
       (∀ pid p, s.pages.get? pid = some p → ∃ p', t.pages.get? pid = some p' ∧ (p' = p ∨ (p.st = .clean ∧ p' = { p with st := .kiln }))) ∧
       (half ∈ t.kln.evicting ↔ t.halfFree half < t.highFrames) ∧
       t = { s with pages := t.pages, kln := { s.kln with moves := t.kln.moves, evicting := t.kln.evicting } }) ∧
   (∀ (s : State) (half k v : Nat) (p : Page), half < 2 → s.movesRun = true → (s.pages.map (·.1)).Nodup → k / 4 = half →
     s.framesFree k + s.evictions [k] < s.framesAsked k → s.victim [k] = some v → s.pages.get? v = some p →
     (∀ e ∈ s.pages, s.evictable [k] e = true → p.ctr ≤ e.2.ctr) ∧ s.pinned v = false ∧ p.stack = k ∧
       ∃ t, exec (.evictionStart half (some k)) s = .next t ∧
         (p.st = .clean → t = s.setPage v { p with st := .kiln }) ∧
         (p.st = .dirty → t = { s with kln := { s.kln with moves := s.kln.moves ++ [⟨v, .evict, 0, s.tim.clock⟩] } })) ∧
   (∀ (s : State), bits s.kln.tierCtl 15 0 ≠ 0 → s.rst.stage = .up → s.pwr.state ≠ .parked →
     ∃ t, exec .counterHalve s = .next t ∧ t.tim.clock % (bits s.kln.tierCtl 15 0 * 1000000) = 0 ∧ s.tim.clock < t.tim.clock ∧
       t.pages = s.pages.map (fun e => (e.1, if e.2.overflow then e.2 else { e.2 with ctr := e.2.ctr / 2 })) ∧
       (∀ g q, s.pool.groups.get? g = some q → ∃ q', t.pool.groups.get? g = some q' ∧ ∀ i, q'.zeroCtr.get i 0 = q.zeroCtr.get i 0 / 2) ∧
       (∀ v w, s.vers.get? v = some w → ∃ w', t.vers.get? v = some w' ∧ ∀ i, w'.zeroCtr.get i 0 = w.zeroCtr.get i 0 / 2) ∧
       s.ZerosCounted t ∧ t = { s with tim := t.tim, pages := t.pages, pool := t.pool, vers := t.vers }) ∧
   (∀ (s : State) (pid : Nat) (p : Page), s.running = true → s.OpsDistinct → s.pages.get? pid = some p → p.st = .steeping → bits s.kln.fetchDl 15 0 ≠ 0 →
     s.rst.phase = .bringup ∨ s.rst.phase = .test ∨ s.rst.phase = .rebuild → s.tilesRight pid = true →
     (∀ q, p.record = some q → deadRecord q.image = false) →
     ∃ t, exec (.fetchDeadline ⟨pid, .ok⟩) s = .next t ∧ p.fetchAt + bits s.kln.fetchDl 15 0 * 1000 < t.tim.clock ∧ t.kln.dlpathCnt = inc32 s.kln.dlpathCnt ∧
       (∀ id o, s.op? id = some o → o.phase = .running → pid ∈ o.waits → ∃ o', t.op? id = some o' ∧ o'.dlPath = true) ∧
       (∀ r ∈ t.reads, pid ∉ r.pages) ∧ t.rst = s.rst ∧ t.sec = s.sec ∧ t.tenants = s.tenants ∧ t.geo = s.geo ∧ t.pending = s.pending) ∧
   (∀ (s : State) (k : Nat), s.movesRun = true → s.kilnPresent k = true →
     ∃ t, exec (.collection k) s = .next t ∧ s.SameMem t ∧ s.SameCore t ∧ s.OpsWaited t ∧ t.pool = s.pool ∧ t.vers = s.vers ∧
       (∀ pid, (t.pages.get? pid).isSome = (s.pages.get? pid).isSome) ∧
       (bits s.kln.gcCtl 7 0 * 32768 ≤ s.freeSegs k * 100 → bits s.kln.gcCtl 15 8 ≤ bits s.kln.gcCtl 7 0 → (∀ e ∈ s.pages, s.retiringUse e.2 = false) →
         (∀ r ∈ s.grs.tables, r.st = .loaded) → (∀ v ∈ s.vers, v.2.st ≠ .committing) → s.pwr.state ≠ .entering → t = s))) ∧
  ((∀ (s : State) (pid : Nat) (p : Page), s.pages.get? pid = some p → p.copying = true → (∀ r ∈ s.reads, pid ∉ r.pages) →
     (∀ v ∈ s.vers, v.2.st ≠ .committing) → s.pwr.state ≠ .entering → (∀ q ∈ s.parts, q.2.dp.active = false) →
     ∃ t, exec (.cowCopyDone pid) s = .next t ∧ t.pages = s.pages.set pid { p with copying := false, copyFrom := none } ∧
       (∀ id o, s.op? id = some o → ∃ o', t.op? id = some o' ∧
         o' = { o with waits := o.waits.filter (· != pid), stalled := o'.stalled, stallNs := o'.stallNs }) ∧
       t = { s with pages := t.pages, ops := t.ops, kln := { s.kln with stalls := t.kln.stalls } }) ∧
   (∀ (s : State) (w : WaitWrite) (pid off : Nat) (bs : List Byte) (p : Page), s.kln.pendWait = [w] → w.pieces = [(pid, off, bs)] → s.pages.get? pid = some p →
     s.trouble pid = none → off + bs.length ≤ 65536 →
     (p.st.framed = true → ∃ t, exec .pendingTableRoom s = .next t ∧ t.kln.pendWait = [] ∧ t.mem.slice (pageAddr pid off) bs.length = bs ∧
       (∀ a, a < pageAddr pid off ∨ pageAddr pid off + bs.length ≤ a → t.mem.read a = s.mem.read a) ∧
       (∀ pbr, w.peer = some pbr → t.outs = s.outs ++ [.peerDone pbr]) ∧ (w.peer = none → t.outs = s.outs ++ [.cxlDone w.port]) ∧ s.tim.Passed t.tim ∧
       t = { s with kln := t.kln, pages := t.pages, mem := t.mem, tags := t.tags, outs := t.outs, grs := t.grs, stp := t.stp, ops := t.ops, tim := t.tim, freeCtr := t.freeCtr }) ∧
     (p.st = .kiln → s.fullFor w 0 = false → s.fullFor w 1 = false → bs ≠ [] →
       ∃ t, exec .pendingTableRoom s = .next t ∧ t.kln.pendWait = [] ∧ t.mem = s.mem ∧ t.lined pid = true ∧ t.pageBytes pid off bs.length = bs ∧
         t.kln.pend.take s.kln.pend.length = s.kln.pend ∧
         (∀ pbr, w.peer = some pbr → t.outs = s.outs ++ [.peerDone pbr]) ∧ (w.peer = none → t.outs = s.outs ++ [.cxlDone w.port]) ∧
         t = { s with kln := t.kln, pages := t.pages, outs := t.outs, grs := t.grs, stp := t.stp, ops := t.ops, freeCtr := t.freeCtr })))

/-- COPY and FILL (R219 to R225, R235): with the checks passed, the source at hand and the target ready, the bytes reach the target, in device memory or by requests to partner memory, and nothing else in memory changes; the result is LEN; the input hash of COPY's journal record is that of the source. -/
def Obligations.CopyAndFillMoveBytes : Prop :=
  (∀ (s : State) (id len : Nat) (o : Op) (bs : List Byte) (fa fd : Found), s.Runs id 0x10 o → len = (o.dw 6).toNat → len ≠ 0 →
    o.zero 1 31 28 = true → o.zero 1 15 12 = true → o.zeroFrom 7 = true →
    (o.srcNamed (o.q 2) len).reserved = false → (o.dstNamed (o.q 4) len true).reserved = false →
    fa = s.find o (o.srcNamed (o.q 2) len) → fd = s.find o (o.dstNamed (o.q 4) len true) → fa.place.isDma = false ∨ fd.place.isDma = false →
    foundStatus [fa, fd] = none → s.Input o 0 fa.place bs → s.Takes o fd.place bs.length →
    ∃ t, exec (.copy id) s = .next t ∧ t.Ended id { dw1 := len } ∧ s.Lands t o fd.place bs ∧ s.SameControl t ∧
      (fd.place.isDma = false → t.ports = s.ports) ∧ t.jrn = (s.inputHash o bs).jrn) ∧
  (∀ (s : State) (id len : Nat) (o : Op) (fd : Found), s.Runs id 0x11 o → len = (o.dw 6).toNat → len ≠ 0 →
    o.zero 1 31 12 = true → o.zeroFrom 7 = true → (o.dstNamed (o.q 2) len true).reserved = false →
    fd = s.find o (o.dstNamed (o.q 2) len true) → foundStatus [fd] = none → s.Takes o fd.place len →
    ∃ t, exec (.fill id) s = .next t ∧ t.Ended id { dw1 := len } ∧
      s.Lands t o fd.place ((List.range len).map (fun i => BitVec.ofNat 8 (o.q 4 / 2 ^ (8 * (i % 8))))) ∧ s.SameControl t ∧
      (fd.place.isDma = false → t.ports = s.ports) ∧ t.jrn = s.jrn) ∧
  (∀ (s : State) (id : Nat) (o : Op), s.Runs id 0x10 o → o.dw 6 = 0 → exec (.copy id) s = .next (s.finish o {})) ∧
  (∀ (s : State) (id : Nat) (o : Op), s.Runs id 0x11 o → o.dw 6 = 0 → exec (.fill id) s = .next (s.finish o {}))

/-- COMPARE and its MODE 1, compare and swap (R226 to R228, R235): a comparison reports the lowest offset that differs, or all ones, and writes nothing; a swap stores the new value just when the eight bytes hold the expected one, and reports the old value; the input hash is that of the bytes read. REDUCE (R229 to R235): a collapse folds the source to one value and writes nothing; otherwise each element of the target becomes the operation's result on the pair, NaN operands counted; the input hash is that of target, then source. -/
def Obligations.CompareAndReduce : Prop :=
  ((∀ (s : State) (id len : Nat) (o : Op) (xs ys : List Byte) (fa fb : Found), s.Runs id 0x12 o → bits (o.dw 1) 31 30 = 0 → len = (o.dw 6).toNat → len ≠ 0 →
     o.zero 1 29 28 = true → o.zero 1 15 12 = true → o.zeroFrom 7 = true →
     (o.srcNamed (o.q 2) len).reserved = false → (o.dstNamed (o.q 4) len false).reserved = false →
     fa = s.find o (o.srcNamed (o.q 2) len) → fb = s.find o (o.dstNamed (o.q 4) len false) → foundStatus [fa, fb] = none →
     s.Input o 0 fa.place xs → s.Input o 1 fb.place ys →
     ∃ t, exec (.compare id) s = .next t ∧ t.Ended id (match firstDiff xs ys with
         | some i => { dw1 := 1, dw23 := i }
         | none => { dw1 := 0, dw23 := 2 ^ 64 - 1 }) ∧
       s.SameMem t ∧ s.SameControl t ∧ t.ports = s.ports ∧ t.jrn = (s.inputHash o (xs ++ ys)).jrn ∧ t.outs = s.outs) ∧
   (∀ (s : State) (id : Nat) (o : Op), s.Runs id 0x12 o → 1 < bits (o.dw 1) 31 30 → o.dw 6 ≠ 0 → exec (.compare id) s = .next (s.fail o .unsupported)) ∧
   (∀ (s : State) (id : Nat) (o : Op) (bs : List Byte) (fb : Found), s.Runs id 0x12 o → bits (o.dw 1) 31 30 = 1 → o.dw 6 = 8 →
     o.zero 1 29 12 = true → o.q 2 = 0 → o.dw 7 = 0 → o.zeroFrom 12 = true → (o.dstNamed (o.q 4) 8 true).reserved = false → o.q 4 % 8 = 0 →
     fb = s.find o (o.dstNamed (o.q 4) 8 true) → foundStatus [fb] = none → fb.place.isDma = false → s.Input o 0 fb.place bs → s.Takes o fb.place 8 →
     (leNat bs = o.q 8 → ∃ t, exec (.compareAndSwap id) s = .next t ∧ t.Ended id { dw1 := 1, dw23 := leNat bs } ∧
       s.Lands t o fb.place (leBytes (o.q 10) 8) ∧ s.SameControl t ∧ t.jrn = (s.inputHash o bs).jrn) ∧
     (leNat bs ≠ o.q 8 → ∃ t, exec (.compareAndSwap id) s = .next t ∧ t.Ended id { dw1 := 0, dw23 := leNat bs } ∧
       s.SameMem t ∧ s.SameControl t ∧ t.outs = s.outs))) ∧
  (∀ (s : State) (id len n fn : Nat) (o : Op) (sf df : Float.Fmt) (fa fd : Found), s.Runs id 0x13 o → len = (o.dw 6).toNat → len ≠ 0 →
     typeOf (bits (o.dw 7) 10 8) = some sf → typeOf (bits (o.dw 7) 2 0) = some df → fn = bits (o.dw 7) 18 16 →
     o.zero 1 31 28 = true → o.zero 1 15 12 = true → o.zero 7 31 20 = true → o.zero 7 15 11 = true → o.zero 7 7 3 = true → o.zeroFrom 10 = true →
     (o.srcNamed (o.q 2) (n * sf.size)).reserved = false → o.q 2 % sf.size = 0 → fa = s.find o (o.srcNamed (o.q 2) (n * sf.size)) →
     (∀ bs, bit (o.dw 7) 19 = true → fn < 3 → o.dw 8 = 0 → o.dw 9 = 0 → o.zero 1 11 0 = true → o.q 4 = 0 → o.zero 7 2 0 = true →
       n = len / sf.size → len % sf.size = 0 → foundStatus [fa] = none → s.Input o 0 fa.place bs →
       ∃ t, exec (.reduce id) s = .next t ∧
         t.Ended id (if sf = .int32 then { dw23 := collapseInt fn (elems sf bs) }
           else { dw1 := sat32 (collapseFloat fn sf (elems sf bs)).1, dw23 := (collapseFloat fn sf (elems sf bs)).2 }) ∧
         s.SameMem t ∧ s.SameControl t ∧ t.ports = s.ports ∧ t.jrn = (s.inputHash o bs).jrn ∧ t.outs = s.outs) ∧
     (∀ ds ss out, bit (o.dw 7) 19 = false → fn ≤ 3 → (fn ≠ 3 → o.dw 8 = 0 ∧ o.dw 9 = 0) → (fn = 3 → sf ≠ .int32 → badScale (o.dw 8) = false ∧ badScale (o.dw 9) = false) →
       (sf = .int32 ↔ df = .int32) → n = len / df.size → len % df.size = 0 → o.q 4 % df.size = 0 → (o.dstNamed (o.q 4) len true).reserved = false →
       fd = s.find o (o.dstNamed (o.q 4) len true) → overlaps fa.place fd.place = false → foundStatus [fa, fd] = none →
       s.Input o 1 fd.place ds → s.Input o 0 fa.place ss →
       out = (List.zip (elems df ds) (elems sf ss)).flatMap (fun p =>
         if sf = .int32 then leBytes (intElement fn (o.dw 8).toInt (o.dw 9).toInt p.1 p.2) 4
         else leBytes ((floatElement fn (o.dw 8) (o.dw 9) df sf p.1 p.2).getD (Float.canonicalNan df)) df.size) →
       s.Takes o fd.place out.length →
       ∃ t, exec (.reduce id) s = .next t ∧
         (∃ nan, nan = ((List.zip (elems df ds) (elems sf ss)).filter (fun p => (floatElement fn (o.dw 8) (o.dw 9) df sf p.1 p.2).isNone)).length ∧
           t.Ended id { dw1 := if sf = .int32 then 0 else sat32 nan }) ∧
         s.Lands t o fd.place out ∧ s.SameControl t ∧ (fd.place.isDma = false → t.ports = s.ports) ∧ t.jrn = (s.inputHash o (ds ++ ss)).jrn))

/-- LOAD_GRIST (R163, R164, R166, R171): once the blob's bytes are at hand, in device memory, in a grist view or as the reads of partner memory brought them, and every block named expands, the tiles reach the target, in device memory, in partner memory or in the data port's session, with the count of raw and coded blocks. STORE_GRIST (R165, R166): the source's tiles, from device memory, a grist view, partner memory or the data port, become the blob of their blocks, coded with the table named or raw, which reaches the target; the result is its length and the counts. -/
def Obligations.GristExpandsAndCodes : Prop :=
  (∀ (s : State) (id len src dst first nb raw lo : Nat) (o : Op) (h : Grist.BlobHead) (b : BlobSource) (a : Option (Nat × Ext × Nat)) (out : List Byte), s.Runs id 0x14 o →
     len = (o.dw 5).toNat → len ≠ 0 → len % 4096 = 0 → nb = len / 4096 → src = o.q 2 → src % 64 = 0 → dst = o.q 6 → first = (o.dw 4).toNat →
     o.zero 1 30 0 = true → o.zeroFrom 8 = true → s.addrRange o src false = .inr a →
     (s.loadSource o a first 0).bad 0 64 = none → Grist.blobHead ((s.loadSource o a first 0).read 0 64) = some h →
     (a.isSome = true → pastEnd a src 64 = false ∧
       s.AtHand o (s.loadAsks o a ((0, 64) :: ((List.range nb).map (first + ·)).flatMap (blockParts (s.loadSource o a first 0).read h)))) →
     (a = none → ∀ k, k < 3 → (∃ q ∈ o.reads, q.part = k) ∧ o.partDone k = true) →
     lo = (if a.isSome then 0 else (blockBounds (s.loadSource o a first 0).read h first).1) → b = s.loadSource o a first lo →
     first + nb ≤ h.n → pastEnd a src h.total = false → s.tablesMissing o (s.opTenant o) (Grist.blobTables h.mask) = false →
     (∀ i, i < nb → ∃ p, s.blockOf b h (s.opTenant o) (first + i) = .inr p) →
     out = (List.range nb).flatMap (fun i => match s.blockOf b h (s.opTenant o) (first + i) with
       | .inr p => p.2
       | .inl _ => []) →
     raw = ((List.range nb).filter (fun i => match s.blockOf b h (s.opTenant o) (first + i) with
       | .inr p => p.1
       | .inl _ => false)).length →
     (∀ d pl, bit (o.dw 1) 31 = false → dst % 64 = 0 → s.addrRange o dst true = .inr d → pastEnd d dst len = false →
       pl = (match d with
         | some (r, e, off) => Place.dev (extSpan r e off len)
         | none => .dma dst len) → s.Takes o pl out.length →
       ∃ t, exec (.loadGrist id) s = .next t ∧ t.Ended id { dw1 := len, dw23 := raw + (nb - raw) * 2 ^ 32 } ∧ s.Lands t o pl out ∧ s.SameControl t) ∧
     (bit (o.dw 1) 31 = true → s.streamOf o true len = none →
       ((s.part o.partner).dp.pos ≠ len → (s.part o.partner).dp.waiting = [] → ∃ t, exec (.loadGrist id) s = .next t ∧
         t.parts = s.parts.set o.partner { s.part o.partner with dp := { (s.part o.partner).dp with buf := out, done := len } } ∧ s.SameCore t ∧ s.SameMem t) ∧
       ((s.part o.partner).dp.pos = len → ∃ t, exec (.loadGrist id) s = .next t ∧
         t.Ended id { dw1 := len, dw23 := raw + (nb - raw) * 2 ^ 32 } ∧ s.SameControl t ∧ s.SameMem t))) ∧
  (∀ (s : State) (id len n slot dst worst : Nat) (o : Op) (bs out : List Byte) (blocks : List Grist.Block) (d : Option (Nat × Ext × Nat)) (pl : Place),
     s.Runs id 0x15 o → len = (o.dw 4).toNat → len ≠ 0 → len % 4096 = 0 → n = len / 4096 → slot = bits (o.dw 1) 15 8 → dst = o.q 5 → dst % 64 = 0 →
     o.zero 1 30 16 = true → o.zero 1 7 6 = true → o.zero 1 3 0 = true → o.zeroFrom 8 = true → worst = Grist.up16 (64 + 4 * n) + 4112 * n →
     worst ≤ (o.dw 7).toNat → s.tablesMissing o (s.opTenant o) [slot] = false → s.addrRange o dst true = .inr d → pastEnd d dst worst = false →
     (if bit (o.dw 1) 31 then s.streamOf o false len = none ∧ bs = (s.part o.partner).dp.buf ∧ len ≤ bs.length
       else o.q 2 % 64 = 0 ∧ ∃ a, s.addrRange o (o.q 2) false = .inr a ∧ pastEnd a (o.q 2) len = false ∧
         s.Input o 0 (placeAt a (o.q 2) len) bs) →
     blocks = (List.range n).map (fun i => Grist.encode ((bs.drop (4096 * i)).take 4096) (bits (o.dw 1) 5 4) slot ((s.tableOf (s.opTenant o) slot).getD [])) →
     out = Grist.blob blocks →
     pl = (match d with
       | some (r, e, off) => Place.dev (extSpan r e off worst)
       | none => .dma dst worst) → s.Takes o pl out.length →
     ∃ t raw, exec (.storeGrist id) s = .next t ∧ raw = (blocks.filter (fun b => b.mode == 0)).length ∧
       t.Ended id { dw1 := out.length % 2 ^ 32, dw23 := raw + (n - raw) * 2 ^ 32 } ∧ s.Lands t o pl out ∧ s.SameControl t)

/-- TABLE_LOAD and TABLE_RETIRE (R151 to R153, R155, R156, R159): a valid image of 528 bytes becomes the tenant's table at a free slot, with a record in the kiln journal; an image whose CRC fails, or with illegal lengths, leaves no table; a retired table stays while it is referred to, and its references are the result. PEER_READ and PEER_WRITE (R206 to R209): under a remote grant with the right, the member's bytes that have arrived go into the local range, and the bytes of a local range, or of a view, go out through the member's port, each request under the member's PBR ID; the write ends when every request has been acknowledged. -/
def Obligations.TablesAndPeerTransfers : Prop :=
  ((∀ (s : State) (id slot : Nat) (o : Op) (a : Option (Nat × Ext × Nat)) (img : List Byte), s.Runs id 0x50 o → (o.dw 4).toNat = 528 →
     o.zero 1 31 8 = true → o.zeroFrom 5 = true → slot = bits (o.dw 1) 7 0 → 16 ≤ slot → o.q 2 % 64 = 0 → s.addrRange o (o.q 2) false = .inr a →
     pastEnd a (o.q 2) 528 = false → s.tableRec (s.opTenant o) slot = none →
     s.Input o 0 (placeAt a (o.q 2) 528) img →
     (Grist.imageOk img = true → Grist.tableValid (Grist.imageTable img) = true → s.grs.tables.length < 16384 →
       ∃ t, exec (.tableLoad id) s = .next t ∧ t.Ended id {} ∧ t.grs = { s.grs with tables := s.grs.tables ++ [⟨s.opTenant o, slot, .loaded, img⟩] } ∧
         (∃ e, t.kln.journal.getLast? = some e ∧ e.entry = .table (s.opTenant o) slot) ∧ s.SameMem t ∧ s.SameCore t ∧ t.pool = s.pool ∧ t.parts = s.parts ∧ t.slots = s.slots ∧ t.vers = s.vers) ∧
     (Grist.imageOk img = false → ∃ t, exec (.tableLoad id) s = .next t ∧ t.Ended id { status := .gristCorrupt } ∧ t.grs = s.grs ∧ s.SameMem t ∧ s.SameControl t) ∧
     (Grist.imageOk img = true → Grist.tableValid (Grist.imageTable img) = false →
       ∃ t, exec (.tableLoad id) s = .next t ∧ t.Ended id { status := .unsupported } ∧ t.grs = s.grs ∧ s.SameMem t ∧ s.SameControl t)) ∧
   (∀ (s : State) (id slot n : Nat) (o : Op) (r : TableRec), s.Runs id 0x51 o → o.zero 1 31 8 = true → o.zeroFrom 2 = true → slot = bits (o.dw 1) 7 0 → 16 ≤ slot →
     s.tableRec (s.opTenant o) slot = some r → n = s.tableRefs (s.opTenant o) slot →
     ∃ t, exec (.tableRetire id) s = .next t ∧ t.Ended id { dw1 := n } ∧ r ∉ t.grs.tables.filter (·.st == .loaded) ∧
       ({ r with st := .retiring } ∈ t.grs.tables ↔ n ≠ 0) ∧ s.SameMem t ∧ s.SameCore t ∧ t.pages = s.pages ∧ t.pool = s.pool ∧ t.parts = s.parts ∧ t.vers = s.vers)) ∧
  (∀ (s : State) (id len port pbr n off r : Nat) (o : Op) (e : Ext) (pl : Place), o.opcode = 0x60 ∨ o.opcode = 0x61 → s.Runs id o.opcode o →
     len = (o.dw 6).toNat → len ≠ 0 → len % 64 = 0 → o.q 2 % 64 = 0 → o.q 4 % 64 = 0 → o.zero 1 31 15 = true → o.zeroFrom 7 = true →
     (match o.lent with
       | some l => some l
       | none => s.lentTo o) = some (port, pbr, n) → len ≤ n → s.locate o.partner (o.q 4) = some (r, e, off) →
     e.refuses o r = none → off + len ≤ e.granules * Config.granuleBytes → pl = placeAt (some (r, e, off)) (o.q 4) len →
     (o.opcode = 0x60 → o.begun = true ∨ s.viewGuard r = false → (∃ q ∈ o.reads, q.part = 0) → o.partDone 0 = true → o.partBad 0 (o.q 2) = none →
       s.Takes o pl (o.part 0).length →
       ∃ t, exec (.peerRead id) s = .next t ∧ t.Ended id { dw1 := len } ∧ s.Lands t o pl (o.part 0) ∧ s.SameControl t) ∧
     (o.opcode = 0x61 → ∀ acks, acks = o.reads.filter (fun q => q.part == 1) →
       (acks = [] → ∀ bs, s.Input o 0 pl bs → s.mayRequest port = true →
         ∃ t rest, exec (.peerWrite id) s = .next t ∧ t.outs = s.outs ++ s.writeRequests o.runClass port (o.q 2) bs (some pbr) ++ rest ∧
           (∃ o', t.op? id = some o' ∧ o'.phase = .running ∧ o'.port = port ∧ o'.peer = some pbr) ∧ s.SameMem t ∧ s.SameControl t) ∧
       (acks ≠ [] → (∀ q ∈ acks, q.len ≤ q.got.length) → o.partBad 1 (o.q 2) = none → exec (.peerWrite id) s = .next (s.finish o { dw1 := len }))))

/-- SLOT_BIND and SLOT_UNBIND (R20, R63, R73, R77 to R79, R89): a legal bind binds the free slot to a new writer version of its cask, with the shape given and length 0; an unbind frees the slot, discards the version and ends the calls that wait and those of the mailbox. SLOT_PARK and SLOT_RESUME (R19, R23, R26, R86 to R88): a park commits the slot's version with its shape and lengths and opens the next on the same pages, at once, or, with DURABLE, once the journal holds it, unless by then the next can no longer be opened: then nothing is committed; a resume binds the slot to a new version of the parked one, with its shape and lengths. -/
def Obligations.SlotsBindAndPark : Prop :=
  ((∀ (s : State) (id n : Nat) (o : Op) (h : Shape) (m : MailboxSpec) (r : Option Nat × Option (Nat × Ver)), s.Runs id 0x40 o → n = o.slotNo →
     bindShape o = some h → o.zero 1 15 8 = true → o.zero 4 31 28 = true → o.zero 5 31 16 = true → o.zero 6 30 17 = true → o.zero 7 31 29 = true →
     o.zero 8 29 27 = true → o.zero 8 15 13 = true → o.zeroFrom 13 = true → m = ⟨bit (o.dw 8) 31, bit (o.dw 8) 30, bits (o.dw 8) 26 16, o.q 9, o.q 11⟩ →
     s.mailboxCheck o m = none → (m.en = true → s.mailboxRefusal o m.base = none) → o.q 2 ≠ 0 →
     s.writerCheck (s.opTenant o) (o.q 2) none true 0 = .inr r →
     ∃ t w, exec (.slotBind id) s = .next t ∧ t.Ended id {} ∧ (t.slot n).bound = true ∧ (t.slot n).binding = none ∧ (t.slot n).shape = h ∧ (t.slot n).lens = [] ∧
       (t.slot n).ver = s.nextVer ∧ (t.slot n).mailboxEn = m.en ∧ t.vers = s.vers.set s.nextVer w ∧ w.st = .open ∧ w.slotShape = some h ∧ w.pages = [] ∧
       (∀ k, k ≠ n → t.slot k = s.slot k) ∧ s.SameMem t ∧ s.SameCore t ∧ t.parts = s.parts ∧ t.pool = s.pool) ∧
   (∀ (s : State) (id n : Nat) (o : Op), s.OpsDistinct → s.Runs id 0x45 o → n = o.slotNo → o.zero 1 15 8 = true → o.zeroFrom 2 = true → (s.slot n).bound = true →
     ∃ t, exec (.slotUnbind id) s = .next t ∧ t.Ended id {} ∧ t.slot n = (s.slot n).freed ∧ t.vers.get? (s.slot n).ver = none ∧
       (∀ p ∈ t.ops, p.isSlotCall = true → p.slotNo = n → p.phase ≠ .waitTurn ∧ p.phase ≠ .turn) ∧ (∀ k, k ≠ n → t.slot k = s.slot k) ∧ s.SameCore t ∧
       (∀ p ∈ t.ops, p.mailbox ≠ some n) ∧ ∀ k, t.part k = { s.part k with dp := (t.part k).dp })) ∧
  ((∀ (s : State) (id n : Nat) (o : Op) (w : Ver), s.Runs id 0x43 o → n = o.slotNo → o.zero 1 15 8 = true → o.zero 2 31 1 = true → o.zeroFrom 3 = true →
     (s.slot n).ver ≠ s.nextVer → s.vers.get? (s.slot n).ver = some w → (s.casks.get w.cask ⟨0, 0, 0, []⟩).lastSeq < 0xFFFFFFFF → (s.versionsOf w.cask).length < 64 →
     s.earlierNames (s.slot n).ver id = false →
     (bit (o.dw 2) 0 = false → ∃ t v, exec (.slotPark id) s = .next t ∧ t.Ended id { dw23 := w.seq } ∧
       t.vers.get? (s.slot n).ver = some { w with st := .committed, journaled := false, commitOp := none, park := some ((s.slot n).shape, (s.slot n).lens) } ∧
       t.slot n = { s.slot n with ver := s.nextVer } ∧ t.vers.get? s.nextVer = some v ∧ v.st = .open ∧ v.pages = w.pages ∧ v.base = some (s.slot n).ver ∧
       v.seq = (s.casks.get w.cask ⟨0, 0, 0, []⟩).lastSeq + 1 ∧
       t = { s with vers := t.vers, nextVer := s.nextVer + 1, casks := t.casks, slots := t.slots, ops := t.ops, kln := { s.kln with stalls := t.kln.stalls } }) ∧
     (bit (o.dw 2) 0 = true → s.versionBad (s.slot n).ver = false → ∃ t, exec (.slotPark id) s = .next t ∧
       t.vers = s.vers.set (s.slot n).ver { w with st := .committing, commitOp := some id } ∧ (∃ o', t.op? id = some o' ∧ o'.phase = .running) ∧
       t = { s with kln := { s.kln with moves := t.kln.moves, staged := t.kln.staged, stalls := t.kln.stalls }, stp := t.stp, pages := t.pages, ops := t.ops, vers := t.vers })) ∧
   (∀ (s : State) (id n v : Nat) (o : Op) (w : Ver), s.Runs id 0x43 o → n = o.slotNo → (s.slot n).ver = v → v ≠ s.nextVer → s.vers.get? v = some w →
     s.vers.find? (fun x => x.2.commitOp == some id && x.2.st == .committing) = some (v, w) → s.kln.staged.contains (.commit v) = true →
     s.reopenRefusal w.cask = none →
     ∃ t, exec (.journalCommitDone id) s = .next t ∧ t.Ended id { dw23 := w.seq, journaled := true } ∧
       t.vers.get? v = some { w with st := .committed, journaled := true, commitOp := none, park := some ((s.slot n).shape, (s.slot n).lens) } ∧
       t.slot n = { s.slot n with ver := s.nextVer } ∧ s.SameCore t ∧ s.SameMem t ∧ t.pages = s.pages) ∧
   (∀ (s : State) (id n v : Nat) (o : Op) (w : Ver) (st : Status), s.Runs id 0x43 o → n = o.slotNo → (s.slot n).ver = v → s.vers.get? v = some w →
     s.vers.find? (fun x => x.2.commitOp == some id && x.2.st == .committing) = some (v, w) → s.kln.staged.contains (.commit v) = true →
     st = (if 0xFFFFFFFF ≤ (s.casks.get w.cask ⟨0, 0, 0, []⟩).lastSeq then .bounds else .busy) →
     0xFFFFFFFF ≤ (s.casks.get w.cask ⟨0, 0, 0, []⟩).lastSeq ∨ 64 ≤ (s.versionsOf w.cask).length →
     ∃ t, exec (.journalCommitDone id) s = .next t ∧ t.Ended id { status := st } ∧ t.vers = s.vers.set v { w with st := .open, commitOp := none } ∧
       t = { s with vers := t.vers, ops := t.ops, kln := { s.kln with staged := t.kln.staged, stalls := t.kln.stalls } }) ∧
   (∀ (s : State) (id n k : Nat) (o : Op) (b : Ver) (h : Shape) (lens : Map Nat) (m : MailboxSpec) (f : Nat × Cask × Option CaskGrant) (r : Option Nat × Option (Nat × Ver)),
     s.Runs id 0x44 o → n = o.slotNo → o.opened = none → o.zero 1 15 8 = true → o.zero 6 29 27 = true → o.zero 6 15 1 = true → o.zeroFrom 11 = true →
     m = ⟨bit (o.dw 6) 31, bit (o.dw 6) 30, bits (o.dw 6) 26 16, o.q 7, o.q 9⟩ → s.mailboxCheck o m = none →
     (m.en = true → s.mailboxRefusal o m.base = none) → o.q 2 ≠ 0 → s.findCask (s.opTenant o) (o.q 2) = some f → s.committedVer f.1 (o.q 4) = some (k, b) →
     b.park = some (h, lens) → s.writerCheck (s.opTenant o) (o.q 2) (some (o.q 4)) false 0 true = .inr r → s.vers.get? k = some b → k ≠ s.nextVer →
     s.AtHand o (b.pages.map (fun p => (p.2, 0))) →
     ∃ t w, exec (.slotResume id) s = .next t ∧ t.Ended id {} ∧ (t.slot n).bound = true ∧ (t.slot n).binding = none ∧ (t.slot n).shape = h ∧ (t.slot n).lens = lens ∧
       (t.slot n).ver = s.nextVer ∧ t.vers = s.vers.set s.nextVer w ∧ w.base = some k ∧ w.pages = b.pages ∧ w.st = .open ∧
       (∀ j, j ≠ n → t.slot j = s.slot j) ∧ s.SameMem t ∧ s.SameCore t ∧ t.parts = s.parts ∧ t.pool = s.pool))

/-- APPEND (R30, R31, R38, R41, R43, R80 to R82, R91, R177): once the source, the version's pages and the frames it needs are at hand, the append is refused for a full pool, an illegal scale or a tile that fails its check, in that order, or adds its positions to every layer named, writing no tile but those that hold them and their picots: each new position's key and value row holds its source elements as R43 stores them, each earlier row what it held, DW1 counts the elements that R43 replaced or saturated, and picots that held the extremes of the keys before hold them after. -/
def Obligations.AppendAddsPositions : Prop :=
  ∀ (s : State) (id n layers first count len : Nat) (o : Op) (cs : List Ctx) (bs : List Byte) (tiles : List TilePos) (src : Source), s.Runs id 0x41 o → n = o.slotNo →
    layers = bits (o.dw 2) 15 8 + 1 → first = bits (o.dw 2) 7 0 → count = bits (o.dw 3) 16 0 → len = (o.dw 4).toNat → cs = s.layerCtxs n first layers →
    o.zero 1 15 8 = true → o.zero 2 30 19 = true → o.zero 3 31 17 = true → o.zeroFrom 7 = true → bits (o.dw 2) 18 16 ≤ 1 → 0 < count → count ≤ 65536 →
    first + layers ≤ (s.slot n).shape.layers → (∀ c ∈ cs, c.len + count ≤ 2 ^ 28 ∧ c.appendFits count = true) →
    len = layers * sectionBytes (s.slot n).shape (bits (o.dw 2) 18 16 == 1) count + scaleBytes (s.slot n).shape layers →
    (if bit (o.dw 2) 31 then (s.part o.partner).dp.active = true ∧ (s.part o.partner).dp.stream = true ∧ (s.part o.partner).dp.dir = false ∧
        (s.part o.partner).dp.consumer = some id ∧ (s.part o.partner).dp.len = len ∧ bs = (s.part o.partner).dp.buf ∧ len ≤ bs.length
      else ∃ f, s.callRange o (o.q 5) len = .inr f ∧ s.Input o 0 (placeAt f (o.q 5) len) bs) →
    s.VerAtHand o (s.slot n).ver → s.Sound (s.slot n).ver → (s.slot n).shape.legal → tiles = appendTilesOf cs count → s.tileFrames (s.slot n).ver tiles = [] →
    src = sourceOf (s.slot n).shape (bits (o.dw 2) 18 16 == 1) count layers bs →
    ∃ t, exec (.append id) s = .next t ∧ s.SameCore t ∧
      (if s.noCapacity n tiles then t.Ended id { status := .busy } ∧ s.SameMem t
       else if cs.zipIdx.all (fun c => s.scalesOk c.1 src c.2) = false then t.Ended id { status := .unsupported } ∧ s.SameMem t
       else if cs.any (fun c => s.tilesBad c c.appendReads) = true then t.Ended id { status := .integrity } ∧ s.SameMem t
       else (∃ m, m = (cs.zipIdx.flatMap (fun c => (List.range (s.slot n).shape.kvh).flatMap (fun head => [0, 1].flatMap (fun kind =>
             (List.range count).flatMap (fun k => (src.stored (s.slot n).shape count c.2 head kind k).filter (·.2)))))).length ∧
           t.Ended id { dw1 := sat32 m, dw23 := (s.slot n).lens.get first 0 + count }) ∧
         (∀ c ∈ cs.zipIdx, ∀ c', c' = { c.1 with len := c.1.len + count } →
           (∀ head < (s.slot n).shape.kvh, ∀ kind < 2, ∀ k < count,
             t.storedRow c' head kind (c.1.len + k) = (src.stored (s.slot n).shape count c.2 head kind k).map (·.1)) ∧
           (∀ head < (s.slot n).shape.kvh, ∀ kind < 2, ∀ p < c.1.len, t.storedRow c' head kind p = s.storedRow c.1 head kind p) ∧
           (s.PicotsRight c.1 → t.PicotsRight c')) ∧
         (∀ l, (t.slot n).lens.get l 0 = (s.slot n).lens.get l 0 + if first ≤ l ∧ l < first + layers then count else 0) ∧
         (∀ k, k ≠ n → t.slot k = s.slot k) ∧ s.OnlyTiles t (s.slot n).ver tiles ∧ t.parts = s.parts ∧ t.casks = s.casks)

/-- PICOT_REBUILD (R35, R38, R41, R90, R91): with the pages of the version, frames and capacity at hand, and every key tile right, the rebuild writes the picot tiles of the layers named and nothing else in memory, and answers how many they are: each tile passes its check then, and each record holds the largest and the smallest elements of the keys that it covers. -/
def Obligations.PicotsAreRebuilt : Prop :=
  ∀ (s : State) (id n layers first : Nat) (o : Op) (cs : List Ctx) (tiles : List TilePos), s.Runs id 0x46 o → n = o.slotNo →
    layers = bits (o.dw 2) 15 8 + 1 → first = bits (o.dw 2) 7 0 → cs = s.layerCtxs n first layers →
    o.zero 1 15 8 = true → o.zero 2 31 16 = true → o.zeroFrom 3 = true → first + layers ≤ (s.slot n).shape.layers →
    tiles = ((cs.flatMap (fun c => c.allPicots)).map (·.pos)).eraseDups → s.noCapacity n tiles = false → s.tileFrames (s.slot n).ver tiles = [] →
    (∀ c ∈ cs, s.tilesBad c c.allKeys = false) → s.VerAtHand o (s.slot n).ver → s.Sound (s.slot n).ver → (s.slot n).shape.legal → (∀ c ∈ cs, c.Placed) →
    ∃ t, exec (.picotRebuild id) s = .next t ∧ t.Ended id { dw1 := (cs.flatMap (fun c => c.allPicots)).length } ∧
      (∀ c ∈ cs, t.PicotsRight c ∧ ∀ w ∈ c.allPicots, t.tileOk c w = true) ∧
      s.OnlyTiles t (s.slot n).ver tiles ∧ s.SameCore t ∧ t.slots = s.slots ∧ t.parts = s.parts ∧ t.casks = s.casks ∧ t.pool = s.pool

/-- ATTEND (R83 to R85, R91, R100 to R102): with the query, the version's pages and the outputs at hand, the call ends with INTEGRITY if a tile it needs fails its check, else it writes the log-sum-exp area and the outputs that the selection gives, to device memory or by requests to partner memory, and nothing else in memory, and reports the certificate. -/
def Obligations.AttendAnswers : Prop :=
  ∀ (s : State) (id n layer heads qlen olen : Nat) (o : Op) (h : Shape) (pr : CallParams) (qf out : Option (Nat × Ext × Nat)) (query : List Byte) (r : AttendResult),
    s.Runs id 0x42 o → n = o.slotNo → h = (s.slot n).shape → h.legal → layer = bits (o.dw 2) 7 0 → heads = h.kvh * h.group → qlen = heads * h.hd * 2 →
    olen = 4096 + heads * h.hd * (if h.outfmt = 0 then 4 else 2) →
    o.zero 1 15 8 = true → o.zero 2 31 10 = true → o.zero 3 31 27 = true → o.zero 4 31 13 = true → o.zeroFrom 9 = true →
    callParams h (bits (o.dw 2) 9 8) (bits (o.dw 3) 10 0) (bits (o.dw 3) 17 11) (bits (o.dw 3) 26 18) (bits (o.dw 4) 12 0) = some pr →
    o.q 5 % 64 = 0 → o.q 7 % 4096 = 0 → layer < h.layers → s.callRange o (o.q 5) qlen = .inr qf → s.callRange o (o.q 7) olen = .inr out →
    (∀ f, out = some f → o.begun = true ∨ s.viewGuard f.1 = false) → s.Input o 0 (placeAt qf (o.q 5) qlen) query → s.VerAtHand o (s.slot n).ver →
    (match out with
      | some (k, e, off) => s.AtHand o (s.writeDeps (extSpan k e off olen)) ∧ s.Framed (extSpan k e off olen) ∧ s.spanRoom (extSpan k e off olen) = true
      | none => s.mayRequest o.port = true) →
    r = s.attendAll (s.slotCtx n layer) (s.slot n) pr (o.nonres.getD (o.baseAway.getD [] ++ s.awayPages (s.slot n).ver)) query →
    ∃ t, exec (.attend id) s = .next t ∧ s.SameControl t ∧
      (if s.tilesBad (s.slotCtx n layer) r.tiles then t.Ended id { status := .integrity } ∧ s.SameMem t ∧ t.outs = s.outs
       else t.Ended id { dw1 := r.dw1, dw23 := r.dw2 + r.dw3 * 2 ^ 32, cert := r.cert } ∧
         match out with
         | some (k, e, off) => t.outs = s.outs ∧ (∀ pid a, a < 65536 → ¬ s.Stored t (extSpan k e off r.lse.length) pid a →
               ¬ s.Stored t (extSpan k e (off + 4096) r.outputs.length) pid a → t.mem.read (pageAddr pid a) = s.mem.read (pageAddr pid a)) ∧
             t.spanBytes (extSpan k e off r.lse.length) = r.lse ∧ t.spanBytes (extSpan k e (off + 4096) r.outputs.length) = r.outputs
         | none => s.SameMem t ∧ t.outs = s.outs ++ s.writeRequests ((s.slot n).callClass o) o.port (o.q 7) r.lse ++
             s.writeRequests ((s.slot n).callClass o) o.port (o.q 7 + 4096) r.outputs)

/-- SLOT_CALL_START, SLOT_TURN_TIMEOUT and FAST_MARKING_APPLY (R68, R70 to R72, R318): the first call in turn runs, a waiting change of marking taking effect before it; one that has waited 10 ms for its turn ends with DEADLINE; a change of marking takes effect between calls, a cleared slot losing its mailbox. BOB_SLOT_DB and MAILBOX_CALL_COMPLETE (R92 to R99, R313): a doorbell to an open mailbox makes the call that its header spells, which takes its turn, waits for it, or ends with BOUNDS; another is dropped and counted; a finished call's header, and its results when it succeeded, are in the mailbox, and its entry is gone, once the earlier calls of the slot have completed (R74); an ATTEND without an append, its pages at hand, finishes with what the selection gives, or INTEGRITY, its header in the mailbox unless a steep request of it still waits for credit. -/
def Obligations.SlotTurnsAndMailboxCalls : Prop :=
  ((∀ (s : State) (id : Nat) (o : Op), s.op? id = some o → o.phase = .turn → s.turnFirst o = true → s.rst.flush = .none → s.diesIdle = false →
     (∃ t o', exec (.slotCallStart id) s = .next t ∧ t.op? id = some o' ∧ o'.phase = .running ∧ o'.dws = o.dws ∧ (t.slot o.slotNo).change = .none ∧
       (∀ n, (t.slot n).lens = (s.slot n).lens ∧ (t.slot n).ver = (s.slot n).ver ∧ (t.slot n).next = (s.slot n).next) ∧ s.SameCore t ∧ s.SameMem t ∧
       t.vers = s.vers ∧ t.parts = s.parts) ∧
     ((s.slot o.slotNo).change = .none → ∃ t, exec (.slotCallStart id) s = .next t ∧ t.op? id = some { o with phase := .running } ∧
       (∀ n, n ≠ o.slotNo → t.slot n = s.slot n) ∧
       t.slot o.slotNo = { s.slot o.slotNo with sramLayers := (t.slot o.slotNo).sramLayers, sramSink := (t.slot o.slotNo).sramSink } ∧
       t = { s with stp := t.stp, ops := t.ops, slots := t.slots })) ∧
   (∀ (s : State) (id : Nat) (o : Op), s.running = true → s.op? id = some o → o.phase = .waitTurn →
     ∃ t, exec (.slotTurnTimeout id) s = .next t ∧ o.arrival + 10000000 < t.tim.clock ∧ t.Ended id { status := .deadline } ∧
       t = { s with tim := t.tim, ops := t.ops, kln := { s.kln with stalls := t.kln.stalls } }) ∧
   (∀ (s : State) (n : Nat), (s.slot n).bound = true → (s.slot n).change ≠ .none → s.slotBusy n = false →
     ∃ t, exec (.fastMarkingApply n) s = .next t ∧ (t.slot n).change = .none ∧ (t.slot n).bound = true ∧ (t.slot n).ver = (s.slot n).ver ∧
       (t.slot n).lens = (s.slot n).lens ∧ ((s.slot n).change = .adding → (t.slot n).mark = (s.slot n).mark) ∧
       ((s.slot n).change = .clearing → (t.slot n).mark = none ∧ (t.slot n).mailboxEn = false ∧ (t.slot n).outDma = false ∧ (t.slot n).mbox = []) ∧
       (∀ k, k ≠ n → t.slot k = s.slot k) ∧ s.SameMem t ∧ s.SameCore t ∧ s.OpsWaited t ∧ t.parts = s.parts ∧ t.vers = s.vers)) ∧
  ((∀ (s : State) (p n k d nb : Nat) (v : Word) (ide : Option Nat), s.Reaches p n ide → nb ≤ 4 → s.serving = true → s.OpsDistinct → k = bits v 7 0 →
     s.pwr.state ≠ .parked → s.pwr.state ≠ .leaving → s.pwr.state ≠ .entering → s.pwr.drained = false →
     (s.slot k).bound = true → (s.slot k).fast = true → (s.slot k).partner = n → (s.slot k).mailboxEn = true → (s.slot k).mboxDisabled = false →
     (∀ o ∈ s.ops, o.mailbox ≠ some k) → s.hasArray = true → (s.slot k).mark = some (((s.part n).tenant).getD 0) →
     d = (bits (w32 (leNat ((s.slot k).mbox.slice 0 4))) 15 0 + 65536 - (s.slot k).next) % 65536 →
     ∃ t o, exec (.bobSlotDb ⟨p, ide⟩ n v nb) s = .next t ∧ t.op? s.opSeq = some o ∧ t.opSeq = s.opSeq + 1 ∧ o.mailbox = some k ∧ o.partner = n ∧ o.irq = bit v 16 ∧
       o.dws = (List.range 16).map (fun i => w32 (leNat ((s.slot k).mbox.slice (4 * i) 4))) ∧
       (d = 0 → o.phase = .turn ∧ o.turnNo = (s.slot k).turns) ∧ (0 < d → d < 1024 → o.phase = .waitTurn) ∧
       (1024 ≤ d → o.phase = .finished ∧ o.res.status = .bounds) ∧ (0 < d → t.slot k = { s.slot k with arrivals := (s.slot k).arrivals + 1 }) ∧
       (∀ j, (t.slot j).mbox = (s.slot j).mbox ∧ (t.slot j).lens = (s.slot j).lens) ∧ (s.atBar p).SameCore t ∧ s.SameMem t ∧ t.pages = s.pages ∧ t.outs = s.outs) ∧
   (∀ (s : State) (p n k nb : Nat) (v : Word) (ide : Option Nat), s.Reaches p n ide → nb ≤ 4 → s.serving = true → k = bits v 7 0 →
     (s.slot k).bound = false ∨ (s.slot k).fast = false ∨ (s.slot k).partner ≠ n ∨ (s.slot k).mailboxEn = false ∨ (s.slot k).mboxDisabled = true ∨
       s.pwr.state = .parked ∨ s.pwr.state = .leaving ∨ s.pwr.drained = true ∨ (∃ o ∈ s.ops, o.mailbox = some k) →
     exec (.bobSlotDb ⟨p, ide⟩ n v nb) s = .next ((s.atBar p).setPart n { s.part n with bobDrops := inc32 (s.part n).bobDrops })) ∧
   (∀ (s : State) (k : Nat) (o : Op), s.ops.find? (fun o => o.mailbox == some k) = some o → s.op? o.id = some o → o.phase = .finished → s.opHeld o.id = false →
     s.turnFirst o = true → (s.slot k).bound = true → (s.slot k).mailboxEn = true → (s.slot k).mboxDisabled = false → (s.slot k).shape.kvh * (s.slot k).shape.group ≤ 1024 →
     ∃ t, exec (.mailboxCallComplete k) s = .next t ∧ t.op? o.id = none ∧ (t.slot k).mbox.slice 0xFE000 64 = headerBytes (s.callCounts k o) ∧
       (o.res.status = .done → ∀ z, z = (s.slot k).shape.kvh * (s.slot k).shape.group * 4 →
         (t.slot k).mbox.slice 0xFF000 (o.wrote.take z).length = o.wrote.take z ∧ (t.slot k).mbox.slice 0x100000 (o.wrote.drop z).length = o.wrote.drop z) ∧
       (∀ j, j ≠ k → t.slot j = s.slot j) ∧ s.SameCore t ∧ s.SameMem t ∧ t.pages = s.pages ∧ t.vers = s.vers ∧ t.parts = s.parts) ∧
   (∀ (s : State) (k layer : Nat) (o : Op) (pr : CallParams), s.ops.find? (fun o => o.mailbox == some k) = some o → s.op? o.id = some o → o.phase = .running →
     s.turnFirst o = true → (s.slot k).bound = true → (s.slot k).mailboxEn = true → (s.slot k).mboxDisabled = false → layer = bits (o.dw 0) 23 16 → layer < (s.slot k).shape.layers →
     bit (o.dw 0) 26 = false → mailboxParams (s.slot k).shape o = some pr → o.zero 0 31 28 = true → o.zero 1 31 27 = true → o.zero 2 31 13 = true → o.zeroFrom 3 = true →
     s.VerAtHand o (s.slot k).ver →
     ∃ t r o', exec (.mailboxCallComplete k) s = .next t ∧
       r = s.attendAll (s.slotCtx k layer) (s.slot k) pr (o.nonres.getD (o.baseAway.getD [] ++ s.awayPages (s.slot k).ver)) (o.part 0) ∧
       ((t.op? o.id = none ∧ (t.slot k).mbox.slice 0xFE000 64 = headerBytes o') ∨ (t.opHeld o.id = true ∧ t.op? o.id = some o' ∧ o'.phase = .finished)) ∧
       o'.dws = o.dws ∧
       (if s.tilesBad (s.slotCtx k layer) r.tiles then o'.res.status = .integrity
        else o'.res.status = .done ∧ o'.res.dw1 = r.dw1 ∧ o'.res.dw23 = r.dw2 + r.dw3 * 2 ^ 32 ∧ o'.res.cert = r.cert ∧ o'.wrote = r.lse ++ r.outputs) ∧
       (∀ j, j ≠ k → t.slot j = s.slot j) ∧ s.SameCore t ∧ s.SameMem t ∧ t.vers = s.vers))

/-- PORT_SESSION (R238 to R240, R235): with the checks passed and no session active, the partner's session is the descriptor's, with its direction, length and target, and nothing else changes; outbound data at hand is ready at once; LEN 0 ends at once; while another session is active the descriptor ends BUSY. DATA_WINDOW_WRITE and WRITE_COMBINE_DRAIN (R191, R238, R241, R242, R244): an access in order is buffered and POS moves on; one that breaks a rule ends the session with the rule's cause and status; one that reaches no session is counted; a drained line is in the session's target, or with its stream, and DONE moves on, the last one ending the session DONE. -/
def Obligations.SessionsTakeData : Prop :=
  (∀ (s : State) (id len : Nat) (o : Op) (q : Session) (d : Named) (f : Found), s.Runs id 0x70 o → q = (s.part o.partner).dp → len = (o.dw 4).toNat →
     d = ⟨bits (o.dw 1) 11 10, bits (o.dw 1) 9 0, o.q 2, len, !bit (o.dw 1) 13⟩ → f = s.find o d →
     (q.active = false → len = 0 → exec (.portSession id) s = .next (s.finish o {})) ∧
     (len ≠ 0 → len % 4 = 0 → o.zero 1 31 14 = true → o.zeroFrom 5 = true →
       (if bit (o.dw 1) 12 then o.zero 1 11 0 = true ∧ o.q 2 = 0
         else d.reserved = false ∧ (d.space ≠ 0 ∨ f.place.isDma = false) ∧ o.q 2 % 64 = 0 ∧ foundStatus [f] = none) →
       (q.active = true → q.op ≠ id → exec (.portSession id) s = .next (s.fail o .busy)) ∧
       (q.active = false → bit (o.dw 1) 13 = false ∨ bit (o.dw 1) 12 = true → ∃ t, exec (.portSession id) s = .next t ∧
         (t.part o.partner).dp = { active := true, dir := bit (o.dw 1) 13, stream := bit (o.dw 1) 12, len := len, op := id, lastAccess := s.tim.clock, reject := q.reject } ∧
         (∃ o', t.op? id = some o' ∧ o'.phase = .running ∧ o'.dws = o.dws) ∧
         (∀ n, t.part n = { s.part n with dp := (t.part n).dp } ∧ (n ≠ o.partner → t.part n = s.part n)) ∧ t = { s with parts := t.parts, ops := t.ops }) ∧
       (∀ sp, q.active = false → bit (o.dw 1) 13 = true → bit (o.dw 1) 12 = false → f.place = .dev sp → s.AtHand o (s.spanNeeds sp) → s.spanWrong sp = none →
         ∃ t, exec (.portSession id) s = .next t ∧
           (t.part o.partner).dp = { active := true, dir := true, stream := false, done := len, len := len, op := id, lastAccess := s.tim.clock, reject := q.reject } ∧
           (∃ o', t.op? id = some o' ∧ o'.phase = .running ∧ o'.dws = o.dws) ∧ (∀ n, n ≠ o.partner → t.part n = s.part n) ∧ s.SameMem t ∧ s.SameCore t))) ∧
  ((∀ (s u : State) (p n off : Nat) (bs : List Byte) (en : Bool) (ide : Option Nat) (q : Session), s.OpensWindow p n off ide → q = (s.part n).dp → u = s.atBar p →
     (s.windowOpen p n = false →
       exec (.dataWindowWrite p n off bs en ide) s = .next ((s.leaveL1 p).setPart n { s.part n with dp := { q with reject := inc32 q.reject } })) ∧
     (s.windowOpen p n = true → windowCause q true off bs.length en = none →
       (((s.port p).wcb ++ [(n, q.pos, bs)]).map (fun l => ceilDiv l.2.2.length 64)).sum ≤ 64 →
       exec (.dataWindowWrite p n off bs en ide) s = .next { u with
         parts := u.parts.set n { s.part n with dp := { q with pos := q.pos + bs.length, lastAccess := u.tim.clock } }
         ports := u.ports.set p { u.port p with wcb := (s.port p).wcb ++ [(n, q.pos, bs)] } }) ∧
     (s.windowOpen p n = true → ∀ c o, windowCause q true off bs.length en = some c → s.op? q.op = some o → q.consumer ≠ some q.op →
       ∃ t, exec (.dataWindowWrite p n off bs en ide) s = .next t ∧ (t.part n).dp.active = false ∧ (t.part n).dp.errCause = c ∧
         t.Ended q.op { status := causeStatus c, dw1 := q.moved } ∧ u.SameCore t ∧ (∀ k, k ≠ n → t.part k = s.part k))) ∧
   (∀ (s : State) (p n pos : Nat) (bs : List Byte) (q : Session), (s.port p).wcb = [(n, pos, bs)] → q = (s.part n).dp → q.active = true →
     (∀ o sp, q.stream = false → q.dir = false → q.waiting = [] → s.op? q.op = some o → s.sessionPlace q = some (.dev sp) →
       s.Takes o (.dev { sp with off := sp.off + pos, len := bs.length }) bs.length →
       ∃ t, exec (.writeCombineDrain p) s = .next t ∧ (t.port p).wcb = [] ∧ s.Lands t o (.dev { sp with off := sp.off + pos, len := bs.length }) bs ∧
         (q.done + bs.length ≠ q.len → (t.part n).dp = { q with done := q.done + bs.length }) ∧
         (q.done + bs.length = q.len → (t.part n).dp.active = false ∧ t.Ended q.op { dw1 := q.len }) ∧ s.SameCore t ∧ (∀ k, k ≠ n → t.part k = s.part k)) ∧
     (q.stream = true → ∃ t, exec (.writeCombineDrain p) s = .next t ∧ (t.port p).wcb = [] ∧
       (t.part n).dp = { q with buf := q.buf ++ bs, done := if s.consumes q then (q.buf ++ bs).length else q.done } ∧
       (∀ k, k ≠ n → t.part k = s.part k) ∧ t = { s with parts := t.parts, ports := t.ports })))

/-- DATA_WINDOW_READ, DATA_WINDOW_READ_TIMEOUT and SESSION_IDLE_TIMEOUT (R129, R238, R240 to R243), no other read waiting: a read in order whose data is ready returns it and POS moves on, the last byte of a memory session ending it DONE; data that is not ready lets the read wait, 2 ms at most, and then poison answers it; a read out of order ends the session and zeros answer it; a second without an access ends a session with DEADLINE. -/
def Obligations.WindowReadsReturnTheData : Prop :=
  (∀ (s u : State) (p n off len : Nat) (en : Bool) (ide : Option Nat) (q : Session), s.OpensWindow p n off ide → q = (s.part n).dp → u = s.atBar p →
    (s.windowOpen p n = false → exec (.dataWindowRead p n off len en ide) s =
      .next (((s.leaveL1 p).setPart n { s.part n with dp := { q with reject := inc32 q.reject } }).emit (.windowData n (List.replicate len 0)))) ∧
    (s.windowOpen p n = true → windowCause q false off len en = none → q.waiting = [] →
      (q.stream = true → q.done < q.pos + len → exec (.dataWindowRead p n off len en ide) s = .next { u with
        parts := u.parts.set n { s.part n with dp := { q with waiting := [⟨q.pos, len, u.tim.clock⟩], lastAccess := u.tim.clock } } }) ∧
      (q.stream = true → q.pos + len ≤ q.done → ∃ t, exec (.dataWindowRead p n off len en ide) s = .next t ∧
        t.outs = s.outs ++ [.windowData n ((q.buf.drop q.pos).take len)] ∧
        (t.part n).dp = { q with pos := q.pos + len, lastAccess := u.tim.clock } ∧ (∀ k, k ≠ n → t.part k = s.part k) ∧
        t = { u with parts := t.parts, outs := t.outs }) ∧
      (∀ o sp, q.stream = false → s.op? q.op = some o → s.sessionPlace q = some (.dev sp) → u.AtHand o (u.spanNeeds sp) → u.spanWrong sp = none → q.done ≤ q.len →
        ∃ t, exec (.dataWindowRead p n off len en ide) s = .next t ∧ t.lastOut = some (.windowData n (s.spanBytes { sp with off := sp.off + q.pos, len := len })) ∧
          (t.part n).dp.pos = q.pos + len ∧ (t.part n).dp.active = decide (q.pos + len ≠ q.len) ∧
          (q.pos + len = q.len → t.Ended q.op { dw1 := q.len }) ∧ s.SameMem t ∧ u.SameCore t ∧ (∀ k, k ≠ n → t.part k = s.part k)) ∧
      (∀ o e v at' ln, q.stream = false → s.op? q.op = some o → s.sessionPlace q = some (.view e v at' ln) → u.AtHand o (u.viewAsks v at' ln (fun _ => none)) →
        lowestFailing (u.tilesFor o e v (at' + q.pos) len) = none →
        ∃ t, exec (.dataWindowRead p n off len en ide) s = .next t ∧
          t.lastOut = some (.windowData n (viewOf (u.tilesFor o e v (at' + q.pos) len) (at' + q.pos) len)) ∧ (t.part n).dp.pos = q.pos + len ∧
          (t.part n).dp.active = decide (q.pos + len ≠ q.len) ∧ s.SameMem t ∧ u.SameCore t)) ∧
    (s.windowOpen p n = true → ∀ c o, windowCause q false off len en = some c → s.op? q.op = some o → q.consumer ≠ some q.op →
      ∃ t, exec (.dataWindowRead p n off len en ide) s = .next t ∧ (t.part n).dp.active = false ∧ (t.part n).dp.errCause = c ∧
        t.Ended q.op { status := causeStatus c, dw1 := q.moved } ∧ t.lastOut = some (.windowData n (List.replicate len 0)) ∧ u.SameCore t)) ∧
  (∀ (s : State) (n : Nat) (q : Session) (r : WindowRead), s.running = true → q = (s.part n).dp → q.waiting = [r] → q.stream = true → q.done < r.off + r.len →
    ∃ t, exec (.dataWindowReadTimeout n) s = .next t ∧ r.arrival + 2000000 < t.tim.clock ∧ (t.part n).dp = { q with waiting := [] } ∧
      (∀ k, k ≠ n → t.part k = s.part k) ∧ t.kln = { s.kln with poisonCnt := inc32 s.kln.poisonCnt } ∧ t.outs = s.outs ++ [.windowPoison n] ∧
      t = { s with tim := t.tim, parts := t.parts, kln := t.kln, outs := t.outs }) ∧
  (∀ (s : State) (n : Nat) (q : Session) (o : Op), s.running = true → q = (s.part n).dp → q.active = true → s.op? q.op = some o → q.consumer ≠ some q.op →
    ∃ t, exec (.sessionIdleTimeout n) s = .next t ∧ q.lastAccess + 1000000000 < t.tim.clock ∧ (t.part n).dp.active = false ∧ (t.part n).dp.errCause = 6 ∧
      t.Ended q.op { status := .deadline, dw1 := q.moved } ∧ (∀ k, k ≠ n → t.part k = s.part k) ∧
      t.rst = s.rst ∧ t.sec = s.sec ∧ t.tenants = s.tenants ∧ t.geo = s.geo ∧ t.pending = s.pending)

/-- CXL_MEM_READ and CXL_MEM_READ_TIMEOUT (R92, R125, R128, R129, R167, R181, R189, R292, R310, R313, R343, R361): a read returns the bytes of the page, zeros where no page is, the mailbox's bytes, or a view's, once its steep requests have credit; poison where the page has failed, another tenant's tag is met, a view's block fails, or the request is refused, which is counted; a page that is not at hand lets it wait, 2 ms at most, and the wait that ends so is counted under its cause. CXL_MEM_WRITE (R92, R124, R125, R127, R167, R181, R189, R292, R310, R361), no other write waiting: a write goes to its bytes of the page and to no other byte, or waits for the page in the pending-write table; one to a page whose record has failed is discarded and counted; into a mailbox it goes where a partner may write; what reaches a view or its blob, or is refused, is dropped and counted. PEER_WINDOW_REQUEST (R167, R181, R210, R213, R361), no other write waiting: a request that an active window admits reads or writes the record for which the window was committed, at the window's offset; one that no window admits is an Unsupported Request and counted; one whose record is not ACTIVE any more, or while PARKED, is refused and counted. -/
def Obligations.CxlMemory : Prop :=
  ((∀ (s u : State) (p addr len : Nat) (ide : Option Nat), s.carries p = true → (s.port p).drops ide = false → len ≠ 0 → addr % 64 + len ≤ 64 → u = s.atBar p →
     (∀ r off e, u.cxlTarget p addr len ide = .extent r off e → e.view = none →
       (∀ q, u.pageAt (.group e.group) (off / 65536) = none → u.pool.groups.get? e.group = some q → exec (.cxlMemRead p addr len ide) s =
         .next { u with
           pool := { u.pool with groups := u.pool.groups.set e.group { q with
             zeroCtr := q.zeroCtr.set (off / 65536) (min 255 (q.zeroCtr.get (off / 65536) 0 + 1)) } }
           outs := u.outs ++ [.cxlData p u.nextRead (List.replicate len 0)], nextRead := u.nextRead + 1 }) ∧
       (∀ pid g, u.pageAt (.group e.group) (off / 65536) = some pid → u.pages.get? pid = some g →
         (u.trouble pid ≠ none → u.starvedFrom u.stp.nextReq = [] → ∃ t, exec (.cxlMemRead p addr len ide) s = .next t ∧
           t.lastOut = some (.cxlPoison p u.nextRead) ∧ s.SameMem t ∧ u.SameCore t) ∧
         (u.trouble pid = none → u.atHand pid g = true → ∃ t, exec (.cxlMemRead p addr len ide) s = .next t ∧ s.SameMem t ∧ u.SameCore t ∧
           u.RepliedOrHeld t u.nextRead (if u.foreignTag pid (off % 65536) len (u.recTenant r) then .cxlPoison p u.nextRead
             else .cxlData p u.nextRead (u.pageBytes pid (off % 65536) len))) ∧
         (u.trouble pid = none → u.atHand pid g = false → ∃ t, exec (.cxlMemRead p addr len ide) s = .next t ∧ t.outs = u.outs ∧ s.SameMem t ∧ u.SameCore t ∧
           t.reads = s.reads ++ [{ id := s.nextRead, port := p, len := len, target := .page pid (off % 65536), pages := [pid], record := r, arrival := u.tim.clock
                                   cause := if g.st = .kiln ∨ g.st = .steeping then .kiln else .moveLock }] ∧
           t.nextRead = s.nextRead + 1))) ∧
     (∀ n off, u.cxlTarget p addr len ide = .mailbox n off → exec (.cxlMemRead p addr len ide) s =
       .next { u with outs := u.outs ++ [.cxlData p u.nextRead ((s.slot n).mbox.slice off len)], nextRead := u.nextRead + 1 }) ∧
     (∀ r off e v ex, u.cxlTarget p addr len ide = .extent r off e → e.view = some v → u.viewRec r = some (e, v) →
       (∀ a ∈ u.viewAsks v off len (u.viewCached p r), u.trouble a.1 = none ∧ ∃ g, u.pages.get? a.1 = some g ∧ u.atHand a.1 g = true) →
       ex = u.viewTiles u.trouble (u.viewCached p r) e v off len →
       ∃ t, exec (.cxlMemRead p addr len ide) s = .next t ∧ s.SameMem t ∧ u.SameCore t ∧
         u.RepliedOrHeld t u.nextRead (if (lowestFailing ex).isSome then .cxlPoison p u.nextRead else .cxlData p u.nextRead (viewOf ex off len))) ∧
     (∀ c, u.cxlTarget p addr len ide = c → c ∈ [CxlTarget.dead, .insecure, .parked, .miss, .refused] →
       ∃ t, exec (.cxlMemRead p addr len ide) s = .next t ∧ t.lastOut = some (.cxlPoison p u.nextRead) ∧
         (c = .insecure → t.ports = u.ports.set p { u.port p with ideRefuse := inc32 (u.port p).ideRefuse }) ∧
         (c = .miss → t.ports = u.ports.set p { u.port p with memMiss := inc32 (u.port p).memMiss }) ∧
         (c = .refused → t.pool = { u.pool with refusedCnt := inc32 u.pool.refusedCnt }) ∧
         (c = .parked → t.pwr = { u.pwr with parkedRefuse := inc32 u.pwr.parkedRefuse }) ∧
         t = { u with ports := t.ports, pool := { u.pool with refusedCnt := t.pool.refusedCnt }, pwr := { u.pwr with parkedRefuse := t.pwr.parkedRefuse }
                      outs := t.outs, nextRead := u.nextRead + 1 })) ∧
   (∀ (s : State) (id : Nat) (r : ReadWait), s.running = true → s.reads.find? (fun r => r.id == id && r.peer.isNone) = some r →
     ∃ t, exec (.cxlMemReadTimeout id) s = .next t ∧ r.arrival + 2000000 < t.tim.clock ∧ t.reads = s.reads.filter (fun q => q.id != id) ∧
       t.kln = { s.kln with
         poisonCnt := inc32 s.kln.poisonCnt
         stalls := if r.reqs = [] then s.kln.stalls.set r.cause.index
           ⟨(s.kln.stalls.get r.cause.index {}).ns + (t.tim.clock - r.arrival), inc32 (s.kln.stalls.get r.cause.index {}).cnt⟩ else s.kln.stalls } ∧
       t.outs = s.outs ++ [.cxlPoison r.port id] ∧
       t = { s with tim := t.tim, reads := t.reads, kln := t.kln, outs := t.outs, grs := { s.grs with viewPoisonCnt := t.grs.viewPoisonCnt } })) ∧
  (∀ (s u : State) (p addr : Nat) (bs : List Byte) (ide : Option Nat), s.carries p = true → (s.port p).drops ide = false → bs.length ≠ 0 →
     addr % 64 + bs.length ≤ 64 → u = s.atBar p →
     (∀ r off e w, u.cxlTarget p addr bs.length ide = .extent r off e → u.viewGuard r = false → u.kln.pendWait = [] →
       ∀ pid g, u.pageAt (.group e.group) (off / 65536) = some pid → u.pages.get? pid = some g →
         w = ({ port := p, peer := none, record := r, pieces := [(pid, off % 65536, bs)], since := u.tim.clock } : WaitWrite) →
         (u.takesNow pid g = true → ∃ t, exec (.cxlMemWrite p addr bs ide) s = .next t ∧ .cxlDone p ∈ t.outs ∧ u.SameCore t ∧
           t.mem.slice (pageAddr pid (off % 65536)) bs.length = bs ∧
           (∀ a, a < pageAddr pid (off % 65536) ∨ pageAddr pid (off % 65536) + bs.length ≤ a → t.mem.read a = s.mem.read a)) ∧
         (u.takesNow pid g = false → u.trouble pid = none → u.fullFor w 0 = false → u.fullFor w 1 = false →
           ∃ t, exec (.cxlMemWrite p addr bs ide) s = .next t ∧ .cxlDone p ∈ t.outs ∧ u.SameCore t ∧ s.SameMem t ∧
             t.kln.pend = u.kln.pend ++ (lines (off % 65536) bs).map (fun l => (⟨g.stack / 4, pid, l.1, l.2, some r⟩ : PendLine))) ∧
         (u.trouble pid ≠ none → ∃ t, exec (.cxlMemWrite p addr bs ide) s = .next t ∧ .cxlDone p ∈ t.outs ∧ u.SameCore t ∧ s.SameMem t ∧ t.kln.pend = u.kln.pend ∧
           t.kln.poisonCnt = sat32 (u.kln.poisonCnt + lineCount (off % 65536) bs.length))) ∧
     (∀ n off, u.cxlTarget p addr bs.length ide = .mailbox n off → ∃ t, exec (.cxlMemWrite p addr bs ide) s = .next t ∧ t.lastOut = some (.cxlDone p) ∧
       (∀ a, (t.slot n).mbox.read a = if off ≤ a ∧ a < off + bs.length ∧ mailboxWritable a = true then bs.getD (a - off) 0 else (s.slot n).mbox.read a) ∧
       t.slot n = { s.slot n with mbox := (t.slot n).mbox } ∧ (∀ k, k ≠ n → t.slot k = s.slot k) ∧ t = { u with slots := t.slots, outs := t.outs }) ∧
     (∀ r off e, u.cxlTarget p addr bs.length ide = .extent r off e → u.viewGuard r = true →
       exec (.cxlMemWrite p addr bs ide) s =
         .next { u with grs := { u.grs with viewDropCnt := inc32 u.grs.viewDropCnt }, outs := u.outs ++ [.cxlDropped p] }) ∧
     (∀ c, u.cxlTarget p addr bs.length ide = c → c ∈ [CxlTarget.dead, .insecure, .parked, .miss, .refused] →
       ∃ t, exec (.cxlMemWrite p addr bs ide) s = .next t ∧ t.lastOut = some (.cxlDropped p) ∧
         (c = .insecure → t.ports = u.ports.set p { u.port p with ideRefuse := inc32 (u.port p).ideRefuse }) ∧
         (c = .miss → t.ports = u.ports.set p { u.port p with memMiss := inc32 (u.port p).memMiss }) ∧
         (c = .refused → t.pool = { u.pool with refusedCnt := inc32 u.pool.refusedCnt }) ∧
         (c = .parked → t.pwr = { u.pwr with parkedRefuse := inc32 u.pwr.parkedRefuse }) ∧
         t = { u with ports := t.ports, pool := { u.pool with refusedCnt := t.pool.refusedCnt }, pwr := { u.pwr with parkedRefuse := t.pwr.parkedRefuse }
                      outs := t.outs })) ∧
  (∀ (s u : State) (p pbr addr len n off : Nat) (wr : Option (List Byte)) (ide : Option Nat), p < Config.nPorts → (s.port p).width ≠ 0 → s.serving = true →
     len = (match wr with
       | some bs => bs.length
       | none => n) → len ≠ 0 → addr % 4096 + len ≤ 4096 → (s.port p).admits ide = true → (s.port p).drops ide = false → u = s.atBar p →
     (u.parkRefuses = true → exec (.peerWindowRequest p pbr addr wr n ide) s = .next { u with
       pwr := { u.pwr with parkedRefuse := inc32 u.pwr.parkedRefuse }, outs := u.outs ++ (if wr.isSome then [] else [.peerPoison pbr]) }) ∧
     (u.parkRefuses = false → u.windowFor pbr addr wr.isSome = none → exec (.peerWindowRequest p pbr addr wr n ide) s = .next { u with
       pool := { u.pool with peerUrCnt := inc32 u.pool.peerUrCnt }, outs := u.outs ++ [.peerUr pbr] }) ∧
     (∀ k w, u.parkRefuses = false → u.windowFor pbr addr wr.isSome = some (k, w) → off = w.offset * Config.granuleBytes + (addr - w.base) →
       ((∀ e, u.pool.recs.get? w.record = some e → e.st ≠ .active ∨ u.pool.actBorn.get? k ≠ some e.born) →
         exec (.peerWindowRequest p pbr addr wr n ide) s = .next { u with
           pool := { u.pool with refusedCnt := inc32 u.pool.refusedCnt }, outs := u.outs ++ [if wr.isSome then .peerAbort pbr else .peerPoison pbr] }) ∧
       (∀ e, u.pool.recs.get? w.record = some e → e.st = .active → u.pool.actBorn.get? k = some e.born →
         (u.viewGuard w.record = true → wr.isSome = true → exec (.peerWindowRequest p pbr addr wr n ide) s = .next { u with
           grs := { u.grs with viewDropCnt := inc32 u.grs.viewDropCnt }, outs := u.outs ++ [.peerAbort pbr] }) ∧
         (∀ pid g, e.view = none → u.pageAt (.group e.group) (off / 65536) = some pid → u.pages.get? pid = some g →
           (∀ bs, wr = some bs → u.viewGuard w.record = false → u.kln.pendWait = [] → u.takesNow pid g = true →
             ∃ t, exec (.peerWindowRequest p pbr addr wr n ide) s = .next t ∧ .peerDone pbr ∈ t.outs ∧
               u.SameCore t ∧ t.mem.slice (pageAddr pid (off % 65536)) len = bs ∧
               (∀ a, a < pageAddr pid (off % 65536) ∨ pageAddr pid (off % 65536) + len ≤ a → t.mem.read a = s.mem.read a)) ∧
           (wr = none → u.trouble pid = none → u.atHand pid g = true →
             ∃ t, exec (.peerWindowRequest p pbr addr wr n ide) s = .next t ∧ s.SameMem t ∧ u.SameCore t ∧
               u.RepliedOrHeld t u.nextRead (if u.foreignTag pid (off % 65536) len (u.recTenant w.record) then .peerPoison pbr
                 else .peerData pbr (u.pageBytes pid (off % 65536) len)))))))

end
end

