-- ==== Sys2Proof/Laws/Table.lean ====
section
/-! SUPPORT. What the sparse tables and the byte memories answer after each update, and that every memory operation keeps the canonical form. -/

namespace Sys2Proof.Machine

/-! ### Tables -/

theorem Map.find?_filter_skip {α : Type} (m : List (Nat × α)) (q : Nat × α → Bool) (k : Nat)
    (h : ∀ p : Nat × α, p.1 = k → q p = true) :
    (m.filter q).find? (fun p => p.1 == k) = m.find? (fun p => p.1 == k) := by
  induction m with
  | nil => rfl
  | cons a m ih =>
    by_cases hk : a.1 = k
    · simp [h a hk, hk]
    · by_cases hq : q a = true <;> simp [hq, hk, ih]

theorem Map.find?_filter_none {α : Type} (m : List (Nat × α)) (q : Nat × α → Bool) (k : Nat)
    (h : ∀ p : Nat × α, p.1 = k → q p = false) :
    (m.filter q).find? (fun p => p.1 == k) = none := by
  simp only [List.find?_eq_none, List.mem_filter]
  rintro p ⟨-, hq⟩ hk
  rw [h p (by simpa using hk)] at hq
  simp at hq

@[simp] theorem Map.get?_nil {α : Type} (k : Nat) : Map.get? ([] : Map α) k = none := rfl

@[simp] theorem Map.get?_set_self {α : Type} (m : Map α) (k : Nat) (v : α) : (Map.set m k v).get? k = some v := by
  unfold Map.set Map.get?
  rw [List.find?_append, Map.find?_filter_none _ _ _ (by intro p hp; simp [hp])]
  simp

theorem Map.get?_set_ne {α : Type} (m : Map α) {k j : Nat} (v : α) (h : j ≠ k) : (Map.set m k v).get? j = m.get? j := by
  unfold Map.set Map.get?
  rw [List.find?_append]
  have hkj : (k == j) = false := by simpa using Ne.symm h
  by_cases hlt : j < k
  · rw [Map.find?_filter_skip _ _ _ (by intro p hp; simp [hp, hlt])]
    have h2 : ((k, v) :: m.filter (fun p => decide (k < p.1))).find? (fun p => p.1 == j) = none := by
      rw [List.find?_cons, Map.find?_filter_none _ _ _ (by intro p hp; simp [hp]; omega)]
      simp [hkj]
    rw [h2]
    simp
  · rw [Map.find?_filter_none _ _ _ (by intro p hp; simp [hp]; omega)]
    rw [List.find?_cons, Map.find?_filter_skip _ _ _ (by intro p hp; simp [hp]; omega)]
    simp [hkj]

theorem Map.get?_set {α : Type} (m : Map α) (k j : Nat) (v : α) : (Map.set m k v).get? j = if j = k then some v else m.get? j := by
  split
  · next h => rw [h, Map.get?_set_self]
  · next h => exact Map.get?_set_ne m v h

@[simp] theorem Map.get_set_self {α : Type} (m : Map α) (k : Nat) (v d : α) : (Map.set m k v).get k d = v := by simp [Map.get]

theorem Map.get_set_ne {α : Type} (m : Map α) {k j : Nat} (v d : α) (h : j ≠ k) : (Map.set m k v).get j d = m.get j d := by
  simp [Map.get, Map.get?_set_ne m v h]

@[simp] theorem Map.get?_erase_self {α : Type} (m : Map α) (k : Nat) : (Map.erase m k).get? k = none := by
  unfold Map.erase Map.get?
  rw [Map.find?_filter_none _ _ _ (by intro p hp; simp [hp])]
  rfl

theorem Map.get?_erase_ne {α : Type} (m : Map α) {k j : Nat} (h : j ≠ k) : (Map.erase m k).get? j = m.get? j := by
  unfold Map.erase Map.get?
  rw [Map.find?_filter_skip _ _ _ (by intro p hp; simp [hp, h])]

theorem Map.get?_modify {α : Type} (m : Map α) (k j : Nat) (f : α → α) :
    (Map.modify m k f).get? j = if j = k then (m.get? k).map f else m.get? j := by
  unfold Map.modify Map.get?
  induction m with
  | nil => simp
  | cons a m ih =>
    by_cases hj : j = k
    · subst hj
      by_cases ha : a.1 = j <;> simp_all
    · by_cases ha : a.1 = k
      · have : ¬ k = j := fun h => hj h.symm
        simp_all
      · by_cases hb : a.1 = j <;> simp_all

/-! ### Byte memories -/

theorem Memory.wf_nil : Memory.wf [] := ⟨List.Pairwise.nil, by simp⟩

theorem Memory.wf_filter {m : Memory} (h : m.wf) (p : Host.Cell → Bool) : Memory.wf (m.filter p) :=
  ⟨h.1.filter p, fun c hc => h.2 c (List.mem_filter.mp hc).1⟩

theorem Memory.cells_bounds (a : Nat) (bs : List Byte) : ∀ c ∈ Memory.cells a bs, a ≤ c.1 ∧ c.1 < a + bs.length ∧ c.2 ≠ 0 := by
  induction bs generalizing a with
  | nil => simp [Memory.cells]
  | cons b bs ih =>
    intro c hc
    unfold Memory.cells at hc
    split at hc
    · obtain ⟨h1, h2, h3⟩ := ih (a + 1) c hc
      exact ⟨by omega, by simp only [List.length_cons]; omega, h3⟩
    · rcases List.mem_cons.mp hc with rfl | hc
      · simp; assumption
      · have := ih (a + 1) c hc
        refine ⟨by omega, by simp; omega, this.2.2⟩

theorem Memory.cells_sorted (a : Nat) (bs : List Byte) : List.Pairwise (fun x y : Host.Cell => x.1 < y.1) (Memory.cells a bs) := by
  induction bs generalizing a with
  | nil => simp [Memory.cells]
  | cons b bs ih =>
    unfold Memory.cells
    split
    · exact ih _
    · refine List.pairwise_cons.mpr ⟨fun c hc => ?_, ih _⟩
      have := Memory.cells_bounds _ _ c hc
      simp only; omega

/-- Three runs of rising cells over rising ranges are rising. -/
theorem Memory.wf_join {l m r : Memory} (a b : Nat) (hl : l.wf) (hm : m.wf) (hr : r.wf) (hab : a ≤ b)
    (h1 : ∀ c ∈ l, c.1 < a) (h2 : ∀ c ∈ m, a ≤ c.1 ∧ c.1 < b) (h3 : ∀ c ∈ r, b ≤ c.1) : Memory.wf (l ++ m ++ r) := by
  refine ⟨List.pairwise_append.mpr ⟨List.pairwise_append.mpr ⟨hl.1, hm.1, ?_⟩, hr.1, ?_⟩, ?_⟩
  · intro x hx y hy; have := h1 x hx; have := h2 y hy; omega
  · intro x hx y hy
    have := h3 y hy
    rcases List.mem_append.mp hx with hx | hx
    · have := h1 x hx; omega
    · have := h2 x hx; omega
  · intro c hc
    rcases List.mem_append.mp hc with hc | hc
    · rcases List.mem_append.mp hc with hc | hc
      · exact hl.2 c hc
      · exact hm.2 c hc
    · exact hr.2 c hc

theorem Memory.wf_write {m : Memory} (h : m.wf) (a : Nat) (bs : List Byte) : (m.write a bs).wf := by
  refine Memory.wf_join a (a + bs.length) (Memory.wf_filter h _) ⟨Memory.cells_sorted a bs, fun c hc => (Memory.cells_bounds a bs c hc).2.2⟩
    (Memory.wf_filter h _) (by omega) ?_ ?_ ?_
  · intro c hc; simpa using (List.mem_filter.mp hc).2
  · intro c hc; have := Memory.cells_bounds a bs c hc; omega
  · intro c hc; simpa using (List.mem_filter.mp hc).2

theorem Memory.wf_clear {m : Memory} (h : m.wf) (a n : Nat) : (m.clear a n).wf := Memory.wf_filter h _

theorem Memory.wf_move {m : Memory} (h : m.wf) (a b n : Nat) : (m.move a b n).wf := by
  refine Memory.wf_join b (b + n) (Memory.wf_filter h _) ⟨?_, ?_⟩ (Memory.wf_filter h _) (by omega) ?_ ?_ ?_
  · rw [List.pairwise_map]
    refine ((h.1.filter _).imp_of_mem ?_)
    intro x y hx hy hxy
    have h1 := (List.mem_filter.mp hx).2
    simp only [Bool.and_eq_true, decide_eq_true_eq] at h1
    simp only; omega
  · intro c hc
    obtain ⟨x, hx, rfl⟩ := List.mem_map.mp hc
    exact h.2 x (List.mem_filter.mp hx).1
  · intro c hc; simpa using (List.mem_filter.mp hc).2
  · intro c hc
    obtain ⟨x, hx, rfl⟩ := List.mem_map.mp hc
    have h1 := (List.mem_filter.mp hx).2
    simp only [Bool.and_eq_true, decide_eq_true_eq] at h1
    simp only; omega
  · intro c hc; simpa using (List.mem_filter.mp hc).2

theorem Memory.read_cells (bs : List Byte) (a x : Nat) :
    Memory.read (Memory.cells a bs) x = if a ≤ x ∧ x < a + bs.length then bs.getD (x - a) 0 else 0 := by
  induction bs generalizing a with
  | nil => simp [Memory.cells, Memory.read]
  | cons b bs ih =>
    have step : Memory.read (Memory.cells a (b :: bs)) x = if x = a then b else Memory.read (Memory.cells (a + 1) bs) x := by
      by_cases hb : b = 0
      · rw [show Memory.cells a (b :: bs) = Memory.cells (a + 1) bs by simp [Memory.cells, hb]]
        split
        · next hx => subst hx; rw [ih]; simp [hb]
        · rfl
      · rw [show Memory.cells a (b :: bs) = (a, b) :: Memory.cells (a + 1) bs from if_neg hb]
        by_cases hx : x = a
        · simp [Memory.read, hx]
        · have : ¬ a = x := fun h => hx h.symm
          simp [Memory.read, hx, this]
    rw [step, ih]
    by_cases hx : x = a
    · subst hx; simp
    · simp only [hx, if_false, List.length_cons]
      by_cases h1 : a + 1 ≤ x ∧ x < a + 1 + bs.length
      · rw [if_pos h1, if_pos (by omega), show x - a = (x - (a + 1)) + 1 by omega]
        simp
      · rw [if_neg h1, if_neg (by omega)]

theorem Memory.read_append (l r : Memory) (x : Nat) :
    Memory.read (l ++ r) x = match l.find? (fun c => c.1 == x) with
      | some c => c.2
      | none => Memory.read r x := by
  unfold Memory.read
  rw [List.find?_append]
  cases l.find? (fun c => c.1 == x) <;> simp

/-- A byte read after a write: the byte written inside the range, the old byte elsewhere. -/
theorem Memory.read_write (m : Memory) (a x : Nat) (bs : List Byte) :
    (m.write a bs).read x = if a ≤ x ∧ x < a + bs.length then bs.getD (x - a) 0 else m.read x := by
  unfold Memory.write
  rw [List.append_assoc, Memory.read_append]
  by_cases h1 : x < a
  · rw [if_neg (by omega), Map.find?_filter_skip m _ x (by intro p hp; simp [hp, h1])]
    unfold Memory.read
    cases hf : m.find? (fun c => c.1 == x) with
    | some c => simp
    | none =>
      have h2 : (Memory.cells a bs ++ m.filter (fun c => decide (a + bs.length ≤ c.1))).find? (fun c => c.1 == x) = none := by
        rw [List.find?_append, Map.find?_filter_none m _ x (by intro p hp; simp [hp]; omega)]
        simp only [Option.or_none, List.find?_eq_none]
        intro c hc
        have := Memory.cells_bounds a bs c hc
        simp; omega
      simp [h2]
  · rw [Map.find?_filter_none m _ x (by intro p hp; simp [hp]; omega)]
    simp only
    rw [Memory.read_append]
    by_cases h2 : x < a + bs.length
    · rw [if_pos ⟨by omega, h2⟩]
      have hc := Memory.read_cells bs a x
      rw [if_pos ⟨by omega, h2⟩] at hc
      unfold Memory.read at hc ⊢
      rw [Map.find?_filter_none m _ x (by intro p hp; simp [hp]; omega)]
      cases hf : (Memory.cells a bs).find? (fun c => c.1 == x) with
      | some c => simp [hf] at hc; simpa using hc
      | none => simp [hf] at hc; simpa using hc
    · rw [if_neg (by omega)]
      have hn : (Memory.cells a bs).find? (fun c => c.1 == x) = none := by
        rw [List.find?_eq_none]
        intro c hc
        have := Memory.cells_bounds a bs c hc
        simp; omega
      rw [hn]
      unfold Memory.read
      rw [Map.find?_filter_skip m _ x (by intro p hp; simp [hp]; omega)]

end Sys2Proof.Machine
end

