-- ==== Sys2Proof/Laws/State.lean ====
section
/-! SUPPORT. What each field of the state is after each plain update, and what the accessors answer after it. -/

namespace Sys2Proof.Machine

variable (s : State)

/-! ### setPort -/

@[simp] theorem State.setPort_fuses (p : Nat) (v : Port) : (s.setPort p v).fuses = s.fuses := rfl
@[simp] theorem State.setPort_store (p : Nat) (v : Port) : (s.setPort p v).store = s.store := rfl
@[simp] theorem State.setPort_rst (p : Nat) (v : Port) : (s.setPort p v).rst = s.rst := rfl
@[simp] theorem State.setPort_pins (p : Nat) (v : Port) : (s.setPort p v).pins = s.pins := rfl
@[simp] theorem State.setPort_clk (p : Nat) (v : Port) : (s.setPort p v).clk = s.clk := rfl
@[simp] theorem State.setPort_pwr (p : Nat) (v : Port) : (s.setPort p v).pwr = s.pwr := rfl
@[simp] theorem State.setPort_tim (p : Nat) (v : Port) : (s.setPort p v).tim = s.tim := rfl
@[simp] theorem State.setPort_flt (p : Nat) (v : Port) : (s.setPort p v).flt = s.flt := rfl
@[simp] theorem State.setPort_sec (p : Nat) (v : Port) : (s.setPort p v).sec = s.sec := rfl
@[simp] theorem State.setPort_tenants (p : Nat) (v : Port) : (s.setPort p v).tenants = s.tenants := rfl
@[simp] theorem State.setPort_qos (p : Nat) (v : Port) : (s.setPort p v).qos = s.qos := rfl
@[simp] theorem State.setPort_stp (p : Nat) (v : Port) : (s.setPort p v).stp = s.stp := rfl
@[simp] theorem State.setPort_kln (p : Nat) (v : Port) : (s.setPort p v).kln = s.kln := rfl
@[simp] theorem State.setPort_pages (p : Nat) (v : Port) : (s.setPort p v).pages = s.pages := rfl
@[simp] theorem State.setPort_mem (p : Nat) (v : Port) : (s.setPort p v).mem = s.mem := rfl
@[simp] theorem State.setPort_tags (p : Nat) (v : Port) : (s.setPort p v).tags = s.tags := rfl
@[simp] theorem State.setPort_nextPage (p : Nat) (v : Port) : (s.setPort p v).nextPage = s.nextPage := rfl
@[simp] theorem State.setPort_reads (p : Nat) (v : Port) : (s.setPort p v).reads = s.reads := rfl
@[simp] theorem State.setPort_nextRead (p : Nat) (v : Port) : (s.setPort p v).nextRead = s.nextRead := rfl
@[simp] theorem State.setPort_grs (p : Nat) (v : Port) : (s.setPort p v).grs = s.grs := rfl
@[simp] theorem State.setPort_pool (p : Nat) (v : Port) : (s.setPort p v).pool = s.pool := rfl
@[simp] theorem State.setPort_casks (p : Nat) (v : Port) : (s.setPort p v).casks = s.casks := rfl
@[simp] theorem State.setPort_nextCask (p : Nat) (v : Port) : (s.setPort p v).nextCask = s.nextCask := rfl
@[simp] theorem State.setPort_vers (p : Nat) (v : Port) : (s.setPort p v).vers = s.vers := rfl
@[simp] theorem State.setPort_nextVer (p : Nat) (v : Port) : (s.setPort p v).nextVer = s.nextVer := rfl
@[simp] theorem State.setPort_parts (p : Nat) (v : Port) : (s.setPort p v).parts = s.parts := rfl
@[simp] theorem State.setPort_ops (p : Nat) (v : Port) : (s.setPort p v).ops = s.ops := rfl
@[simp] theorem State.setPort_opSeq (p : Nat) (v : Port) : (s.setPort p v).opSeq = s.opSeq := rfl
@[simp] theorem State.setPort_turns (p : Nat) (v : Port) : (s.setPort p v).turns = s.turns := rfl
@[simp] theorem State.setPort_ringTurns (p : Nat) (v : Port) : (s.setPort p v).ringTurns = s.ringTurns := rfl
@[simp] theorem State.setPort_slots (p : Nat) (v : Port) : (s.setPort p v).slots = s.slots := rfl
@[simp] theorem State.setPort_ports (p : Nat) (v : Port) : (s.setPort p v).ports = s.ports.set p v := rfl
@[simp] theorem State.setPort_jrn (p : Nat) (v : Port) : (s.setPort p v).jrn = s.jrn := rfl
@[simp] theorem State.setPort_geo (p : Nat) (v : Port) : (s.setPort p v).geo = s.geo := rfl
@[simp] theorem State.setPort_stew (p : Nat) (v : Port) : (s.setPort p v).stew = s.stew := rfl
@[simp] theorem State.setPort_rebuild (p : Nat) (v : Port) : (s.setPort p v).rebuild = s.rebuild := rfl
@[simp] theorem State.setPort_latches (p : Nat) (v : Port) : (s.setPort p v).latches = s.latches := rfl
@[simp] theorem State.setPort_outs (p : Nat) (v : Port) : (s.setPort p v).outs = s.outs := rfl
@[simp] theorem State.setPort_freeCtr (p : Nat) (v : Port) : (s.setPort p v).freeCtr = s.freeCtr := rfl
@[simp] theorem State.setPort_pending (p : Nat) (v : Port) : (s.setPort p v).pending = s.pending := rfl

/-! ### setPart -/

@[simp] theorem State.setPart_fuses (n : Nat) (v : Partner) : (s.setPart n v).fuses = s.fuses := rfl
@[simp] theorem State.setPart_store (n : Nat) (v : Partner) : (s.setPart n v).store = s.store := rfl
@[simp] theorem State.setPart_rst (n : Nat) (v : Partner) : (s.setPart n v).rst = s.rst := rfl
@[simp] theorem State.setPart_pins (n : Nat) (v : Partner) : (s.setPart n v).pins = s.pins := rfl
@[simp] theorem State.setPart_clk (n : Nat) (v : Partner) : (s.setPart n v).clk = s.clk := rfl
@[simp] theorem State.setPart_pwr (n : Nat) (v : Partner) : (s.setPart n v).pwr = s.pwr := rfl
@[simp] theorem State.setPart_tim (n : Nat) (v : Partner) : (s.setPart n v).tim = s.tim := rfl
@[simp] theorem State.setPart_flt (n : Nat) (v : Partner) : (s.setPart n v).flt = s.flt := rfl
@[simp] theorem State.setPart_sec (n : Nat) (v : Partner) : (s.setPart n v).sec = s.sec := rfl
@[simp] theorem State.setPart_tenants (n : Nat) (v : Partner) : (s.setPart n v).tenants = s.tenants := rfl
@[simp] theorem State.setPart_qos (n : Nat) (v : Partner) : (s.setPart n v).qos = s.qos := rfl
@[simp] theorem State.setPart_stp (n : Nat) (v : Partner) : (s.setPart n v).stp = s.stp := rfl
@[simp] theorem State.setPart_kln (n : Nat) (v : Partner) : (s.setPart n v).kln = s.kln := rfl
@[simp] theorem State.setPart_pages (n : Nat) (v : Partner) : (s.setPart n v).pages = s.pages := rfl
@[simp] theorem State.setPart_mem (n : Nat) (v : Partner) : (s.setPart n v).mem = s.mem := rfl
@[simp] theorem State.setPart_tags (n : Nat) (v : Partner) : (s.setPart n v).tags = s.tags := rfl
@[simp] theorem State.setPart_nextPage (n : Nat) (v : Partner) : (s.setPart n v).nextPage = s.nextPage := rfl
@[simp] theorem State.setPart_reads (n : Nat) (v : Partner) : (s.setPart n v).reads = s.reads := rfl
@[simp] theorem State.setPart_nextRead (n : Nat) (v : Partner) : (s.setPart n v).nextRead = s.nextRead := rfl
@[simp] theorem State.setPart_grs (n : Nat) (v : Partner) : (s.setPart n v).grs = s.grs := rfl
@[simp] theorem State.setPart_pool (n : Nat) (v : Partner) : (s.setPart n v).pool = s.pool := rfl
@[simp] theorem State.setPart_casks (n : Nat) (v : Partner) : (s.setPart n v).casks = s.casks := rfl
@[simp] theorem State.setPart_nextCask (n : Nat) (v : Partner) : (s.setPart n v).nextCask = s.nextCask := rfl
@[simp] theorem State.setPart_vers (n : Nat) (v : Partner) : (s.setPart n v).vers = s.vers := rfl
@[simp] theorem State.setPart_nextVer (n : Nat) (v : Partner) : (s.setPart n v).nextVer = s.nextVer := rfl
@[simp] theorem State.setPart_parts (n : Nat) (v : Partner) : (s.setPart n v).parts = s.parts.set n v := rfl
@[simp] theorem State.setPart_ops (n : Nat) (v : Partner) : (s.setPart n v).ops = s.ops := rfl
@[simp] theorem State.setPart_opSeq (n : Nat) (v : Partner) : (s.setPart n v).opSeq = s.opSeq := rfl
@[simp] theorem State.setPart_turns (n : Nat) (v : Partner) : (s.setPart n v).turns = s.turns := rfl
@[simp] theorem State.setPart_ringTurns (n : Nat) (v : Partner) : (s.setPart n v).ringTurns = s.ringTurns := rfl
@[simp] theorem State.setPart_slots (n : Nat) (v : Partner) : (s.setPart n v).slots = s.slots := rfl
@[simp] theorem State.setPart_ports (n : Nat) (v : Partner) : (s.setPart n v).ports = s.ports := rfl
@[simp] theorem State.setPart_jrn (n : Nat) (v : Partner) : (s.setPart n v).jrn = s.jrn := rfl
@[simp] theorem State.setPart_geo (n : Nat) (v : Partner) : (s.setPart n v).geo = s.geo := rfl
@[simp] theorem State.setPart_stew (n : Nat) (v : Partner) : (s.setPart n v).stew = s.stew := rfl
@[simp] theorem State.setPart_rebuild (n : Nat) (v : Partner) : (s.setPart n v).rebuild = s.rebuild := rfl
@[simp] theorem State.setPart_latches (n : Nat) (v : Partner) : (s.setPart n v).latches = s.latches := rfl
@[simp] theorem State.setPart_outs (n : Nat) (v : Partner) : (s.setPart n v).outs = s.outs := rfl
@[simp] theorem State.setPart_freeCtr (n : Nat) (v : Partner) : (s.setPart n v).freeCtr = s.freeCtr := rfl
@[simp] theorem State.setPart_pending (n : Nat) (v : Partner) : (s.setPart n v).pending = s.pending := rfl

/-! ### setSlot -/

@[simp] theorem State.setSlot_fuses (n : Nat) (v : Slot) : (s.setSlot n v).fuses = s.fuses := rfl
@[simp] theorem State.setSlot_store (n : Nat) (v : Slot) : (s.setSlot n v).store = s.store := rfl
@[simp] theorem State.setSlot_rst (n : Nat) (v : Slot) : (s.setSlot n v).rst = s.rst := rfl
@[simp] theorem State.setSlot_pins (n : Nat) (v : Slot) : (s.setSlot n v).pins = s.pins := rfl
@[simp] theorem State.setSlot_clk (n : Nat) (v : Slot) : (s.setSlot n v).clk = s.clk := rfl
@[simp] theorem State.setSlot_pwr (n : Nat) (v : Slot) : (s.setSlot n v).pwr = s.pwr := rfl
@[simp] theorem State.setSlot_tim (n : Nat) (v : Slot) : (s.setSlot n v).tim = s.tim := rfl
@[simp] theorem State.setSlot_flt (n : Nat) (v : Slot) : (s.setSlot n v).flt = s.flt := rfl
@[simp] theorem State.setSlot_sec (n : Nat) (v : Slot) : (s.setSlot n v).sec = s.sec := rfl
@[simp] theorem State.setSlot_tenants (n : Nat) (v : Slot) : (s.setSlot n v).tenants = s.tenants := rfl
@[simp] theorem State.setSlot_qos (n : Nat) (v : Slot) : (s.setSlot n v).qos = s.qos := rfl
@[simp] theorem State.setSlot_stp (n : Nat) (v : Slot) : (s.setSlot n v).stp = s.stp := rfl
@[simp] theorem State.setSlot_kln (n : Nat) (v : Slot) : (s.setSlot n v).kln = s.kln := rfl
@[simp] theorem State.setSlot_pages (n : Nat) (v : Slot) : (s.setSlot n v).pages = s.pages := rfl
@[simp] theorem State.setSlot_mem (n : Nat) (v : Slot) : (s.setSlot n v).mem = s.mem := rfl
@[simp] theorem State.setSlot_tags (n : Nat) (v : Slot) : (s.setSlot n v).tags = s.tags := rfl
@[simp] theorem State.setSlot_nextPage (n : Nat) (v : Slot) : (s.setSlot n v).nextPage = s.nextPage := rfl
@[simp] theorem State.setSlot_reads (n : Nat) (v : Slot) : (s.setSlot n v).reads = s.reads := rfl
@[simp] theorem State.setSlot_nextRead (n : Nat) (v : Slot) : (s.setSlot n v).nextRead = s.nextRead := rfl
@[simp] theorem State.setSlot_grs (n : Nat) (v : Slot) : (s.setSlot n v).grs = s.grs := rfl
@[simp] theorem State.setSlot_pool (n : Nat) (v : Slot) : (s.setSlot n v).pool = s.pool := rfl
@[simp] theorem State.setSlot_casks (n : Nat) (v : Slot) : (s.setSlot n v).casks = s.casks := rfl
@[simp] theorem State.setSlot_nextCask (n : Nat) (v : Slot) : (s.setSlot n v).nextCask = s.nextCask := rfl
@[simp] theorem State.setSlot_vers (n : Nat) (v : Slot) : (s.setSlot n v).vers = s.vers := rfl
@[simp] theorem State.setSlot_nextVer (n : Nat) (v : Slot) : (s.setSlot n v).nextVer = s.nextVer := rfl
@[simp] theorem State.setSlot_parts (n : Nat) (v : Slot) : (s.setSlot n v).parts = s.parts := rfl
@[simp] theorem State.setSlot_ops (n : Nat) (v : Slot) : (s.setSlot n v).ops = s.ops := rfl
@[simp] theorem State.setSlot_opSeq (n : Nat) (v : Slot) : (s.setSlot n v).opSeq = s.opSeq := rfl
@[simp] theorem State.setSlot_turns (n : Nat) (v : Slot) : (s.setSlot n v).turns = s.turns := rfl
@[simp] theorem State.setSlot_ringTurns (n : Nat) (v : Slot) : (s.setSlot n v).ringTurns = s.ringTurns := rfl
@[simp] theorem State.setSlot_slots (n : Nat) (v : Slot) : (s.setSlot n v).slots = s.slots.set n v := rfl
@[simp] theorem State.setSlot_ports (n : Nat) (v : Slot) : (s.setSlot n v).ports = s.ports := rfl
@[simp] theorem State.setSlot_jrn (n : Nat) (v : Slot) : (s.setSlot n v).jrn = s.jrn := rfl
@[simp] theorem State.setSlot_geo (n : Nat) (v : Slot) : (s.setSlot n v).geo = s.geo := rfl
@[simp] theorem State.setSlot_stew (n : Nat) (v : Slot) : (s.setSlot n v).stew = s.stew := rfl
@[simp] theorem State.setSlot_rebuild (n : Nat) (v : Slot) : (s.setSlot n v).rebuild = s.rebuild := rfl
@[simp] theorem State.setSlot_latches (n : Nat) (v : Slot) : (s.setSlot n v).latches = s.latches := rfl
@[simp] theorem State.setSlot_outs (n : Nat) (v : Slot) : (s.setSlot n v).outs = s.outs := rfl
@[simp] theorem State.setSlot_freeCtr (n : Nat) (v : Slot) : (s.setSlot n v).freeCtr = s.freeCtr := rfl
@[simp] theorem State.setSlot_pending (n : Nat) (v : Slot) : (s.setSlot n v).pending = s.pending := rfl

/-! ### setPage -/

@[simp] theorem State.setPage_fuses (n : Nat) (v : Page) : (s.setPage n v).fuses = s.fuses := rfl
@[simp] theorem State.setPage_store (n : Nat) (v : Page) : (s.setPage n v).store = s.store := rfl
@[simp] theorem State.setPage_rst (n : Nat) (v : Page) : (s.setPage n v).rst = s.rst := rfl
@[simp] theorem State.setPage_pins (n : Nat) (v : Page) : (s.setPage n v).pins = s.pins := rfl
@[simp] theorem State.setPage_clk (n : Nat) (v : Page) : (s.setPage n v).clk = s.clk := rfl
@[simp] theorem State.setPage_pwr (n : Nat) (v : Page) : (s.setPage n v).pwr = s.pwr := rfl
@[simp] theorem State.setPage_tim (n : Nat) (v : Page) : (s.setPage n v).tim = s.tim := rfl
@[simp] theorem State.setPage_flt (n : Nat) (v : Page) : (s.setPage n v).flt = s.flt := rfl
@[simp] theorem State.setPage_sec (n : Nat) (v : Page) : (s.setPage n v).sec = s.sec := rfl
@[simp] theorem State.setPage_tenants (n : Nat) (v : Page) : (s.setPage n v).tenants = s.tenants := rfl
@[simp] theorem State.setPage_qos (n : Nat) (v : Page) : (s.setPage n v).qos = s.qos := rfl
@[simp] theorem State.setPage_stp (n : Nat) (v : Page) : (s.setPage n v).stp = s.stp := rfl
@[simp] theorem State.setPage_kln (n : Nat) (v : Page) : (s.setPage n v).kln = s.kln := rfl
@[simp] theorem State.setPage_pages (n : Nat) (v : Page) : (s.setPage n v).pages = s.pages.set n v := rfl
@[simp] theorem State.setPage_mem (n : Nat) (v : Page) : (s.setPage n v).mem = s.mem := rfl
@[simp] theorem State.setPage_tags (n : Nat) (v : Page) : (s.setPage n v).tags = s.tags := rfl
@[simp] theorem State.setPage_nextPage (n : Nat) (v : Page) : (s.setPage n v).nextPage = s.nextPage := rfl
@[simp] theorem State.setPage_reads (n : Nat) (v : Page) : (s.setPage n v).reads = s.reads := rfl
@[simp] theorem State.setPage_nextRead (n : Nat) (v : Page) : (s.setPage n v).nextRead = s.nextRead := rfl
@[simp] theorem State.setPage_grs (n : Nat) (v : Page) : (s.setPage n v).grs = s.grs := rfl
@[simp] theorem State.setPage_pool (n : Nat) (v : Page) : (s.setPage n v).pool = s.pool := rfl
@[simp] theorem State.setPage_casks (n : Nat) (v : Page) : (s.setPage n v).casks = s.casks := rfl
@[simp] theorem State.setPage_nextCask (n : Nat) (v : Page) : (s.setPage n v).nextCask = s.nextCask := rfl
@[simp] theorem State.setPage_vers (n : Nat) (v : Page) : (s.setPage n v).vers = s.vers := rfl
@[simp] theorem State.setPage_nextVer (n : Nat) (v : Page) : (s.setPage n v).nextVer = s.nextVer := rfl
@[simp] theorem State.setPage_parts (n : Nat) (v : Page) : (s.setPage n v).parts = s.parts := rfl
@[simp] theorem State.setPage_ops (n : Nat) (v : Page) : (s.setPage n v).ops = s.ops := rfl
@[simp] theorem State.setPage_opSeq (n : Nat) (v : Page) : (s.setPage n v).opSeq = s.opSeq := rfl
@[simp] theorem State.setPage_turns (n : Nat) (v : Page) : (s.setPage n v).turns = s.turns := rfl
@[simp] theorem State.setPage_ringTurns (n : Nat) (v : Page) : (s.setPage n v).ringTurns = s.ringTurns := rfl
@[simp] theorem State.setPage_slots (n : Nat) (v : Page) : (s.setPage n v).slots = s.slots := rfl
@[simp] theorem State.setPage_ports (n : Nat) (v : Page) : (s.setPage n v).ports = s.ports := rfl
@[simp] theorem State.setPage_jrn (n : Nat) (v : Page) : (s.setPage n v).jrn = s.jrn := rfl
@[simp] theorem State.setPage_geo (n : Nat) (v : Page) : (s.setPage n v).geo = s.geo := rfl
@[simp] theorem State.setPage_stew (n : Nat) (v : Page) : (s.setPage n v).stew = s.stew := rfl
@[simp] theorem State.setPage_rebuild (n : Nat) (v : Page) : (s.setPage n v).rebuild = s.rebuild := rfl
@[simp] theorem State.setPage_latches (n : Nat) (v : Page) : (s.setPage n v).latches = s.latches := rfl
@[simp] theorem State.setPage_outs (n : Nat) (v : Page) : (s.setPage n v).outs = s.outs := rfl
@[simp] theorem State.setPage_freeCtr (n : Nat) (v : Page) : (s.setPage n v).freeCtr = s.freeCtr := rfl
@[simp] theorem State.setPage_pending (n : Nat) (v : Page) : (s.setPage n v).pending = s.pending := rfl

/-! ### setOp -/

@[simp] theorem State.setOp_fuses (o : Op) : (s.setOp o).fuses = s.fuses := rfl
@[simp] theorem State.setOp_store (o : Op) : (s.setOp o).store = s.store := rfl
@[simp] theorem State.setOp_rst (o : Op) : (s.setOp o).rst = s.rst := rfl
@[simp] theorem State.setOp_pins (o : Op) : (s.setOp o).pins = s.pins := rfl
@[simp] theorem State.setOp_clk (o : Op) : (s.setOp o).clk = s.clk := rfl
@[simp] theorem State.setOp_pwr (o : Op) : (s.setOp o).pwr = s.pwr := rfl
@[simp] theorem State.setOp_tim (o : Op) : (s.setOp o).tim = s.tim := rfl
@[simp] theorem State.setOp_flt (o : Op) : (s.setOp o).flt = s.flt := rfl
@[simp] theorem State.setOp_sec (o : Op) : (s.setOp o).sec = s.sec := rfl
@[simp] theorem State.setOp_tenants (o : Op) : (s.setOp o).tenants = s.tenants := rfl
@[simp] theorem State.setOp_qos (o : Op) : (s.setOp o).qos = s.qos := rfl
@[simp] theorem State.setOp_stp (o : Op) : (s.setOp o).stp = s.stp := rfl
@[simp] theorem State.setOp_kln (o : Op) : (s.setOp o).kln = s.kln := rfl
@[simp] theorem State.setOp_pages (o : Op) : (s.setOp o).pages = s.pages := rfl
@[simp] theorem State.setOp_mem (o : Op) : (s.setOp o).mem = s.mem := rfl
@[simp] theorem State.setOp_tags (o : Op) : (s.setOp o).tags = s.tags := rfl
@[simp] theorem State.setOp_nextPage (o : Op) : (s.setOp o).nextPage = s.nextPage := rfl
@[simp] theorem State.setOp_reads (o : Op) : (s.setOp o).reads = s.reads := rfl
@[simp] theorem State.setOp_nextRead (o : Op) : (s.setOp o).nextRead = s.nextRead := rfl
@[simp] theorem State.setOp_grs (o : Op) : (s.setOp o).grs = s.grs := rfl
@[simp] theorem State.setOp_pool (o : Op) : (s.setOp o).pool = s.pool := rfl
@[simp] theorem State.setOp_casks (o : Op) : (s.setOp o).casks = s.casks := rfl
@[simp] theorem State.setOp_nextCask (o : Op) : (s.setOp o).nextCask = s.nextCask := rfl
@[simp] theorem State.setOp_vers (o : Op) : (s.setOp o).vers = s.vers := rfl
@[simp] theorem State.setOp_nextVer (o : Op) : (s.setOp o).nextVer = s.nextVer := rfl
@[simp] theorem State.setOp_parts (o : Op) : (s.setOp o).parts = s.parts := rfl
@[simp] theorem State.setOp_ops (o : Op) : (s.setOp o).ops = s.ops.map (fun p => if p.id == o.id then o else p) := rfl
@[simp] theorem State.setOp_opSeq (o : Op) : (s.setOp o).opSeq = s.opSeq := rfl
@[simp] theorem State.setOp_turns (o : Op) : (s.setOp o).turns = s.turns := rfl
@[simp] theorem State.setOp_ringTurns (o : Op) : (s.setOp o).ringTurns = s.ringTurns := rfl
@[simp] theorem State.setOp_slots (o : Op) : (s.setOp o).slots = s.slots := rfl
@[simp] theorem State.setOp_ports (o : Op) : (s.setOp o).ports = s.ports := rfl
@[simp] theorem State.setOp_jrn (o : Op) : (s.setOp o).jrn = s.jrn := rfl
@[simp] theorem State.setOp_geo (o : Op) : (s.setOp o).geo = s.geo := rfl
@[simp] theorem State.setOp_stew (o : Op) : (s.setOp o).stew = s.stew := rfl
@[simp] theorem State.setOp_rebuild (o : Op) : (s.setOp o).rebuild = s.rebuild := rfl
@[simp] theorem State.setOp_latches (o : Op) : (s.setOp o).latches = s.latches := rfl
@[simp] theorem State.setOp_outs (o : Op) : (s.setOp o).outs = s.outs := rfl
@[simp] theorem State.setOp_freeCtr (o : Op) : (s.setOp o).freeCtr = s.freeCtr := rfl
@[simp] theorem State.setOp_pending (o : Op) : (s.setOp o).pending = s.pending := rfl

/-! ### setRing -/

@[simp] theorem State.setRing_fuses (n r : Nat) (v : Ring) : (s.setRing n r v).fuses = s.fuses := rfl
@[simp] theorem State.setRing_store (n r : Nat) (v : Ring) : (s.setRing n r v).store = s.store := rfl
@[simp] theorem State.setRing_rst (n r : Nat) (v : Ring) : (s.setRing n r v).rst = s.rst := rfl
@[simp] theorem State.setRing_pins (n r : Nat) (v : Ring) : (s.setRing n r v).pins = s.pins := rfl
@[simp] theorem State.setRing_clk (n r : Nat) (v : Ring) : (s.setRing n r v).clk = s.clk := rfl
@[simp] theorem State.setRing_pwr (n r : Nat) (v : Ring) : (s.setRing n r v).pwr = s.pwr := rfl
@[simp] theorem State.setRing_tim (n r : Nat) (v : Ring) : (s.setRing n r v).tim = s.tim := rfl
@[simp] theorem State.setRing_flt (n r : Nat) (v : Ring) : (s.setRing n r v).flt = s.flt := rfl
@[simp] theorem State.setRing_sec (n r : Nat) (v : Ring) : (s.setRing n r v).sec = s.sec := rfl
@[simp] theorem State.setRing_tenants (n r : Nat) (v : Ring) : (s.setRing n r v).tenants = s.tenants := rfl
@[simp] theorem State.setRing_qos (n r : Nat) (v : Ring) : (s.setRing n r v).qos = s.qos := rfl
@[simp] theorem State.setRing_stp (n r : Nat) (v : Ring) : (s.setRing n r v).stp = s.stp := rfl
@[simp] theorem State.setRing_kln (n r : Nat) (v : Ring) : (s.setRing n r v).kln = s.kln := rfl
@[simp] theorem State.setRing_pages (n r : Nat) (v : Ring) : (s.setRing n r v).pages = s.pages := rfl
@[simp] theorem State.setRing_mem (n r : Nat) (v : Ring) : (s.setRing n r v).mem = s.mem := rfl
@[simp] theorem State.setRing_tags (n r : Nat) (v : Ring) : (s.setRing n r v).tags = s.tags := rfl
@[simp] theorem State.setRing_nextPage (n r : Nat) (v : Ring) : (s.setRing n r v).nextPage = s.nextPage := rfl
@[simp] theorem State.setRing_reads (n r : Nat) (v : Ring) : (s.setRing n r v).reads = s.reads := rfl
@[simp] theorem State.setRing_nextRead (n r : Nat) (v : Ring) : (s.setRing n r v).nextRead = s.nextRead := rfl
@[simp] theorem State.setRing_grs (n r : Nat) (v : Ring) : (s.setRing n r v).grs = s.grs := rfl
@[simp] theorem State.setRing_pool (n r : Nat) (v : Ring) : (s.setRing n r v).pool = s.pool := rfl
@[simp] theorem State.setRing_casks (n r : Nat) (v : Ring) : (s.setRing n r v).casks = s.casks := rfl
@[simp] theorem State.setRing_nextCask (n r : Nat) (v : Ring) : (s.setRing n r v).nextCask = s.nextCask := rfl
@[simp] theorem State.setRing_vers (n r : Nat) (v : Ring) : (s.setRing n r v).vers = s.vers := rfl
@[simp] theorem State.setRing_nextVer (n r : Nat) (v : Ring) : (s.setRing n r v).nextVer = s.nextVer := rfl
@[simp] theorem State.setRing_parts (n r : Nat) (v : Ring) : (s.setRing n r v).parts = s.parts.set n { s.part n with rings := (s.part n).rings.set r v } := rfl
@[simp] theorem State.setRing_ops (n r : Nat) (v : Ring) : (s.setRing n r v).ops = s.ops := rfl
@[simp] theorem State.setRing_opSeq (n r : Nat) (v : Ring) : (s.setRing n r v).opSeq = s.opSeq := rfl
@[simp] theorem State.setRing_turns (n r : Nat) (v : Ring) : (s.setRing n r v).turns = s.turns := rfl
@[simp] theorem State.setRing_ringTurns (n r : Nat) (v : Ring) : (s.setRing n r v).ringTurns = s.ringTurns := rfl
@[simp] theorem State.setRing_slots (n r : Nat) (v : Ring) : (s.setRing n r v).slots = s.slots := rfl
@[simp] theorem State.setRing_ports (n r : Nat) (v : Ring) : (s.setRing n r v).ports = s.ports := rfl
@[simp] theorem State.setRing_jrn (n r : Nat) (v : Ring) : (s.setRing n r v).jrn = s.jrn := rfl
@[simp] theorem State.setRing_geo (n r : Nat) (v : Ring) : (s.setRing n r v).geo = s.geo := rfl
@[simp] theorem State.setRing_stew (n r : Nat) (v : Ring) : (s.setRing n r v).stew = s.stew := rfl
@[simp] theorem State.setRing_rebuild (n r : Nat) (v : Ring) : (s.setRing n r v).rebuild = s.rebuild := rfl
@[simp] theorem State.setRing_latches (n r : Nat) (v : Ring) : (s.setRing n r v).latches = s.latches := rfl
@[simp] theorem State.setRing_outs (n r : Nat) (v : Ring) : (s.setRing n r v).outs = s.outs := rfl
@[simp] theorem State.setRing_freeCtr (n r : Nat) (v : Ring) : (s.setRing n r v).freeCtr = s.freeCtr := rfl
@[simp] theorem State.setRing_pending (n r : Nat) (v : Ring) : (s.setRing n r v).pending = s.pending := rfl

/-! ### setQueue -/

@[simp] theorem State.setQueue_fuses (k : Nat) (rs : List SteepReq) : (s.setQueue k rs).fuses = s.fuses := rfl
@[simp] theorem State.setQueue_store (k : Nat) (rs : List SteepReq) : (s.setQueue k rs).store = s.store := rfl
@[simp] theorem State.setQueue_rst (k : Nat) (rs : List SteepReq) : (s.setQueue k rs).rst = s.rst := rfl
@[simp] theorem State.setQueue_pins (k : Nat) (rs : List SteepReq) : (s.setQueue k rs).pins = s.pins := rfl
@[simp] theorem State.setQueue_clk (k : Nat) (rs : List SteepReq) : (s.setQueue k rs).clk = s.clk := rfl
@[simp] theorem State.setQueue_pwr (k : Nat) (rs : List SteepReq) : (s.setQueue k rs).pwr = s.pwr := rfl
@[simp] theorem State.setQueue_tim (k : Nat) (rs : List SteepReq) : (s.setQueue k rs).tim = s.tim := rfl
@[simp] theorem State.setQueue_flt (k : Nat) (rs : List SteepReq) : (s.setQueue k rs).flt = s.flt := rfl
@[simp] theorem State.setQueue_sec (k : Nat) (rs : List SteepReq) : (s.setQueue k rs).sec = s.sec := rfl
@[simp] theorem State.setQueue_tenants (k : Nat) (rs : List SteepReq) : (s.setQueue k rs).tenants = s.tenants := rfl
@[simp] theorem State.setQueue_qos (k : Nat) (rs : List SteepReq) : (s.setQueue k rs).qos = s.qos := rfl
@[simp] theorem State.setQueue_stp (k : Nat) (rs : List SteepReq) : (s.setQueue k rs).stp = { s.stp with reqs := s.stp.reqs.set k rs } := rfl
@[simp] theorem State.setQueue_kln (k : Nat) (rs : List SteepReq) : (s.setQueue k rs).kln = s.kln := rfl
@[simp] theorem State.setQueue_pages (k : Nat) (rs : List SteepReq) : (s.setQueue k rs).pages = s.pages := rfl
@[simp] theorem State.setQueue_mem (k : Nat) (rs : List SteepReq) : (s.setQueue k rs).mem = s.mem := rfl
@[simp] theorem State.setQueue_tags (k : Nat) (rs : List SteepReq) : (s.setQueue k rs).tags = s.tags := rfl
@[simp] theorem State.setQueue_nextPage (k : Nat) (rs : List SteepReq) : (s.setQueue k rs).nextPage = s.nextPage := rfl
@[simp] theorem State.setQueue_reads (k : Nat) (rs : List SteepReq) : (s.setQueue k rs).reads = s.reads := rfl
@[simp] theorem State.setQueue_nextRead (k : Nat) (rs : List SteepReq) : (s.setQueue k rs).nextRead = s.nextRead := rfl
@[simp] theorem State.setQueue_grs (k : Nat) (rs : List SteepReq) : (s.setQueue k rs).grs = s.grs := rfl
@[simp] theorem State.setQueue_pool (k : Nat) (rs : List SteepReq) : (s.setQueue k rs).pool = s.pool := rfl
@[simp] theorem State.setQueue_casks (k : Nat) (rs : List SteepReq) : (s.setQueue k rs).casks = s.casks := rfl
@[simp] theorem State.setQueue_nextCask (k : Nat) (rs : List SteepReq) : (s.setQueue k rs).nextCask = s.nextCask := rfl
@[simp] theorem State.setQueue_vers (k : Nat) (rs : List SteepReq) : (s.setQueue k rs).vers = s.vers := rfl
@[simp] theorem State.setQueue_nextVer (k : Nat) (rs : List SteepReq) : (s.setQueue k rs).nextVer = s.nextVer := rfl
@[simp] theorem State.setQueue_parts (k : Nat) (rs : List SteepReq) : (s.setQueue k rs).parts = s.parts := rfl
@[simp] theorem State.setQueue_ops (k : Nat) (rs : List SteepReq) : (s.setQueue k rs).ops = s.ops := rfl
@[simp] theorem State.setQueue_opSeq (k : Nat) (rs : List SteepReq) : (s.setQueue k rs).opSeq = s.opSeq := rfl
@[simp] theorem State.setQueue_turns (k : Nat) (rs : List SteepReq) : (s.setQueue k rs).turns = s.turns := rfl
@[simp] theorem State.setQueue_ringTurns (k : Nat) (rs : List SteepReq) : (s.setQueue k rs).ringTurns = s.ringTurns := rfl
@[simp] theorem State.setQueue_slots (k : Nat) (rs : List SteepReq) : (s.setQueue k rs).slots = s.slots := rfl
@[simp] theorem State.setQueue_ports (k : Nat) (rs : List SteepReq) : (s.setQueue k rs).ports = s.ports := rfl
@[simp] theorem State.setQueue_jrn (k : Nat) (rs : List SteepReq) : (s.setQueue k rs).jrn = s.jrn := rfl
@[simp] theorem State.setQueue_geo (k : Nat) (rs : List SteepReq) : (s.setQueue k rs).geo = s.geo := rfl
@[simp] theorem State.setQueue_stew (k : Nat) (rs : List SteepReq) : (s.setQueue k rs).stew = s.stew := rfl
@[simp] theorem State.setQueue_rebuild (k : Nat) (rs : List SteepReq) : (s.setQueue k rs).rebuild = s.rebuild := rfl
@[simp] theorem State.setQueue_latches (k : Nat) (rs : List SteepReq) : (s.setQueue k rs).latches = s.latches := rfl
@[simp] theorem State.setQueue_outs (k : Nat) (rs : List SteepReq) : (s.setQueue k rs).outs = s.outs := rfl
@[simp] theorem State.setQueue_freeCtr (k : Nat) (rs : List SteepReq) : (s.setQueue k rs).freeCtr = s.freeCtr := rfl
@[simp] theorem State.setQueue_pending (k : Nat) (rs : List SteepReq) : (s.setQueue k rs).pending = s.pending := rfl

/-! ### emit -/

@[simp] theorem State.emit_fuses (o : Out) : (s.emit o).fuses = s.fuses := rfl
@[simp] theorem State.emit_store (o : Out) : (s.emit o).store = s.store := rfl
@[simp] theorem State.emit_rst (o : Out) : (s.emit o).rst = s.rst := rfl
@[simp] theorem State.emit_pins (o : Out) : (s.emit o).pins = s.pins := rfl
@[simp] theorem State.emit_clk (o : Out) : (s.emit o).clk = s.clk := rfl
@[simp] theorem State.emit_pwr (o : Out) : (s.emit o).pwr = s.pwr := rfl
@[simp] theorem State.emit_tim (o : Out) : (s.emit o).tim = s.tim := rfl
@[simp] theorem State.emit_flt (o : Out) : (s.emit o).flt = s.flt := rfl
@[simp] theorem State.emit_sec (o : Out) : (s.emit o).sec = s.sec := rfl
@[simp] theorem State.emit_tenants (o : Out) : (s.emit o).tenants = s.tenants := rfl
@[simp] theorem State.emit_qos (o : Out) : (s.emit o).qos = s.qos := rfl
@[simp] theorem State.emit_stp (o : Out) : (s.emit o).stp = s.stp := rfl
@[simp] theorem State.emit_kln (o : Out) : (s.emit o).kln = s.kln := rfl
@[simp] theorem State.emit_pages (o : Out) : (s.emit o).pages = s.pages := rfl
@[simp] theorem State.emit_mem (o : Out) : (s.emit o).mem = s.mem := rfl
@[simp] theorem State.emit_tags (o : Out) : (s.emit o).tags = s.tags := rfl
@[simp] theorem State.emit_nextPage (o : Out) : (s.emit o).nextPage = s.nextPage := rfl
@[simp] theorem State.emit_reads (o : Out) : (s.emit o).reads = s.reads := rfl
@[simp] theorem State.emit_nextRead (o : Out) : (s.emit o).nextRead = s.nextRead := rfl
@[simp] theorem State.emit_grs (o : Out) : (s.emit o).grs = s.grs := rfl
@[simp] theorem State.emit_pool (o : Out) : (s.emit o).pool = s.pool := rfl
@[simp] theorem State.emit_casks (o : Out) : (s.emit o).casks = s.casks := rfl
@[simp] theorem State.emit_nextCask (o : Out) : (s.emit o).nextCask = s.nextCask := rfl
@[simp] theorem State.emit_vers (o : Out) : (s.emit o).vers = s.vers := rfl
@[simp] theorem State.emit_nextVer (o : Out) : (s.emit o).nextVer = s.nextVer := rfl
@[simp] theorem State.emit_parts (o : Out) : (s.emit o).parts = s.parts := rfl
@[simp] theorem State.emit_ops (o : Out) : (s.emit o).ops = s.ops := rfl
@[simp] theorem State.emit_opSeq (o : Out) : (s.emit o).opSeq = s.opSeq := rfl
@[simp] theorem State.emit_turns (o : Out) : (s.emit o).turns = s.turns := rfl
@[simp] theorem State.emit_ringTurns (o : Out) : (s.emit o).ringTurns = s.ringTurns := rfl
@[simp] theorem State.emit_slots (o : Out) : (s.emit o).slots = s.slots := rfl
@[simp] theorem State.emit_ports (o : Out) : (s.emit o).ports = s.ports := rfl
@[simp] theorem State.emit_jrn (o : Out) : (s.emit o).jrn = s.jrn := rfl
@[simp] theorem State.emit_geo (o : Out) : (s.emit o).geo = s.geo := rfl
@[simp] theorem State.emit_stew (o : Out) : (s.emit o).stew = s.stew := rfl
@[simp] theorem State.emit_rebuild (o : Out) : (s.emit o).rebuild = s.rebuild := rfl
@[simp] theorem State.emit_latches (o : Out) : (s.emit o).latches = s.latches := rfl
@[simp] theorem State.emit_outs (o : Out) : (s.emit o).outs = s.outs ++ [o] := rfl
@[simp] theorem State.emit_freeCtr (o : Out) : (s.emit o).freeCtr = s.freeCtr := rfl
@[simp] theorem State.emit_pending (o : Out) : (s.emit o).pending = s.pending := rfl

/-! ### success -/

@[simp] theorem State.success_fuses (l : List Nat) : (s.success l).fuses = s.fuses := rfl
@[simp] theorem State.success_store (l : List Nat) : (s.success l).store = s.store := rfl
@[simp] theorem State.success_rst (l : List Nat) : (s.success l).rst = s.rst := rfl
@[simp] theorem State.success_pins (l : List Nat) : (s.success l).pins = s.pins := rfl
@[simp] theorem State.success_clk (l : List Nat) : (s.success l).clk = s.clk := rfl
@[simp] theorem State.success_pwr (l : List Nat) : (s.success l).pwr = s.pwr := rfl
@[simp] theorem State.success_tim (l : List Nat) : (s.success l).tim = s.tim := rfl
@[simp] theorem State.success_flt (l : List Nat) : (s.success l).flt = s.flt := rfl
@[simp] theorem State.success_sec (l : List Nat) : (s.success l).sec = s.sec := rfl
@[simp] theorem State.success_tenants (l : List Nat) : (s.success l).tenants = s.tenants := rfl
@[simp] theorem State.success_qos (l : List Nat) : (s.success l).qos = s.qos := rfl
@[simp] theorem State.success_stp (l : List Nat) : (s.success l).stp = s.stp := rfl
@[simp] theorem State.success_kln (l : List Nat) : (s.success l).kln = s.kln := rfl
@[simp] theorem State.success_pages (l : List Nat) : (s.success l).pages = s.pages := rfl
@[simp] theorem State.success_mem (l : List Nat) : (s.success l).mem = s.mem := rfl
@[simp] theorem State.success_tags (l : List Nat) : (s.success l).tags = s.tags := rfl
@[simp] theorem State.success_nextPage (l : List Nat) : (s.success l).nextPage = s.nextPage := rfl
@[simp] theorem State.success_reads (l : List Nat) : (s.success l).reads = s.reads := rfl
@[simp] theorem State.success_nextRead (l : List Nat) : (s.success l).nextRead = s.nextRead := rfl
@[simp] theorem State.success_grs (l : List Nat) : (s.success l).grs = s.grs := rfl
@[simp] theorem State.success_pool (l : List Nat) : (s.success l).pool = s.pool := rfl
@[simp] theorem State.success_casks (l : List Nat) : (s.success l).casks = s.casks := rfl
@[simp] theorem State.success_nextCask (l : List Nat) : (s.success l).nextCask = s.nextCask := rfl
@[simp] theorem State.success_vers (l : List Nat) : (s.success l).vers = s.vers := rfl
@[simp] theorem State.success_nextVer (l : List Nat) : (s.success l).nextVer = s.nextVer := rfl
@[simp] theorem State.success_parts (l : List Nat) : (s.success l).parts = s.parts := rfl
@[simp] theorem State.success_ops (l : List Nat) : (s.success l).ops = s.ops := rfl
@[simp] theorem State.success_opSeq (l : List Nat) : (s.success l).opSeq = s.opSeq := rfl
@[simp] theorem State.success_turns (l : List Nat) : (s.success l).turns = s.turns := rfl
@[simp] theorem State.success_ringTurns (l : List Nat) : (s.success l).ringTurns = s.ringTurns := rfl
@[simp] theorem State.success_slots (l : List Nat) : (s.success l).slots = s.slots := rfl
@[simp] theorem State.success_ports (l : List Nat) : (s.success l).ports = s.ports := rfl
@[simp] theorem State.success_jrn (l : List Nat) : (s.success l).jrn = s.jrn := rfl
@[simp] theorem State.success_geo (l : List Nat) : (s.success l).geo = s.geo := rfl
@[simp] theorem State.success_stew (l : List Nat) : (s.success l).stew = s.stew := rfl
@[simp] theorem State.success_rebuild (l : List Nat) : (s.success l).rebuild = s.rebuild := rfl
@[simp] theorem State.success_latches (l : List Nat) : (s.success l).latches = s.latches := rfl
@[simp] theorem State.success_outs (l : List Nat) : (s.success l).outs = s.outs ++ [.mgmt "Success" none l] := rfl
@[simp] theorem State.success_freeCtr (l : List Nat) : (s.success l).freeCtr = s.freeCtr := rfl
@[simp] theorem State.success_pending (l : List Nat) : (s.success l).pending = s.pending := rfl

/-! ### refuse -/

@[simp] theorem State.refuse_fuses (st : Status) : (s.refuse st).fuses = s.fuses := rfl
@[simp] theorem State.refuse_store (st : Status) : (s.refuse st).store = s.store := rfl
@[simp] theorem State.refuse_rst (st : Status) : (s.refuse st).rst = s.rst := rfl
@[simp] theorem State.refuse_pins (st : Status) : (s.refuse st).pins = s.pins := rfl
@[simp] theorem State.refuse_clk (st : Status) : (s.refuse st).clk = s.clk := rfl
@[simp] theorem State.refuse_pwr (st : Status) : (s.refuse st).pwr = s.pwr := rfl
@[simp] theorem State.refuse_tim (st : Status) : (s.refuse st).tim = s.tim := rfl
@[simp] theorem State.refuse_flt (st : Status) : (s.refuse st).flt = s.flt := rfl
@[simp] theorem State.refuse_sec (st : Status) : (s.refuse st).sec = s.sec := rfl
@[simp] theorem State.refuse_tenants (st : Status) : (s.refuse st).tenants = s.tenants := rfl
@[simp] theorem State.refuse_qos (st : Status) : (s.refuse st).qos = s.qos := rfl
@[simp] theorem State.refuse_stp (st : Status) : (s.refuse st).stp = s.stp := rfl
@[simp] theorem State.refuse_kln (st : Status) : (s.refuse st).kln = s.kln := rfl
@[simp] theorem State.refuse_pages (st : Status) : (s.refuse st).pages = s.pages := rfl
@[simp] theorem State.refuse_mem (st : Status) : (s.refuse st).mem = s.mem := rfl
@[simp] theorem State.refuse_tags (st : Status) : (s.refuse st).tags = s.tags := rfl
@[simp] theorem State.refuse_nextPage (st : Status) : (s.refuse st).nextPage = s.nextPage := rfl
@[simp] theorem State.refuse_reads (st : Status) : (s.refuse st).reads = s.reads := rfl
@[simp] theorem State.refuse_nextRead (st : Status) : (s.refuse st).nextRead = s.nextRead := rfl
@[simp] theorem State.refuse_grs (st : Status) : (s.refuse st).grs = s.grs := rfl
@[simp] theorem State.refuse_pool (st : Status) : (s.refuse st).pool = s.pool := rfl
@[simp] theorem State.refuse_casks (st : Status) : (s.refuse st).casks = s.casks := rfl
@[simp] theorem State.refuse_nextCask (st : Status) : (s.refuse st).nextCask = s.nextCask := rfl
@[simp] theorem State.refuse_vers (st : Status) : (s.refuse st).vers = s.vers := rfl
@[simp] theorem State.refuse_nextVer (st : Status) : (s.refuse st).nextVer = s.nextVer := rfl
@[simp] theorem State.refuse_parts (st : Status) : (s.refuse st).parts = s.parts := rfl
@[simp] theorem State.refuse_ops (st : Status) : (s.refuse st).ops = s.ops := rfl
@[simp] theorem State.refuse_opSeq (st : Status) : (s.refuse st).opSeq = s.opSeq := rfl
@[simp] theorem State.refuse_turns (st : Status) : (s.refuse st).turns = s.turns := rfl
@[simp] theorem State.refuse_ringTurns (st : Status) : (s.refuse st).ringTurns = s.ringTurns := rfl
@[simp] theorem State.refuse_slots (st : Status) : (s.refuse st).slots = s.slots := rfl
@[simp] theorem State.refuse_ports (st : Status) : (s.refuse st).ports = s.ports := rfl
@[simp] theorem State.refuse_jrn (st : Status) : (s.refuse st).jrn = s.jrn := rfl
@[simp] theorem State.refuse_geo (st : Status) : (s.refuse st).geo = s.geo := rfl
@[simp] theorem State.refuse_stew (st : Status) : (s.refuse st).stew = s.stew := rfl
@[simp] theorem State.refuse_rebuild (st : Status) : (s.refuse st).rebuild = s.rebuild := rfl
@[simp] theorem State.refuse_latches (st : Status) : (s.refuse st).latches = s.latches := rfl
@[simp] theorem State.refuse_outs (st : Status) : (s.refuse st).outs = s.outs ++ [.mgmt "Invalid Input" (some st) []] := rfl
@[simp] theorem State.refuse_freeCtr (st : Status) : (s.refuse st).freeCtr = s.freeCtr := rfl
@[simp] theorem State.refuse_pending (st : Status) : (s.refuse st).pending = s.pending := rfl

/-! ### busy -/

@[simp] theorem State.busy_fuses (l : List Nat) : (s.busy l).fuses = s.fuses := rfl
@[simp] theorem State.busy_store (l : List Nat) : (s.busy l).store = s.store := rfl
@[simp] theorem State.busy_rst (l : List Nat) : (s.busy l).rst = s.rst := rfl
@[simp] theorem State.busy_pins (l : List Nat) : (s.busy l).pins = s.pins := rfl
@[simp] theorem State.busy_clk (l : List Nat) : (s.busy l).clk = s.clk := rfl
@[simp] theorem State.busy_pwr (l : List Nat) : (s.busy l).pwr = s.pwr := rfl
@[simp] theorem State.busy_tim (l : List Nat) : (s.busy l).tim = s.tim := rfl
@[simp] theorem State.busy_flt (l : List Nat) : (s.busy l).flt = s.flt := rfl
@[simp] theorem State.busy_sec (l : List Nat) : (s.busy l).sec = s.sec := rfl
@[simp] theorem State.busy_tenants (l : List Nat) : (s.busy l).tenants = s.tenants := rfl
@[simp] theorem State.busy_qos (l : List Nat) : (s.busy l).qos = s.qos := rfl
@[simp] theorem State.busy_stp (l : List Nat) : (s.busy l).stp = s.stp := rfl
@[simp] theorem State.busy_kln (l : List Nat) : (s.busy l).kln = s.kln := rfl
@[simp] theorem State.busy_pages (l : List Nat) : (s.busy l).pages = s.pages := rfl
@[simp] theorem State.busy_mem (l : List Nat) : (s.busy l).mem = s.mem := rfl
@[simp] theorem State.busy_tags (l : List Nat) : (s.busy l).tags = s.tags := rfl
@[simp] theorem State.busy_nextPage (l : List Nat) : (s.busy l).nextPage = s.nextPage := rfl
@[simp] theorem State.busy_reads (l : List Nat) : (s.busy l).reads = s.reads := rfl
@[simp] theorem State.busy_nextRead (l : List Nat) : (s.busy l).nextRead = s.nextRead := rfl
@[simp] theorem State.busy_grs (l : List Nat) : (s.busy l).grs = s.grs := rfl
@[simp] theorem State.busy_pool (l : List Nat) : (s.busy l).pool = s.pool := rfl
@[simp] theorem State.busy_casks (l : List Nat) : (s.busy l).casks = s.casks := rfl
@[simp] theorem State.busy_nextCask (l : List Nat) : (s.busy l).nextCask = s.nextCask := rfl
@[simp] theorem State.busy_vers (l : List Nat) : (s.busy l).vers = s.vers := rfl
@[simp] theorem State.busy_nextVer (l : List Nat) : (s.busy l).nextVer = s.nextVer := rfl
@[simp] theorem State.busy_parts (l : List Nat) : (s.busy l).parts = s.parts := rfl
@[simp] theorem State.busy_ops (l : List Nat) : (s.busy l).ops = s.ops := rfl
@[simp] theorem State.busy_opSeq (l : List Nat) : (s.busy l).opSeq = s.opSeq := rfl
@[simp] theorem State.busy_turns (l : List Nat) : (s.busy l).turns = s.turns := rfl
@[simp] theorem State.busy_ringTurns (l : List Nat) : (s.busy l).ringTurns = s.ringTurns := rfl
@[simp] theorem State.busy_slots (l : List Nat) : (s.busy l).slots = s.slots := rfl
@[simp] theorem State.busy_ports (l : List Nat) : (s.busy l).ports = s.ports := rfl
@[simp] theorem State.busy_jrn (l : List Nat) : (s.busy l).jrn = s.jrn := rfl
@[simp] theorem State.busy_geo (l : List Nat) : (s.busy l).geo = s.geo := rfl
@[simp] theorem State.busy_stew (l : List Nat) : (s.busy l).stew = s.stew := rfl
@[simp] theorem State.busy_rebuild (l : List Nat) : (s.busy l).rebuild = s.rebuild := rfl
@[simp] theorem State.busy_latches (l : List Nat) : (s.busy l).latches = s.latches := rfl
@[simp] theorem State.busy_outs (l : List Nat) : (s.busy l).outs = s.outs ++ [.mgmt "Invalid Input" (some .busy) l] := rfl
@[simp] theorem State.busy_freeCtr (l : List Nat) : (s.busy l).freeCtr = s.freeCtr := rfl
@[simp] theorem State.busy_pending (l : List Nat) : (s.busy l).pending = s.pending := rfl

/-! ### answer -/

@[simp] theorem State.answer_fuses (c : String) (l : List Nat) : (s.answer c l).fuses = s.fuses := rfl
@[simp] theorem State.answer_store (c : String) (l : List Nat) : (s.answer c l).store = s.store := rfl
@[simp] theorem State.answer_rst (c : String) (l : List Nat) : (s.answer c l).rst = s.rst := rfl
@[simp] theorem State.answer_pins (c : String) (l : List Nat) : (s.answer c l).pins = s.pins := rfl
@[simp] theorem State.answer_clk (c : String) (l : List Nat) : (s.answer c l).clk = s.clk := rfl
@[simp] theorem State.answer_pwr (c : String) (l : List Nat) : (s.answer c l).pwr = s.pwr := rfl
@[simp] theorem State.answer_tim (c : String) (l : List Nat) : (s.answer c l).tim = s.tim := rfl
@[simp] theorem State.answer_flt (c : String) (l : List Nat) : (s.answer c l).flt = s.flt := rfl
@[simp] theorem State.answer_sec (c : String) (l : List Nat) : (s.answer c l).sec = s.sec := rfl
@[simp] theorem State.answer_tenants (c : String) (l : List Nat) : (s.answer c l).tenants = s.tenants := rfl
@[simp] theorem State.answer_qos (c : String) (l : List Nat) : (s.answer c l).qos = s.qos := rfl
@[simp] theorem State.answer_stp (c : String) (l : List Nat) : (s.answer c l).stp = s.stp := rfl
@[simp] theorem State.answer_kln (c : String) (l : List Nat) : (s.answer c l).kln = s.kln := rfl
@[simp] theorem State.answer_pages (c : String) (l : List Nat) : (s.answer c l).pages = s.pages := rfl
@[simp] theorem State.answer_mem (c : String) (l : List Nat) : (s.answer c l).mem = s.mem := rfl
@[simp] theorem State.answer_tags (c : String) (l : List Nat) : (s.answer c l).tags = s.tags := rfl
@[simp] theorem State.answer_nextPage (c : String) (l : List Nat) : (s.answer c l).nextPage = s.nextPage := rfl
@[simp] theorem State.answer_reads (c : String) (l : List Nat) : (s.answer c l).reads = s.reads := rfl
@[simp] theorem State.answer_nextRead (c : String) (l : List Nat) : (s.answer c l).nextRead = s.nextRead := rfl
@[simp] theorem State.answer_grs (c : String) (l : List Nat) : (s.answer c l).grs = s.grs := rfl
@[simp] theorem State.answer_pool (c : String) (l : List Nat) : (s.answer c l).pool = s.pool := rfl
@[simp] theorem State.answer_casks (c : String) (l : List Nat) : (s.answer c l).casks = s.casks := rfl
@[simp] theorem State.answer_nextCask (c : String) (l : List Nat) : (s.answer c l).nextCask = s.nextCask := rfl
@[simp] theorem State.answer_vers (c : String) (l : List Nat) : (s.answer c l).vers = s.vers := rfl
@[simp] theorem State.answer_nextVer (c : String) (l : List Nat) : (s.answer c l).nextVer = s.nextVer := rfl
@[simp] theorem State.answer_parts (c : String) (l : List Nat) : (s.answer c l).parts = s.parts := rfl
@[simp] theorem State.answer_ops (c : String) (l : List Nat) : (s.answer c l).ops = s.ops := rfl
@[simp] theorem State.answer_opSeq (c : String) (l : List Nat) : (s.answer c l).opSeq = s.opSeq := rfl
@[simp] theorem State.answer_turns (c : String) (l : List Nat) : (s.answer c l).turns = s.turns := rfl
@[simp] theorem State.answer_ringTurns (c : String) (l : List Nat) : (s.answer c l).ringTurns = s.ringTurns := rfl
@[simp] theorem State.answer_slots (c : String) (l : List Nat) : (s.answer c l).slots = s.slots := rfl
@[simp] theorem State.answer_ports (c : String) (l : List Nat) : (s.answer c l).ports = s.ports := rfl
@[simp] theorem State.answer_jrn (c : String) (l : List Nat) : (s.answer c l).jrn = s.jrn := rfl
@[simp] theorem State.answer_geo (c : String) (l : List Nat) : (s.answer c l).geo = s.geo := rfl
@[simp] theorem State.answer_stew (c : String) (l : List Nat) : (s.answer c l).stew = s.stew := rfl
@[simp] theorem State.answer_rebuild (c : String) (l : List Nat) : (s.answer c l).rebuild = s.rebuild := rfl
@[simp] theorem State.answer_latches (c : String) (l : List Nat) : (s.answer c l).latches = s.latches := rfl
@[simp] theorem State.answer_outs (c : String) (l : List Nat) : (s.answer c l).outs = s.outs ++ [.mgmt c none l] := rfl
@[simp] theorem State.answer_freeCtr (c : String) (l : List Nat) : (s.answer c l).freeCtr = s.freeCtr := rfl
@[simp] theorem State.answer_pending (c : String) (l : List Nat) : (s.answer c l).pending = s.pending := rfl

/-! ### Accessors -/

@[simp] theorem State.port_setPort_self (p : Nat) (v : Port) : (s.setPort p v).port p = v := by simp [State.port]
theorem State.port_setPort_ne {p q : Nat} (v : Port) (h : q ≠ p) : (s.setPort p v).port q = s.port q := by simp [State.port, Map.get_set_ne _ _ _ h]
@[simp] theorem State.part_setPart_self (n : Nat) (v : Partner) : (s.setPart n v).part n = v := by simp [State.part]
theorem State.part_setPart_ne {n m : Nat} (v : Partner) (h : m ≠ n) : (s.setPart n v).part m = s.part m := by simp [State.part, Map.get_set_ne _ _ _ h]
@[simp] theorem State.slot_setSlot_self (n : Nat) (v : Slot) : (s.setSlot n v).slot n = v := by simp [State.slot]
theorem State.slot_setSlot_ne {n m : Nat} (v : Slot) (h : m ≠ n) : (s.setSlot n v).slot m = s.slot m := by simp [State.slot, Map.get_set_ne _ _ _ h]
@[simp] theorem State.ring_setRing_self (n r : Nat) (v : Ring) : (s.setRing n r v).ring n r = v := by simp [State.ring, State.part, Partner.ring]
@[simp] theorem State.queue_setQueue_self (k : Nat) (rs : List SteepReq) : (s.setQueue k rs).queue k = rs := by simp [State.queue]
theorem State.queue_setQueue_ne {k j : Nat} (rs : List SteepReq) (h : j ≠ k) : (s.setQueue k rs).queue j = s.queue j := by simp [State.queue, Map.get_set_ne _ _ _ h]

end Sys2Proof.Machine
end

