-- ==== Sys2Proof/Laws/Mgmt.lean ====
section
/-! SUPPORT. What the shared operations around a command do: recording and its steep requests, waking, and the gate of the management endpoint. -/

namespace Sys2Proof.Machine

/-! ### Waits -/

theorem State.OpsWaited.refl (s : State) : s.OpsWaited s := fun _ => rfl

/-- The entries keep their numbers. -/
theorem State.OpsWaited.ids {s t : State} (h : s.OpsWaited t) (hn : (s.ops.map (·.id)).Nodup) : t.ops.map (·.id) = s.ops.map (·.id) := by
  have := congrArg (List.map (·.id)) (h hn)
  simpa [List.map_map, Function.comp_def] using this

theorem State.OpsWaited.trans {s t u : State} (h1 : s.OpsWaited t) (h2 : t.OpsWaited u) : s.OpsWaited u := fun hn =>
  (h2 (by rw [h1.ids hn]; exact hn)).trans (h1 hn)

/-- `t` is `s` but for the queues of the steep controllers, waits counted, and nanoseconds of waiting added to operations (R128, R313). -/
def State.Regulated (s t : State) : Prop :=
  s.OpsWaited t ∧ t = { s with stp := t.stp, kln := { s.kln with stalls := t.kln.stalls }, ops := t.ops }

theorem State.Regulated.refl (s : State) : s.Regulated s := ⟨.refl s, rfl⟩

theorem State.Regulated.trans {s t u : State} (h1 : s.Regulated t) (h2 : t.Regulated u) : s.Regulated u := by
  refine ⟨h1.1.trans h2.1, ?_⟩
  have a := h1.2
  have b := h2.2
  rw [a] at b
  exact b

theorem State.Regulated.ite {s a b : State} {c : Prop} [Decidable c] (ha : s.Regulated a) (hb : s.Regulated b) : s.Regulated (if c then a else b) := by
  split
  · exact ha
  · exact hb

/-- What touches the steep controllers alone. -/
theorem State.Regulated.of_stp (s : State) (x : Stp) : s.Regulated { s with stp := x } := ⟨fun _ => rfl, rfl⟩

theorem State.Regulated.after {s t : State} {x : Stp} (h : State.Regulated { s with stp := x } t) : s.Regulated t := (State.Regulated.of_stp s x).trans h

theorem State.Regulated.setQueue (s : State) (k : Nat) (rs : List SteepReq) : s.Regulated (s.setQueue k rs) := ⟨fun _ => rfl, rfl⟩

/-- Counting a wait touches the stalls only (R128). -/
theorem State.stall_only (s : State) (c : StallCause) (ns : Nat) : s.stall c ns = { s with kln := (s.stall c ns).kln } := rfl

theorem State.Regulated.stall (s : State) (c : StallCause) (ns : Nat) : s.Regulated (s.stall c ns) := ⟨fun _ => rfl, rfl⟩

/-- An entry of a list without repeated numbers is the one found by its number. -/
theorem ops_find {l : List Op} {id : Nat} {o p : Op} (hn : (l.map (·.id)).Nodup) (ho : l.find? (fun x => x.id == id) = some o)
    (hp : p ∈ l) (hid : p.id = o.id) : p = o := by
  have hm := List.mem_of_find?_eq_some ho
  exact List.inj_on_of_nodup_map hn hp hm hid

/-- Nanoseconds of waiting added to one entry. -/
theorem State.Regulated.setOp {s : State} {id : Nat} {o : Op} (ho : s.op? id = some o) (ns : Nat) :
    s.Regulated (s.setOp { o with stallNs := o.stallNs + ns }) := by
  refine ⟨fun hn => ?_, rfl⟩
  simp only [State.setOp, List.map_map]
  refine List.map_congr_left fun p hp => ?_
  simp only [Function.comp_apply]
  split
  · next h => rw [ops_find hn ho hp (by simpa using h)]
  · rfl

/-- A wait of a request is counted under its cause and to its operation (R128). -/
theorem State.Regulated.waited (s : State) (op : Option Nat) (c : StallCause) (ns : Nat) : s.Regulated (s.waited op c ns) := by
  unfold State.waited
  refine (State.Regulated.stall s c ns).trans ?_
  simp only
  split
  · next o h =>
    obtain ⟨id, -, ho⟩ := Option.bind_eq_some_iff.mp h
    exact .setOp ho ns
  · exact .refl _

/-! ### Grants -/

/-- A grant (R317). -/
theorem State.Regulated.give (s : State) (stack : Nat) (r : SteepReq) (k : Nat) : s.Regulated (s.give stack r k) := by
  have step : ∀ (t : State) (h : s.Regulated t) (x : State), t.Regulated x → s.Regulated x := fun _ h _ => h.trans
  unfold State.give
  extract_lets last r1 s1 turns x s2
  refine step s2 ((State.Regulated.setQueue s stack _).trans (.of_stp s1 _)) _ ?_
  split
  · exact .ite (.waited _ _ _ _) (.refl _)
  · exact .refl _

theorem State.Regulated.grantN (s : State) (stack n : Nat) : s.Regulated (s.grantN stack n) := by
  induction n generalizing s with
  | zero => exact .refl s
  | succ n ih =>
    unfold State.grantN
    split
    · exact .refl s
    · exact (State.Regulated.give s _ _ _).trans (ih _)

/-- The grants of one stack. -/
theorem State.Regulated.grant (s : State) (stack : Nat) : s.Regulated (s.grant stack) :=
  (State.Regulated.of_stp s { s.stp with urgent := s.stp.urgent.filter s.urgentReads }).trans (.grantN _ stack _)

/-- The grants of every stack (R321). -/
theorem State.Regulated.grantAll (s : State) : s.Regulated s.grantAll := by
  unfold State.grantAll
  generalize List.range 8 = l
  induction l generalizing s with
  | nil => exact .refl s
  | cons k l ih => exact (State.Regulated.grant s k).trans (ih _)

/-- A request of the device itself lets no time pass: it joins a queue and may be granted (R313, R317). -/
theorem State.Regulated.steepReq_device (s : State) (m : Master) (cls stack line lines : Nat) (write : Bool) :
    s.Regulated (s.steepReq .device m cls stack line lines write) := by
  unfold State.steepReq State.waitGap
  simp only [ne_eq, not_true_eq_false, and_false, if_false, if_true]
  refine .ite (.refl s) ?_
  exact (((State.Regulated.setQueue s stack _).trans (.of_stp _ _)).trans (.grant _ stack)).trans (.setQueue _ _ _)

/-! ### Recording -/

/-- `t` is `u` with what recording adds, on or off. -/
def State.Journaled (u t : State) : Prop :=
  u.OpsWaited t ∧ t = { u with jrn := t.jrn, freeCtr := t.freeCtr, stp := t.stp, kln := { u.kln with stalls := t.kln.stalls }, ops := t.ops }

theorem State.Journaled.refl (s : State) : s.Journaled s := ⟨.refl s, rfl⟩

theorem State.Journaled.trans {s t u : State} (h1 : s.Journaled t) (h2 : t.Journaled u) : s.Journaled u := by
  refine ⟨h1.1.trans h2.1, ?_⟩
  have a := h1.2
  have b := h2.2
  rw [a] at b
  exact b

/-- Recording touches the replay journal, the free-value counter and the steep controllers (R396, R402, R312). -/
theorem State.Journaled.journal (s : State) (ty : Nat) (body : List Byte) : s.Journaled (s.journal ty body) := by
  unfold State.journal
  split
  · exact .refl s
  · split
    · exact ⟨fun _ => rfl, rfl⟩
    · next n _ =>
      simp only
      generalize (if s.jrn.gap = 0 then s.jrn else _) = j
      have h := State.Regulated.steepReq_device { s with freeCtr := s.freeCtr + 1, jrn := j.put ty body } .internal 5
        (Config.ringStack j.next % 8) j.next (ceilDiv (jrnLen ⟨j.next, ty, body⟩) 64) true
      refine ⟨h.1, ?_⟩
      rw [h.2]

/-- A CONFIG snapshot does no more. -/
theorem State.Journaled.snapshot (s : State) : s.Journaled s.snapshot := by
  unfold State.snapshot
  split
  · exact .journal s _ _
  · exact .refl s

/-- What a recorded command adds to its own effect. -/
theorem State.recordCommand_recorded (s before : State) (opcode : Nat) (params : List Byte) :
    s.Recorded (s.recordCommand before opcode params) := by
  unfold State.Recorded State.recordCommand
  split
  · exact ⟨fun _ => rfl, .refl s, rfl⟩
  · next hr =>
    refine ⟨fun h => absurd h (by simpa using hr), ?_⟩
    split
    · exact State.Journaled.refl s
    · exact (State.Journaled.journal s _ _).trans (.snapshot _)

/-! ### Waking and the management endpoint -/

/-- Time passing touches the timers only (R379). -/
theorem State.advance_only (s : State) (ns : Nat) : s.advance ns = { s with tim := (s.advance ns).tim } := by
  unfold State.advance
  split <;> rfl

theorem State.awaken_active {s : State} (h : s.pwr.state = .active) : s.awaken = s := by simp [State.awaken, h]

/-- A command wakes the device, but for those that need no sleeping unit (R353, R359). -/
theorem State.awakenFor_other {s : State} {opcode : Nat} (h : [0xC610, 0xC611, 0xC630, 0xC640, 0xC641].contains opcode = false) :
    s.awakenFor opcode = s.awaken := by
  unfold State.awakenFor
  rw [h]
  rfl

/-- The gate lets a command of an owner session through (R336, R361, R393, R394, R436). -/
theorem State.mgmt_through {s : State} {ses : Nat} (h : Commanded s ses) (kind : MgmtKind) (hk : kind = .poolState → s.Unparked)
    (opcode : Nat) (params : List Byte) (k : State → State) :
    s.mgmt ses kind opcode params k = (k (s.awakenFor opcode)).recordCommand (s.awakenFor opcode) opcode params := by
  have h1 : s.endpointUp = true := by simp [State.endpointUp, h.stage]
  have h2 : ¬ ((s.pwr.state = .parked ∨ s.pwr.state = .leaving ∨ s.pwr.state = .entering) ∧ kind = .poolState) := by
    rintro ⟨hp, rfl⟩
    rcases hk rfl with h | h | h <;> simp [h] at hp
  unfold State.mgmt
  simp [h1, h.session, h.noTakeover, h.stage, h.noShed, h2]

/-- A session that is not the owner's is answered Invalid Security State, whatever it asks (R336). -/
theorem State.mgmt_unauthorised {s : State} {ses : Nat} (hu : s.endpointUp = true) (ha : s.authorised ses = false)
    (kind : MgmtKind) (opcode : Nat) (params : List Byte) (k : State → State) :
    s.mgmt ses kind opcode params k = s.answer "Invalid Security State" [] := by
  simp [State.mgmt, hu, ha]

end Sys2Proof.Machine
end

