-- ==== Sys2Proof/Laws/PerInstr.lean ====
section
/-! SUPPORT. The family of statements made per command: a well-formed command that arrives through a port names one of the 28 ports (R279). -/

namespace Sys2Proof.Laws.Operands

/-- The port that a well-formed command names is a port of the device. -/
def Statement (i : Instr) : Prop := i.wellFormed = true → ∀ p ∈ i.port?, p < 28

/-- A command that arrives through no port. -/
theorem of_none {i : Instr} (h : i.port? = none) : Statement i := fun _ p hp => by
  rw [h] at hp
  cases hp

/-- A command whose check includes its port's. -/
theorem of_port {i : Instr} {q : Nat} (h : i.port? = some q) (hq : i.wellFormed = true → portOk q = true) : Statement i := fun w p hp => by
  rw [h] at hp
  cases hp
  exact of_decide_eq_true (hq w)

theorem descriptorFetch (x0 : Nat) (x1 : Nat) (x2 : List Word) : Statement (.descriptorFetch x0 x1 x2) := of_none rfl
theorem descriptorReadFailed (x0 : Nat) (x1 : Nat) (x2 : ReadFail) : Statement (.descriptorReadFailed x0 x1 x2) := of_none rfl
theorem descriptorComplete (x0 : Nat) : Statement (.descriptorComplete x0) := of_none rfl
theorem recordWriteFailed (x0 : Nat) : Statement (.recordWriteFailed x0) := of_none rfl
theorem fenceRelease (x0 : Nat) : Statement (.fenceRelease x0) := of_none rfl
theorem nopFence (x0 : Nat) : Statement (.nopFence x0) := of_none rfl
theorem heartbeat (x0 : Nat) : Statement (.heartbeat x0) := of_none rfl
theorem copy (x0 : Nat) : Statement (.copy x0) := of_none rfl
theorem fill (x0 : Nat) : Statement (.fill x0) := of_none rfl
theorem compare (x0 : Nat) : Statement (.compare x0) := of_none rfl
theorem compareAndSwap (x0 : Nat) : Statement (.compareAndSwap x0) := of_none rfl
theorem reduce (x0 : Nat) : Statement (.reduce x0) := of_none rfl
theorem loadGrist (x0 : Nat) : Statement (.loadGrist x0) := of_none rfl
theorem storeGrist (x0 : Nat) : Statement (.storeGrist x0) := of_none rfl
theorem caskOpen (x0 : Nat) : Statement (.caskOpen x0) := of_none rfl
theorem caskCommit (x0 : Nat) : Statement (.caskCommit x0) := of_none rfl
theorem caskClose (x0 : Nat) : Statement (.caskClose x0) := of_none rfl
theorem caskDrop (x0 : Nat) : Statement (.caskDrop x0) := of_none rfl
theorem pageHint (x0 : Nat) : Statement (.pageHint x0) := of_none rfl
theorem pin (x0 : Nat) : Statement (.pin x0) := of_none rfl
theorem unpin (x0 : Nat) : Statement (.unpin x0) := of_none rfl
theorem slotBind (x0 : Nat) : Statement (.slotBind x0) := of_none rfl
theorem append (x0 : Nat) : Statement (.append x0) := of_none rfl
theorem attend (x0 : Nat) : Statement (.attend x0) := of_none rfl
theorem slotPark (x0 : Nat) : Statement (.slotPark x0) := of_none rfl
theorem slotResume (x0 : Nat) : Statement (.slotResume x0) := of_none rfl
theorem slotUnbind (x0 : Nat) : Statement (.slotUnbind x0) := of_none rfl
theorem picotRebuild (x0 : Nat) : Statement (.picotRebuild x0) := of_none rfl
theorem tableLoad (x0 : Nat) : Statement (.tableLoad x0) := of_none rfl
theorem tableRetire (x0 : Nat) : Statement (.tableRetire x0) := of_none rfl
theorem peerRead (x0 : Nat) : Statement (.peerRead x0) := of_none rfl
theorem peerWrite (x0 : Nat) : Statement (.peerWrite x0) := of_none rfl
theorem portSession (x0 : Nat) : Statement (.portSession x0) := of_none rfl
theorem journalMark (x0 : Nat) : Statement (.journalMark x0) := of_none rfl
theorem slotCallStart (x0 : Nat) : Statement (.slotCallStart x0) := of_none rfl
theorem slotTurnTimeout (x0 : Nat) : Statement (.slotTurnTimeout x0) := of_none rfl
theorem fastMarkingApply (x0 : Nat) : Statement (.fastMarkingApply x0) := of_none rfl
theorem bobSlotDb (x0 : Via) (x1 : Nat) (x2 : Word) (x3 : Nat) : Statement (.bobSlotDb x0 x1 x2 x3) := of_port rfl (fun w => by simp only [Instr.wellFormed, Bool.and_eq_true] at w; tauto)
theorem mailboxCallComplete (x0 : Nat) : Statement (.mailboxCallComplete x0) := of_none rfl
theorem ringSqDb (x0 : Nat) (x1 : Nat) (x2 : Nat) (x3 : Word) (x4 : Nat) (x5 : Option Nat) : Statement (.ringSqDb x0 x1 x2 x3 x4 x5) := of_port rfl (fun w => by simp only [Instr.wellFormed, Bool.and_eq_true] at w; tauto)
theorem ringCqDb (x0 : Nat) (x1 : Nat) (x2 : Word) (x3 : Nat) (x4 : Option Nat) : Statement (.ringCqDb x0 x1 x2 x3 x4) := of_port rfl (fun w => by simp only [Instr.wellFormed, Bool.and_eq_true] at w; tauto)
theorem ringEnable (x0 : Nat) (x1 : Nat) (x2 : Nat) (x3 : Word) (x4 : Option Nat) : Statement (.ringEnable x0 x1 x2 x3 x4) := of_port rfl (fun w => by simp only [Instr.wellFormed, Bool.and_eq_true] at w; tauto)
theorem ringDisableSq (x0 : Nat) (x1 : Nat) (x2 : Nat) (x3 : Word) (x4 : Option Nat) : Statement (.ringDisableSq x0 x1 x2 x3 x4) := of_port rfl (fun w => by simp only [Instr.wellFormed, Bool.and_eq_true] at w; tauto)
theorem ringDisableCq (x0 : Nat) (x1 : Nat) (x2 : Word) (x3 : Option Nat) : Statement (.ringDisableCq x0 x1 x2 x3) := of_port rfl (fun w => by simp only [Instr.wellFormed, Bool.and_eq_true] at w; tauto)
theorem cqDisableTakesEffect (x0 : Nat) : Statement (.cqDisableTakesEffect x0) := of_none rfl
theorem irqCoalesceExpiry (x0 : Nat) : Statement (.irqCoalesceExpiry x0) := of_none rfl
theorem msixUnmask (x0 : Via) (x1 : Nat) : Statement (.msixUnmask x0 x1) := of_port rfl (fun w => by simp only [Instr.wellFormed, Bool.and_eq_true] at w; tauto)
theorem busMasterEnableClear (x0 : Nat) : Statement (.busMasterEnableClear x0) := of_port rfl (fun w => w)
theorem busMasterEnableSet (x0 : Nat) : Statement (.busMasterEnableSet x0) := of_port rfl (fun w => w)
theorem flr (x0 : Nat) : Statement (.flr x0) := of_port rfl (fun w => w)
theorem d3hotEntry (x0 : Nat) : Statement (.d3hotEntry x0) := of_port rfl (fun w => w)
theorem d0Return (x0 : Nat) : Statement (.d0Return x0) := of_port rfl (fun w => w)
theorem perst (x0 : Nat) : Statement (.perst x0) := of_port rfl (fun w => w)
theorem linkLoss (x0 : Nat) : Statement (.linkLoss x0) := of_port rfl (fun w => w)
theorem linkUp (x0 : Nat) (x1 : Nat) (x2 : Nat) (x3 : Bool) (x4 : Bool) : Statement (.linkUp x0 x1 x2 x3 x4) := of_port rfl (fun w => by simp only [Instr.wellFormed, Bool.and_eq_true] at w; tauto)
theorem l0pEntry (x0 : Nat) : Statement (.l0pEntry x0) := of_port rfl (fun w => w)
theorem l1Entry (x0 : Nat) : Statement (.l1Entry x0) := of_port rfl (fun w => w)
theorem cxlMemRead (x0 : Nat) (x1 : Nat) (x2 : Nat) (x3 : Option Nat) : Statement (.cxlMemRead x0 x1 x2 x3) := of_port rfl (fun w => by simp only [Instr.wellFormed, Bool.and_eq_true] at w; tauto)
theorem cxlMemWrite (x0 : Nat) (x1 : Nat) (x2 : List Byte) (x3 : Option Nat) : Statement (.cxlMemWrite x0 x1 x2 x3) := of_port rfl (fun w => by simp only [Instr.wellFormed, Bool.and_eq_true] at w; tauto)
theorem cxlMemReadTimeout (x0 : Nat) : Statement (.cxlMemReadTimeout x0) := of_none rfl
theorem cowCopyDone (x0 : Nat) : Statement (.cowCopyDone x0) := of_none rfl
theorem pendingTableRoom : Statement .pendingTableRoom := of_none rfl
theorem dataWindowWrite (x0 : Nat) (x1 : Nat) (x2 : Nat) (x3 : List Byte) (x4 : Bool) (x5 : Option Nat) : Statement (.dataWindowWrite x0 x1 x2 x3 x4 x5) := of_port rfl (fun w => by simp only [Instr.wellFormed, Bool.and_eq_true] at w; tauto)
theorem dataWindowRead (x0 : Nat) (x1 : Nat) (x2 : Nat) (x3 : Nat) (x4 : Bool) (x5 : Option Nat) : Statement (.dataWindowRead x0 x1 x2 x3 x4 x5) := of_port rfl (fun w => by simp only [Instr.wellFormed, Bool.and_eq_true] at w; tauto)
theorem dataWindowReadTimeout (x0 : Nat) : Statement (.dataWindowReadTimeout x0) := of_none rfl
theorem sessionIdleTimeout (x0 : Nat) : Statement (.sessionIdleTimeout x0) := of_none rfl
theorem writeCombineDrain (x0 : Nat) : Statement (.writeCombineDrain x0) := of_port rfl (fun w => w)
theorem peerWindowRequest (x0 : Nat) (x1 : Nat) (x2 : Nat) (x3 : Option (List Byte)) (x4 : Nat) (x5 : Option Nat) : Statement (.peerWindowRequest x0 x1 x2 x3 x4 x5) := of_port rfl (fun w => by simp only [Instr.wellFormed, Bool.and_eq_true] at w; tauto)
theorem poolPwCommit (x0 : Nat) (x1 : Nat) (x2 : Word) : Statement (.poolPwCommit x0 x1 x2) := of_none rfl
theorem dmaCompletion (x0 : Via) (x1 : Nat) (x2 : DmaAnswer) : Statement (.dmaCompletion x0 x1 x2) := of_port rfl (fun w => w)
theorem dmaCompletionTimeout (x0 : Nat) (x1 : Nat) : Statement (.dmaCompletionTimeout x0 x1) := of_port rfl (fun w => w)
theorem undecodedRequest (x0 : Nat) (x1 : BadRequest) : Statement (.undecodedRequest x0 x1) := of_port rfl (fun w => w)
theorem malformedTlp (x0 : DroppedTlp) : Statement (.malformedTlp x0) := of_port rfl (fun w => w)
theorem ideCheckFail (x0 : Nat) (x1 : IdeCheck) : Statement (.ideCheckFail x0 x1) := of_port rfl (fun w => by simp only [Instr.wellFormed, Bool.and_eq_true] at w; tauto)
theorem extentAdd (x0 : Nat) (x1 : Nat) (x2 : Nat) (x3 : Nat) (x4 : Nat) (x5 : Nat) (x6 : Nat) : Statement (.extentAdd x0 x1 x2 x3 x4 x5 x6) := of_none rfl
theorem viewBind (x0 : Nat) (x1 : Nat) (x2 : Nat) (x3 : Nat) (x4 : Nat) (x5 : Nat) (x6 : Nat) (x7 : Nat) : Statement (.viewBind x0 x1 x2 x3 x4 x5 x6 x7) := of_none rfl
theorem extentWithdraw (x0 : Nat) (x1 : Nat) : Statement (.extentWithdraw x0 x1) := of_none rfl
theorem leaseSet (x0 : Nat) (x1 : Nat) (x2 : Nat) : Statement (.leaseSet x0 x1 x2) := of_none rfl
theorem leaseRenew (x0 : Nat) (x1 : Nat) : Statement (.leaseRenew x0 x1) := of_none rfl
theorem extentQuery (x0 : Nat) (x1 : Nat) : Statement (.extentQuery x0 x1) := of_none rfl
theorem caskGrant (x0 : Nat) (x1 : Nat) (x2 : Nat) (x3 : Nat) (x4 : Nat) (x5 : Nat) (x6 : Nat) : Statement (.caskGrant x0 x1 x2 x3 x4 x5 x6) := of_none rfl
theorem caskRevoke (x0 : Nat) (x1 : Nat) (x2 : Nat) (x3 : Nat) : Statement (.caskRevoke x0 x1 x2 x3) := of_none rfl
theorem poolJoin (x0 : Nat) (x1 : Nat) (x2 : Nat) : Statement (.poolJoin x0 x1 x2) := of_none rfl
theorem memberSet (x0 : Nat) (x1 : Nat) (x2 : Nat) (x3 : Nat) (x4 : Nat) : Statement (.memberSet x0 x1 x2 x3 x4) := of_none rfl
theorem memberRemove (x0 : Nat) (x1 : Nat) : Statement (.memberRemove x0 x1) := of_none rfl
theorem remoteGrant (x0 : Nat) (x1 : Nat) (x2 : Nat) (x3 : Nat) (x4 : Nat) (x5 : Nat) : Statement (.remoteGrant x0 x1 x2 x3 x4 x5) := of_none rfl
theorem remoteRevoke (x0 : Nat) (x1 : Nat) : Statement (.remoteRevoke x0 x1) := of_none rfl
theorem addDynamicCapacityResponse (x0 : Via) (x1 : Nat) (x2 : List DcExtent) : Statement (.addDynamicCapacityResponse x0 x1 x2) := of_port rfl (fun w => by simp only [Instr.wellFormed, Bool.and_eq_true] at w; tauto)
theorem releaseDynamicCapacity (x0 : Via) (x1 : Nat) (x2 : Nat) : Statement (.releaseDynamicCapacity x0 x1 x2) := of_port rfl (fun w => by simp only [Instr.wellFormed, Bool.and_eq_true] at w; tauto)
theorem getDynamicCapacityExtentList (x0 : Via) : Statement (.getDynamicCapacityExtentList x0) := of_port rfl (fun w => w)
theorem getDynamicCapacityConfiguration (x0 : Via) : Statement (.getDynamicCapacityConfiguration x0) := of_port rfl (fun w => w)
theorem identifyMemoryDevice (x0 : Via) : Statement (.identifyMemoryDevice x0) := of_port rfl (fun w => w)
theorem getSupportedLogs (x0 : Via) : Statement (.getSupportedLogs x0) := of_port rfl (fun w => w)
theorem getLog (x0 : Via) (x1 : Bool) : Statement (.getLog x0 x1) := of_port rfl (fun w => w)
theorem getEventRecords (x0 : Via) (x1 : Nat) : Statement (.getEventRecords x0 x1) := of_port rfl (fun w => by simp only [Instr.wellFormed, Bool.and_eq_true] at w; tauto)
theorem clearEventRecords (x0 : Via) (x1 : Nat) (x2 : List Nat) : Statement (.clearEventRecords x0 x1 x2) := of_port rfl (fun w => by simp only [Instr.wellFormed, Bool.and_eq_true] at w; tauto)
theorem getEventInterruptPolicy (x0 : Via) : Statement (.getEventInterruptPolicy x0) := of_port rfl (fun w => w)
theorem setEventInterruptPolicy (x0 : Via) (x1 : List Nat) : Statement (.setEventInterruptPolicy x0 x1) := of_port rfl (fun w => by simp only [Instr.wellFormed, Bool.and_eq_true] at w; tauto)
theorem getHealthInfo (x0 : Via) : Statement (.getHealthInfo x0) := of_port rfl (fun w => w)
theorem getTimestamp (x0 : Via) : Statement (.getTimestamp x0) := of_port rfl (fun w => w)
theorem setTimestamp (x0 : Via) (x1 : DWord) : Statement (.setTimestamp x0 x1) := of_port rfl (fun w => w)
theorem unsupportedMailboxCommand (x0 : Via) (x1 : Nat) : Statement (.unsupportedMailboxCommand x0 x1) := of_port rfl (fun w => by simp only [Instr.wellFormed, Bool.and_eq_true] at w; tauto)
theorem leaseExpire (x0 : Nat) : Statement (.leaseExpire x0) := of_none rfl
theorem offerLapse (x0 : Nat) : Statement (.offerLapse x0) := of_none rfl
theorem drainEnd (x0 : Nat) : Statement (.drainEnd x0) := of_none rfl
theorem scrubComplete (x0 : Nat) : Statement (.scrubComplete x0) := of_none rfl
theorem tenantCreate (x0 : Nat) (x1 : Nat) (x2 : Nat) : Statement (.tenantCreate x0 x1 x2) := of_none rfl
theorem tenantRemove (x0 : Nat) (x1 : Nat) : Statement (.tenantRemove x0 x1) := of_none rfl
theorem tenantRemovalDone (x0 : Nat) : Statement (.tenantRemovalDone x0) := of_none rfl
theorem partnerBind (x0 : Nat) (x1 : Nat) (x2 : Nat) (x3 : Nat) (x4 : Nat) : Statement (.partnerBind x0 x1 x2 x3 x4) := of_none rfl
theorem partnerUnbind (x0 : Nat) (x1 : Nat) : Statement (.partnerUnbind x0 x1) := of_none rfl
theorem fastMark (x0 : Nat) (x1 : Nat) (x2 : Nat) : Statement (.fastMark x0 x1 x2) := of_none rfl
theorem fastClear (x0 : Nat) (x1 : Nat) : Statement (.fastClear x0 x1) := of_none rfl
theorem pinQuotaSet (x0 : Nat) (x1 : Nat) (x2 : Nat) : Statement (.pinQuotaSet x0 x1 x2) := of_none rfl
theorem kilnPrefSet (x0 : Nat) (x1 : Nat) (x2 : Nat) (x3 : Nat) (x4 : Nat) : Statement (.kilnPrefSet x0 x1 x2 x3 x4) := of_none rfl
theorem ownerClaim (x0 : Bool) (x1 : BitVec 384) : Statement (.ownerClaim x0 x1) := of_none rfl
theorem ownerTransfer (x0 : Nat) (x1 : BitVec 384) : Statement (.ownerTransfer x0 x1) := of_none rfl
theorem getVersion (x0 : Endpoint) : Statement (.getVersion x0) := of_none rfl
theorem getCapabilities (x0 : Endpoint) : Statement (.getCapabilities x0) := of_none rfl
theorem negotiateAlgorithms (x0 : Endpoint) : Statement (.negotiateAlgorithms x0) := of_none rfl
theorem getDigests (x0 : Endpoint) : Statement (.getDigests x0) := of_none rfl
theorem getCertificate (x0 : Endpoint) : Statement (.getCertificate x0) := of_none rfl
theorem challenge (x0 : Endpoint) (x1 : DWord) : Statement (.challenge x0 x1) := of_none rfl
theorem getMeasurements (x0 : Endpoint) (x1 : Nat) : Statement (.getMeasurements x0 x1) := of_none rfl
theorem keyExchange (x0 : Endpoint) : Statement (.keyExchange x0) := of_none rfl
theorem finish (x0 : Endpoint) (x1 : Option (BitVec 384)) : Statement (.finish x0 x1) := of_none rfl
theorem ideKm (x0 : Nat) (x1 : IdeSel) (x2 : BitVec 256) : Statement (.ideKm x0 x1 x2) := of_port rfl (fun w => by simp only [Instr.wellFormed, Bool.and_eq_true] at w; tauto)
theorem unlockToken (x0 : Option Nat) (x1 : Token) (x2 : Option Nat) : Statement (.unlockToken x0 x1 x2) := of_none rfl
theorem tokenLockoutExpiry : Statement .tokenLockoutExpiry := of_none rfl
theorem park (x0 : Nat) : Statement (.park x0) := of_none rfl
theorem parkDrainEnd : Statement .parkDrainEnd := of_none rfl
theorem parkedEntered : Statement .parkedEntered := of_none rfl
theorem unpark (x0 : Nat) : Statement (.unpark x0) := of_none rfl
theorem activeResumed : Statement .activeResumed := of_none rfl
theorem faultGet (x0 : Nat) (x1 : Word) : Statement (.faultGet x0 x1) := of_none rfl
theorem faultClear (x0 : Nat) : Statement (.faultClear x0) := of_none rfl
theorem journalExport (x0 : Nat) (x1 : Nat) (x2 : Nat) (x3 : Nat) (x4 : Nat) : Statement (.journalExport x0 x1 x2 x3 x4) := of_none rfl
theorem phaseSet (x0 : Nat) (x1 : Nat) : Statement (.phaseSet x0 x1) := of_none rfl
theorem regRead (x0 : Nat) (x1 : Nat) : Statement (.regRead x0 x1) := of_none rfl
theorem regWrite (x0 : Nat) (x1 : Nat) (x2 : Word) : Statement (.regWrite x0 x1 x2) := of_none rfl
theorem unsupportedManagementCommand (x0 : Nat) (x1 : Nat) : Statement (.unsupportedManagementCommand x0 x1) := of_none rfl
theorem qosResvWrite (x0 : Nat) (x1 : Nat) (x2 : Word) : Statement (.qosResvWrite x0 x1 x2) := of_none rfl
theorem jrnCtlWrite (x0 : Nat) (x1 : Word) : Statement (.jrnCtlWrite x0 x1) := of_none rfl
theorem secLock (x0 : Nat) : Statement (.secLock x0) := of_none rfl
theorem grsRomDataRead (x0 : Nat) (x1 : Option Nat) : Statement (.grsRomDataRead x0 x1) := of_port rfl (fun w => w)
theorem counterLoRead (x0 : Accessor) (x1 : Nat) (x2 : Option Nat) : Statement (.counterLoRead x0 x1 x2) := of_none rfl
theorem registerWrite (x0 : Nat) (x1 : Nat) (x2 : Word) (x3 : BitVec 4) (x4 : Option Nat) : Statement (.registerWrite x0 x1 x2 x3 x4) := of_port rfl (fun w => w)
theorem steepingDone (x0 : Nat) (x1 : SteepResult) : Statement (.steepingDone x0 x1) := of_none rfl
theorem kilningDone (x0 : Nat) (x1 : KilnResult) : Statement (.kilningDone x0 x1) := of_none rfl
theorem pageMoveStart (x0 : Nat) : Statement (.pageMoveStart x0) := of_none rfl
theorem evictionStart (x0 : Nat) (x1 : Option Nat) : Statement (.evictionStart x0 x1) := of_none rfl
theorem counterHalve : Statement .counterHalve := of_none rfl
theorem fetchDeadline (x0 : LateFetch) : Statement (.fetchDeadline x0) := of_none rfl
theorem collection (x0 : Nat) : Statement (.collection x0) := of_none rfl
theorem kilnSpaceTimeout (x0 : Nat) : Statement (.kilnSpaceTimeout x0) := of_none rfl
theorem journalCommitDone (x0 : Nat) : Statement (.journalCommitDone x0) := of_none rfl
theorem powerFail : Statement .powerFail := of_none rfl
theorem powerFailFlushDone : Statement .powerFailFlushDone := of_none rfl
theorem railOutOfRange (x0 : Nat) : Statement (.railOutOfRange x0) := of_none rfl
theorem railCollapse (x0 : Nat) : Statement (.railCollapse x0) := of_none rfl
theorem powerOn : Statement .powerOn := of_none rfl
theorem coldPowerOn : Statement .coldPowerOn := of_none rfl
theorem devRstN (x0 : Nat) (x1 : Bool) : Statement (.devRstN x0 x1) := of_none rfl
theorem bringupStart : Statement .bringupStart := of_none rfl
theorem bringupStep : Statement .bringupStep := of_none rfl
theorem ready : Statement .ready := of_none rfl
theorem startTimeout : Statement .startTimeout := of_none rfl
theorem verify : Statement .verify := of_none rfl
theorem writeA : Statement .writeA := of_none rfl
theorem writeB : Statement .writeB := of_none rfl
theorem restart : Statement .restart := of_none rfl
theorem verifyDone : Statement .verifyDone := of_none rfl
theorem slotWriteDone (x0 : Bool) : Statement (.slotWriteDone x0) := of_none rfl
theorem uploadWrite (x0 : Bool) (x1 : Nat) (x2 : List Byte) : Statement (.uploadWrite x0 x1 x2) := of_none rfl
theorem rebuildEnd : Statement .rebuildEnd := of_none rfl
theorem refLost : Statement .refLost := of_none rfl
theorem clockSwitch (x0 : Domain) : Statement (.clockSwitch x0) := of_none rfl
theorem clockSwitchAck (x0 : Domain) : Statement (.clockSwitchAck x0) := of_none rfl
theorem clockSwitchTimeout (x0 : Domain) : Statement (.clockSwitchTimeout x0) := of_none rfl
theorem blockReset (x0 : Block) (x1 : Word) : Statement (.blockReset x0 x1) := of_none rfl
theorem blockIdleAck (x0 : Block) : Statement (.blockIdleAck x0) := of_none rfl
theorem blockIdleTimeout (x0 : Block) : Statement (.blockIdleTimeout x0) := of_none rfl
theorem unitFault (x0 : UnitId) (x1 : Nat) (x2 : List Nat) (x3 : Nat) : Statement (.unitFault x0 x1 x2 x3) := of_none rfl
theorem correctedCoalesceExpiry (x0 : UnitId) (x1 : Nat) : Statement (.correctedCoalesceExpiry x0 x1) := of_none rfl
theorem stewardTakeover : Statement .stewardTakeover := of_none rfl
theorem arbiterTakeover : Statement .arbiterTakeover := of_none rfl
theorem stewardShedStage (x0 : Nat) : Statement (.stewardShedStage x0) := of_none rfl
theorem stewardShedExit : Statement .stewardShedExit := of_none rfl
theorem quietEntry : Statement .quietEntry := of_none rfl
theorem standbyEntry : Statement .standbyEntry := of_none rfl
theorem wake : Statement .wake := of_none rfl
theorem wakeDone : Statement .wakeDone := of_none rfl
theorem governorStep : Statement .governorStep := of_none rfl
theorem dieLimiter (x0 : Nat) (x1 : Nat) : Statement (.dieLimiter x0 x1) := of_none rfl
theorem telemetryFrame (x0 : List Nat) : Statement (.telemetryFrame x0) := of_none rfl
theorem vrHotN (x0 : Bool) : Statement (.vrHotN x0) := of_none rfl
theorem thermalTrip (x0 : UnitId) : Statement (.thermalTrip x0) := of_none rfl
theorem refreshStart : Statement .refreshStart := of_none rfl
theorem creditReturn (x0 : Nat) (x1 : Nat) (x2 : Nat) : Statement (.creditReturn x0 x1 x2) := of_none rfl
theorem ageLimit (x0 : Nat) (x1 : Nat) : Statement (.ageLimit x0 x1) := of_none rfl
theorem rowIdlePrecharge (x0 : Nat) (x1 : Nat) : Statement (.rowIdlePrecharge x0 x1) := of_none rfl
theorem ppsIn (x0 : PpsPulse) : Statement (.ppsIn x0) := of_none rfl
theorem slewEnd : Statement .slewEnd := of_none rfl
theorem holdover : Statement .holdover := of_none rfl
theorem configSnapshot : Statement .configSnapshot := of_none rfl
theorem hdmDecoderCommit (x0 : Via) (x1 : Nat) (x2 : Nat) (x3 : Nat) (x4 : Nat) : Statement (.hdmDecoderCommit x0 x1 x2 x3 x4) := of_port rfl (fun w => by simp only [Instr.wellFormed, Bool.and_eq_true] at w; tauto)
theorem flrResetComplete (x0 : Nat) : Statement (.flrResetComplete x0) := of_port rfl (fun w => w)
theorem l1Exit (x0 : Nat) : Statement (.l1Exit x0) := of_port rfl (fun w => w)
theorem journalCheckpoint : Statement .journalCheckpoint := of_none rfl
theorem rebuildSegmentErase (x0 : Nat) (x1 : Nat) : Statement (.rebuildSegmentErase x0 x1) := of_none rfl
theorem refreshGapEnd : Statement .refreshGapEnd := of_none rfl
theorem stewardTakeoverDone : Statement .stewardTakeoverDone := of_none rfl
theorem arbiterTakeoverDone : Statement .arbiterTakeoverDone := of_none rfl
theorem unitTemperatureChange (x0 : UnitId) (x1 : Nat) : Statement (.unitTemperatureChange x0 x1) := of_none rfl

end Sys2Proof.Laws.Operands
end

