-- ==== Sys2Proof/Machine/Package.lean ====
section
/-! DEFINITION. Pins, supplies and package (15_pins_and_package.md R416 to R431): the tables of the chapter as data, the thermal limits, and how each kind of land behaves in a state (R418, R427). -/

namespace Sys2Proof.Machine

/-- R416: lands by group. -/
def landGroups : List (String × Nat) :=
  [("Port SerDes", 1792), ("REFCLK", 2), ("Sidebands, management and presence", 51), ("Supply", 2660), ("Kelvin sense pairs", 38), ("Reserved", 64), ("GND", 7681)]

inductive PinDir where
  | input | output | both | passive
  deriving DecidableEq, Repr

/-- R417: signals, lands and direction. Of the five JTAG lands TDO is an output; TLM_CLK is an output. -/
def sidebands : List (String × Nat × PinDir) :=
  [("DEV_RST_N", 1, .input), ("POWER_FAIL_N", 1, .input), ("PERST_N", 28, .input), ("DEV_READY", 1, .output), ("FAULT_N", 1, .output),
   ("THERMTRIP_N", 1, .output), ("GPO", 4, .output), ("PPS_IN", 1, .input), ("XTAL32", 2, .passive), ("I3C", 2, .both), ("JTAG", 5, .both),
   ("TLM", 2, .both), ("VR_HOT_N", 1, .input), ("PRSNT_N", 1, .passive)]

/-- A supply rail (R421): nominal 0.01 V, tolerance in percent, maximum current in 0.1 A, lands, group. -/
structure Rail where
  name : String
  centivolts : Nat
  percent : Nat
  deciamps : Nat
  lands : Nat
  group : Nat
  deriving DecidableEq, Repr

/-- R421, in its order; the numbers of rails in commands are places in this list. -/
def railTable : List Rail :=
  [⟨"VAON", 180, 5, 3, 4, 0⟩, ⟨"VIO", 180, 5, 10, 8, 1⟩, ⟨"VPP", 180, 3, 56, 16, 2⟩, ⟨"VKLN", 250, 3, 200, 32, 3⟩, ⟨"VSDH", 120, 3, 1000, 120, 3⟩,
   ⟨"VSTP", 105, 3, 3810, 440, 3⟩, ⟨"VHUB0", 80, 3, 940, 120, 4⟩, ⟨"VHUB1", 80, 3, 940, 120, 4⟩, ⟨"VSD", 75, 3, 3730, 440, 4⟩,
   ⟨"VSTPQ", 75, 3, 2000, 240, 4⟩, ⟨"VKLNQ", 120, 3, 250, 32, 4⟩]
  ++ List.replicate 8 ⟨"VBASE", 75, 3, 1140, 136, 4⟩

/-- R425: absolute limits in 0.01 V or degrees: item, lowest, highest. -/
def absoluteLimits : List (String × Int × Int) :=
  [("VBASE, VHUB, VSD, VSTPQ", -30, 100), ("VSTP", -30, 135), ("VSDH, VKLNQ", -30, 150), ("VAON, VIO, VPP", -30, 220), ("VKLN", -30, 300),
   ("Sideband lands", -30, 220), ("SerDes lands", -30, 100), ("Storage temperature", -40, 85)]

/-- R426: input low at most, input high at least, output low at most (0.01 V); output sink current (mA), leakage (µA). -/
def dcLevels : Nat × Nat × Nat × Nat × Nat := (54, 126, 40, 4, 10)

/-- R428: operating maximum, throttle point and trip of a unit kind, °C. -/
def thermalLimits (kind : Nat) : Option (Nat × Nat × Nat) :=
  match kind with
  | 1 => some (105, 102, 115)
  | 2 => some (105, 102, 115)
  | 3 => some (95, 92, 100)
  | 4 => some (80, 75, 90)
  | _ => none

/-- R429, R424: coolant inlet °C, flow 0.1 L/min, lid resistance in 0.001 °C/W, mounting load N; package draw after power-fail, W. -/
def coolingLimits : Nat × Nat × Nat × Nat × Nat := (40, 40, 12, 1800, 400)

/-- R431: substrate edge 0.1 mm, grid positions an edge, depopulated positions, height 0.01 mm, mass g. -/
def outline : Nat × Nat × Nat × Nat × Nat := (1120, 116, 1168, 740, 410)

/-- How a group of lands behaves (R427). -/
inductive LandState where
  | highImpedance | idle | active
  deriving DecidableEq, Repr

/-- Some rail of groups 1 to 4 is off. -/
def State.railOff (s : State) : Bool := s.rst.stage == .off || s.pins.rails.any (fun r => r.2 == .collapsed)

/-- R427: receivers of port p. -/
def State.receiver (s : State) (p : Nat) : LandState :=
  if s.railOff then .highImpedance
  else match s.rst.stage with
    | .up => .active
    | .recovery => if p = 0 then .active else .highImpedance
    | .bringup n => if 9 ≤ n then .active else .highImpedance
    | _ => .highImpedance

/-- R427: transmitters of port p. -/
def State.transmitter (s : State) (p : Nat) : LandState :=
  if s.railOff then .highImpedance
  else if s.receiver p = .active then .active else .idle

/-- R427: sideband inputs. -/
def State.inputs (s : State) : LandState := if s.railOff then .highImpedance else .active

/-- R427: an open-drain output: Off without rails, else driven low or released as the state asserts it. -/
inductive OpenDrain where
  | off | low | released
  deriving DecidableEq, Repr

/-- R417, R427: what an output does that `asserted` would drive low. -/
def State.pinOut (s : State) (asserted : Bool) : OpenDrain := if s.railOff then .off else if asserted then .low else .released

/-- R378, R385, R427, R430: the open-drain outputs. -/
def State.devReadyOut (s : State) : OpenDrain := s.pinOut (!s.pins.devReady)
def State.faultOut (s : State) : OpenDrain := s.pinOut s.pins.faultN
def State.thermtripOut (s : State) : OpenDrain := s.pinOut s.pins.thermtripN
def State.gpoOut (s : State) (n : Nat) : OpenDrain := s.pinOut (s.rst.gpo.getLsbD n)

/-- R418, R427, R369, R378: DEV_READY reads high when it is released at READY; the board pulls it up to the device's own rail, so without rails it reads low. -/
def State.devReadyHigh (s : State) : Bool := s.devReadyOut == .released

/-- R418: what the board takes for a device that is ready; PRSNT_N reads low whenever the package is there. -/
def State.boardReady (s : State) : Bool := s.devReadyHigh

end Sys2Proof.Machine
end

