-- ==== Sys2Proof/Machine/Replay.lean ====
section
/-! DEFINITION. How a replay judges the operations of an exported journal (13_time_faults_journal.md R405). The replay itself runs outside the device. -/

namespace Sys2Proof.Machine

/-- R405: a judgement. -/
inductive Judgement where
  | skipped | compared
  /-- Run in EXACT_TOPK and compared on output bytes only. -/
  | outputBytes
  | notReproducible | noInput
  deriving DecidableEq, Repr

/-- What the judgement of a recorded operation depends on. -/
structure Recorded where
  status : Status
  /-- An ATTEND, by ring or by mailbox, in RESIDENT_ONLY mode. -/
  residentOnly : Bool
  certExact : Bool
  /-- A version, a DATA record or a file supplies each input, and its hash agrees. -/
  supplied : Bool
  /-- It comes after a NO_INPUT or NOT_REPRODUCIBLE record of its slot, or after an operation that left its target unspecified. -/
  after : Bool
  deriving DecidableEq, Repr

/-- R405: completed without an effect that a replay could repeat. -/
def Status.skipped : Status → Bool
  | .busy | .deadline | .halted | .aborted | .internal | .resvExceeds => true
  | _ => false

/-- R405, in the order that leaves a skipped record skipped whatever its inputs are (DEDUCED, log 27). -/
def Recorded.judge (r : Recorded) : Judgement :=
  if r.status.skipped then .skipped
  else if r.after || !r.supplied then .noInput
  else if r.residentOnly then (if r.certExact then .outputBytes else .notReproducible)
  else .compared

end Sys2Proof.Machine
end

