-- ==== Sys2Proof/Tests/Slice0.lean ====
section
/-! SUPPORT. The model's own tests: refusals of ill-formed commands, the spec's worked examples, and for each statement a witness that its hypotheses can be met. -/

set_option maxRecDepth 20000
set_option exponentiation.threshold 400
set_option Elab.async false

namespace Sys2Proof.Tests

open Sys2Proof.Machine

/-- A device in service: port 0 linked with CXL, tenant 5, partner 3, session 1. -/
def wUp : State := { State.reset with
  rst := { stage := .up, phase := .service }
  pins := { devReady := true }
  clk := { xtalOk := true }
  store := ⟨some 7, some 3⟩
  sec := { sessions := [(1, 7)] }
  tenants := [(5, { quota := 16, wrapped := 2, key := some 9 })]
  ports := [(0, { width := 4, speed := 6, flit := true, cxl := true, l0pWidth := 4, bme := true, memSpace := true, hdm := [(0, { base := 0x100000000, size := 0x40000000, committed := true })] })]
  parts := [(3, { tenant := some 5, port := 0, rings := [(0, { baseLo := 0x1000, enable := true, sizeLog2 := 6, head := 2, tail := 5 }), (4, { baseLo := 0x8000, enable := true, sizeLog2 := 6, head := 0, tail := 1, phase := true })] })]
  casks := [(8, { tenant := 5, id := 77, lastSeq := 4 })]
  nextCask := 9 }
def wRec : Ext := { st := .active, tenant := 5, partner := 3, dpa := 0, granules := 1, leaseMs := 60000, expiry := 60000, group := 0 }
/-- Beside it an ACTIVE extent of one granule whose first two pages are in frames. -/
def wPool : State := { wUp with
  tags := [(160, { tenant := 5, crc := 1814288163 })]
  pool := { recs := [(2, wRec)], groups := [(0, { tenant := 5, granules := 1, creator := 0, pages := [(0, 10), (1, 11)] })], nextGroup := 1 }
  pages := [(10, { st := .dirty, owner := .extent 0 0, tenant := 5, stack := 0, ctr := 3 }), (11, { owner := .extent 0 1, tenant := 5, stack := 1 })]
  nextPage := 20
  mem := [(10 * 65536, 0x11), (10 * 65536 + 7, 0x22), (10 * 65536 + 64, 0x33)] }
/-- One running operation of partner 3 with descriptor words ws. -/
def wOp (s : State) (o : Op) : State := { s with ops := s.ops ++ [o], opSeq := o.id + 1 }
def opOf (code : Nat) (ws : List Word) : Op := { id := 7, partner := 3, ring := 0, port := 0, dws := w32 code :: ws ++ List.replicate (15 - ws.length) 0 }
def wRec0 : State := { wUp with rst := { stage := .recovery, failedStarts := 3 } }
def wOff : State := { wPool with pool := { wPool.pool with recs := [(2, { wRec with st := .offered, expiry := 0 })] } }
def wDrain : State := { wPool with pool := { wPool.pool with recs := [(2, { wRec with st := .draining })] } }
def wPool2 : State := { wPool with parts := wPool.parts ++ [(4, { tenant := some 5, port := 0 })] }
def wCask : Cask := { tenant := 5, id := 77, lastSeq := 5 }
def wV20 : Ver := { cask := 8, seq := 4, st := .committed, size := 0x20000, pages := [(0, 12)] }
def wP20 : Ver := { wV20 with park := some ({}, [(0, 0)]) }
/-- Page 10 begins with a GRIST blob of one block of 4,096 zero bytes. -/
def wBlob : State := { wPool with
  tags := [(160, { tenant := 5, crc := 2214885114 })]
  mem := [(655360, 1), (655361, 103), (655362, 162), (655363, 92), (655364, 1), (655400, 96), (655401, 16), (655420, 238), (655421, 230), (655422, 202),
    (655423, 153), (655424, 5), (655443, 16), (655452, 229), (655454, 88), (655455, 98)] }
def wDma : State := { wPool with ops := [{ opOf 0x10 [] with reads := [{ port := 0, tag := some 9, addr := 0x5000, len := 3, part := 0 }] }], opSeq := 8 }
def wHalt : State := { wDma with slots := [(4, { bound := true, partner := 3, tenant := 5 })] }
def wVers : State := { wPool with
  casks := [(8, { tenant := 5, id := 77, lastSeq := 5 })]
  vers := [(20, { cask := 8, seq := 4, st := .committed, size := 0x20000, pages := [(0, 12)] }), (21, { cask := 8, seq := 5, size := 0x20000, base := some 20, pages := [(0, 12), (1, 13)] })]
  nextVer := 22
  pages := wPool.pages ++ [(12, { st := .dirty, owner := .version 5 77 4 0, tenant := 5, stack := 0 }), (13, { st := .dirty, owner := .version 5 77 5 1, tenant := 5, stack := 1 })]
  parts := [(3, { wPool.part 3 with handles := [(0, { ver := 20, writer := false }), (1, { ver := 21, writer := true })] })] }
def wDone (s : State) : State := wOp s { opOf 0x10 [] with phase := .finished, res := { dw1 := 5 } }
/-- Page 10 has a record on stack 0 and no frame. -/
def kPage (st : PageState) : Page := { st := st, owner := .extent 0 0, tenant := 5, stack := 0, ctr := 3, record := some ⟨0, 0, 0, 1, [], []⟩ }
def wKiln (st : PageState) : State := { wPool with mem := [], tags := [], pages := [(10, kPage st), (11, { owner := .extent 0 1, tenant := 5, stack := 1 })], kln := { segs := [(0, { st := some .open, erases := 1, used := 64, live := 64 })] } }
def imgBody : List Byte := List.replicate 512 0x88
def imgHead : List Byte := leBytes 0x5CA27401 4 ++ List.replicate 8 0
def goodImg : List Byte := imgHead ++ leBytes (Crc.crc32c (imgHead ++ imgBody)) 4 ++ imgBody
def badCode : List Byte := imgHead ++ leBytes (Crc.crc32c (imgHead ++ List.replicate 512 0x11)) 4 ++ List.replicate 512 0x11
/-- Page 10 begins with the bytes `b`; `crc` is its first tile's. -/
def wImg (b : List Byte) (crc : Nat) : State := { wPool with
  tags := [(160, { tenant := 5, crc := crc })]
  mem := ((List.range 528).zip b).filterMap (fun x => if x.2 = 0 then none else some (655360 + x.1, x.2)) }
def wPeer : State := { wPool with pool := { wPool.pool with ns := some (2, 1), members := [(9, ⟨0, 3, 0⟩)], grants := [(0, ⟨9, 0x1000, 0x1000, 5, 3⟩)] } }
def wSlot : State := { wVers with
  vers := [(20, { cask := 8, seq := 4, st := .committed, size := 0x20000, pages := [(0, 12)], park := some ({}, [(0, 0)]) }), (21, { cask := 8, seq := 5, size := 0x100000000000, base := some 20, slotShape := some {} })]
  slots := [(4, { bound := true, partner := 3, tenant := 5, ver := 21 })] }
def wV21 : Ver := { cask := 8, seq := 5, size := 0x100000000000, base := some 20, slotShape := some {} }
def run (o : Host.Outcome State Fault Refusal) : State := match o with
  | .next t => t
  | _ => State.reset
def wApp : State := run (exec (.append 7) (wOp wSlot (opOf 0x41 [4, 0, 1, 128, 0,1])))
def wDp (d : Session) : State := wOp { wPool with parts := [(3, { wPool.part 3 with dp := d })] } (opOf 0x70 [0, 0,1, 256])
def wDpOut (d : Session) : State := wOp { wPool with parts := [(3, { wPool.part 3 with dp := d })] } (opOf 0x70 [0x2000, 0,1, 256])
def wView : State := { wBlob with pool := { wBlob.pool with recs := [(2, wRec), (3, { wRec with dpa := 0x200000, group := 1, view := some ⟨2, 0, 1, 0⟩ })], groups := wBlob.pool.groups ++ [(1, { tenant := 5, granules := 1, creator := 0, memory := false })], nextGroup := 2 } }
def wWin : State := { wPool with pool := { wPool.pool with ns := some (2, 1), members := [(9, ⟨0, 3, 0⟩)], act := [(0, { baseLo := 0x10000000, size := 1, tgt := 2, off := 0, src := 3, ctl := 7 })] } }
def wKilnB : State := { wKiln .kiln with pages := [(10, kPage .kiln), (11, { kPage .kiln with owner := .extent 0 1 })] }
theorem spell_nil : ∀ n a, Memory.spell a n [] = List.replicate n 0
  | 0, _ => rfl
  | n + 1, a => by rw [Memory.spell, spell_nil n]; rfl
theorem zero_crc : Crc.crc32c (List.replicate 4096 0) = zeroTileCrc := by decide +kernel
theorem zero_right {s : State} {pid : Nat} (m : s.mem = []) (t : ∀ i ∈ List.range 16, (s.tag pid i).crc = zeroTileCrc) : s.tilesRight pid = true := by
  refine List.all_eq_true.2 (fun i hi => beq_iff_eq.2 ?_)
  rw [t i hi, State.tileCrc, m]
  show _ = Crc.crc32c (Memory.spell _ _ [])
  rw [spell_nil, zero_crc]
/-- The last kiln stack of a half whose others are offline takes any record. -/
def wKilning (st : PageState) : State := { wUp with
  pages := [(10, { st := st, owner := .extent 0 0, tenant := 5, stack := 0 })]
  geo := { kOffline := [1, 2, 3, 4, 5, 6, 7] } }
theorem place_some (s : State) (p : Page) (n : Nat) (h0 : s.kln.segs = []) (h1 : s.rebuild = none) (h2 : s.halfStacks (p.stack / 4) = [0]) :
    (s.recordPlace p n).isSome = true := by
  have o : (s.openSeg 0 n .open).1 = some 0 := by simp [State.openSeg, h0, h1]
  unfold State.recordPlace
  have h : (s.halfStacks (p.stack / 4)).filter (fun k => (s.openSeg k n .open).1.isSome) = [0] := by simp [h2, o]
  have i : ∀ x : Nat, ([0] : List Nat)[x % max 1 ([0] : List Nat).length]? = some 0 := fun x => by simp [Nat.mod_one]
  rw [h]
  dsimp only
  rw [i]
  dsimp only
  split
  · rename_i e
    rw [e] at o
    cases o
  · rfl
theorem record_some (s : State) (pid : Nat) (p : Page) (h0 : s.kln.segs = []) (h1 : s.rebuild = none) (h2 : s.halfStacks (p.stack / 4) = [0]) :
    ∃ r t, s.writeRecord pid p = some (r, t) := by
  have h : (s.writeRecord pid p).isSome = true := by
    unfold State.writeRecord
    rw [Option.isSome_map]
    exact place_some s p _ h0 h1 h2
  obtain ⟨⟨r, t⟩, e⟩ := Option.isSome_iff_exists.1 h
  exact ⟨r, t, e⟩
/-- A journal of two records, in a device whose half 0 has one kiln stack. -/
def wJrn : State := { wUp with
  geo := { kOffline := [1, 2, 3, 4, 5, 6, 7] }
  jrn := { ctl := 0x80010000, next := 2, recs := [⟨0, 4, [1,2,3]⟩, ⟨1, 4, [9]⟩] } }
def wJrn3 : State :=
  let y := wJrn.awaken.openWriter 8 none 65536 none
  y.2.writeSpan (y.2.verSpan y.1 0 (wJrn.jrn.recs.flatMap jrnBytes).length) (wJrn.jrn.recs.flatMap jrnBytes) 2
def wJrnPage : Page := { st := .dirty, owner := .version 5 77 5 0, tenant := 5, stack := 0, ctr := 1, moveCls := 2 }
theorem wJrn3_page : wJrn3.spanPages (wJrn3.verSpan 0 0 64) = [0] ∧ wJrn3.pages.get? 0 = some wJrnPage ∧ wJrn3.kln.segs = [] ∧
    wJrn3.rebuild = none ∧ wJrn3.halfStacks 0 = [0] := by decide +kernel
theorem wJrn3_kilned : ∃ t, wJrn3.kilnNow [0] = some t := by
  obtain ⟨-, a, b, c, d⟩ := wJrn3_page
  obtain ⟨r, t, e⟩ := record_some wJrn3 0 wJrnPage b c d
  simp only [State.kilnNow, List.foldl, a, e]
  exact ⟨_, rfl⟩
theorem wJrn_exported : ∃ u, wJrn.awaken.exportTo 5 77 (wJrn.jrn.recs.flatMap jrnBytes) = .inr u := by
  have l : ceilDiv (wJrn.jrn.recs.flatMap jrnBytes).length 65536 * 65536 = 65536 := by decide +kernel
  have c : wJrn.awaken.writerCheck 5 77 none true 65536 = .inr (some 8, none) := by decide +kernel
  have m : (wJrn.awaken.openWriter 8 none 65536 none).2.roomFor ((wJrn.awaken.openWriter 8 none 65536 none).2.verSpan
    (wJrn.awaken.openWriter 8 none 65536 none).1 0 (wJrn.jrn.recs.flatMap jrnBytes).length) = true := by decide +kernel
  have g : wJrn3.spanPages ((wJrn.awaken.openWriter 8 none 65536 none).2.verSpan
    (wJrn.awaken.openWriter 8 none 65536 none).1 0 (wJrn.jrn.recs.flatMap jrnBytes).length) = [0] := by decide +kernel
  obtain ⟨t, k⟩ := wJrn3_kilned
  unfold wJrn3 at g k
  dsimp only at g k
  unfold State.exportTo
  simp only [l, c, m, g, k, Bool.not_true, Bool.false_eq_true, if_false]
  exact ⟨_, rfl⟩
/-- A write waits for `n` frames of stack 0. -/
def wAsked (n : Nat) : State := { wUp with
  pages := [(10, { st := .dirty, owner := .extent 0 0, tenant := 5, stack := 0 }), (11, { st := .clean, owner := .extent 0 1, tenant := 5, stack := 0 })]
  ops := [{ opOf 0x10 [] with frameOn := List.replicate n 0 }]
  opSeq := 8 }
theorem wAsked_short : (wAsked 2000000).framesFree 0 + (wAsked 2000000).evictions [0] < (wAsked 2000000).framesAsked 0 := by
  have a : ∀ n, (wAsked n).framesAsked 0 = n := fun n => by
    simp [State.framesAsked, wAsked, wUp, opOf, State.reset]
  have b : (wAsked 2000000).framesFree 0 + (wAsked 2000000).evictions [0] ≤ 96 * 16384 := by decide +kernel
  rw [a]
  omega
/-- Page `i` in a frame of stack `k`. -/
def wFullPage (k i : Nat) : Nat × Page := (i, { st := .dirty, owner := .extent 0 i, tenant := 5, stack := k })
/-- `n` pages fill each of the first two stacks of hub half 0. -/
def wFull (n : Nat) : State := { wUp with
  pages := (List.range n).map (fun i => wFullPage 0 i) ++ (List.range n).map (fun i => wFullPage 1 (n + i))
  kln := { steepWm := 0xFF } }
theorem filter_const {α β : Type} (f : α → β) (g : β → Bool) (b : Bool) (h : ∀ x, g (f x) = b) (l : List α) :
    ((l.map f).filter g).length = if b then l.length else 0 := by
  induction l with
  | nil => cases b <;> rfl
  | cons x l ih => cases b <;> simp_all
theorem wFull_used (n : Nat) : n ≤ (wFull n).framesUsed 0 ∧ n ≤ (wFull n).framesUsed 1 := by
  have u : ∀ k, ((wFull n).pages.filter (fun p => p.2.stack == k && (p.2.st.framed || p.2.st == .steeping))).length ≤ (wFull n).framesUsed k :=
    fun k => by unfold State.framesUsed; omega
  have p : (wFull n).pages = (List.range n).map (fun i => wFullPage 0 i) ++ (List.range n).map (fun i => wFullPage 1 (n + i)) := rfl
  have c : ∀ (k j : Nat) (f : Nat → Nat) (l : List Nat),
      ((l.map (fun i => wFullPage j (f i))).filter (fun p => p.2.stack == k && (p.2.st.framed || p.2.st == .steeping))).length
        = if j == k then l.length else 0 :=
    fun k j f l => filter_const (fun i => wFullPage j (f i)) _ _ (fun _ => Bool.and_true (j == k)) l
  constructor
  · refine le_trans (le_of_eq ?_) (u 0)
    rw [p, List.filter_append, List.length_append, c 0 0 (fun i => i), c 0 1 (fun i => n + i)]
    simp
  · refine le_trans (le_of_eq ?_) (u 1)
    rw [p, List.filter_append, List.length_append, c 1 0 (fun i => i), c 1 1 (fun i => n + i)]
    simp
theorem wFull_free (n : Nat) : (wFull n).halfFree 0 ≤ (96 * 16384 - n) + (96 * 16384 - n) + 2 * (96 * 16384) := by
  have h := wFull_used n
  have e : (wFull n).halfFree 0 = (wFull n).framesFree 0 + ((wFull n).framesFree 1 + ((wFull n).framesFree 2 + ((wFull n).framesFree 3 + 0))) := rfl
  have f : ∀ k, (wFull n).framesFree k = 96 * 16384 - (wFull n).framesUsed k := fun _ => rfl
  rw [e, f, f, f, f]
  omega
theorem wFull_short : (wFull (96 * 16384)).halfFree 0 < (wFull (96 * 16384)).lowFrames := by
  have h := wFull_free (96 * 16384)
  have l : ∀ n, (wFull n).lowFrames = bits 0xFF 7 0 * 16384 := fun _ => rfl
  have b : bits 0xFF 7 0 = 255 := by decide
  rw [l, b]
  omega
theorem framed_one {s : State} {sp : Span} (pid : Nat) (q : Page) (e : s.spanPages sp = [pid]) (g : s.pages.get? pid = some q)
    (b : match sp.back with
      | .group g => (s.pool.groups.get? g).isSome = true
      | .ver v => (s.vers.get? v).isSome = true)
    (k : pid < s.nextPage ∧ s.lined pid = false ∧ (q.st = .zero ∨ q.st.framed = true)) : s.Framed sp :=
  ⟨b, fun p h => by rw [e] at h; cases List.mem_singleton.1 h; exact ⟨k.1, k.2.1, q, g, k.2.2⟩, by rw [e]; exact List.nodup_singleton pid⟩
theorem verAtHand {s : State} {o : Op} {v : Nat} (w : Ver) (g : s.stp.inGap = false) (h : s.vers.get? v = some w)
    (k : ∀ p ∈ w.pages, s.troubleOf o p.2 = none ∧ s.ready o p.2 = true) : s.VerAtHand o v :=
  ⟨g, fun x hx => by rw [h] at hx; cases hx; exact k⟩
theorem isRight_inr {α β : Type} : ∀ x : α ⊕ β, x.isRight = true → ∃ p, x = .inr p
  | .inr p, _ => ⟨p, rfl⟩

/-! ### Well-formedness: each check refuses a term that fails it -/

theorem test_functions_are_checked : [Instr.flr 28, .bobSlotDb ⟨0, none⟩ 4096 0 4, .counterLoRead (.port 28) 0 none, .getVersion (.doe 28), .msixUnmask ⟨0, none⟩ 2048,
    .hdmDecoderCommit ⟨0, none⟩ 4 0 0 0, .ideCheckFail 0 ⟨10, false⟩, .getEventRecords ⟨0, none⟩ 5, .setEventInterruptPolicy ⟨0, none⟩ [0],
    .linkUp 0 0 6 true true, .linkUp 0 5 6 true true, .linkUp 0 4 7 true true].all (fun c => !c.wellFormed) = true := by decide

theorem test_rings_are_checked : [Instr.ringSqDb 0 0 4 0 4 none, .ringEnable 0 0 5 0 none, .descriptorFetch 0 0 [0], .descriptorFetch 0 4 [],
    .descriptorReadFailed 4096 0 .ur, .fastMarkingApply 256].all (fun c => !c.wellFormed) = true := by decide

theorem test_memory_is_checked : [Instr.cxlMemWrite 0 0 [] none, .cxlMemWrite 0 0 (List.replicate 4097 0) none, .cxlMemRead 0 (2 ^ 64) 64 none,
    .peerWindowRequest 0 4096 0 none 64 none, .poolPwCommit 1 64 0, .leaseExpire 262144].all (fun c => !c.wellFormed) = true := by decide

theorem test_units_are_checked : [Instr.evictionStart 2 none, .creditReturn 8 0 0, .collection 16, .rebuildSegmentErase 0 32768, .railCollapse 19, .dieLimiter 8 0,
    .telemetryFrame [], .telemetryFrame (List.replicate 19 65536), .blockReset (.lace 16) 0, .clockSwitch (.hub 2), .thermalTrip ⟨13, 0⟩,
    .thermalTrip ⟨6, 640⟩].all (fun c => !c.wellFormed) = true := by decide

theorem test_parameters_are_checked : [Instr.tenantRemovalDone 1024, .tenantCreate 1 65536 0, .qosResvWrite 1 512 0, .phaseSet 1 256, .ideKm 0 ⟨10, false⟩ 0,
    .partnerBind 1 0 0 256 0].all (fun c => !c.wellFormed) = true := by decide

/-! ### The spec's worked examples and other outside results -/

/-- The reference shape of 02_tiles_picots_numerics.md. -/
def refShape : Shape := { layers := 64, kvh := 8, hd := 128 }

/-- 02_tiles_picots_numerics.md, "Worked example: locating one key". -/
theorem test_key_is_located : (blockTile refShape 10 3 15625 1).page * 65536 + (blockTile refShape 10 3 15625 1).tile * 4096 + 5 * 128 = 0x1E829C5280 := by decide

/-- The same example: the level-1 and level-2 picots of the key, as tiles of their pages. -/
theorem test_picots_are_located : (picotTile refShape 1 10 3 244 (9 / refShape.perTile)).tile * 4096 + 9 % refShape.perTile * 256 = 35072 ∧
    (picotTile refShape 2 10 3 3 (52 / refShape.perTile)).tile * 4096 + 52 % refShape.perTile * 256 = 13312 := by decide

/-- The published check value of CRC-32C (R33). -/
theorem test_crc32c : Crc.crc32c [0x31, 0x32, 0x33, 0x34, 0x35, 0x36, 0x37, 0x38, 0x39] = 0xE3069283 := by decide

/-- The published check value of CRC-64/XZ (R400). -/
theorem test_crc64 : Crc.crc64 [0x31, 0x32, 0x33, 0x34, 0x35, 0x36, 0x37, 0x38, 0x39] = 0x995DC9BBDF1939FA := by decide

/-- 05_grist.md, "Worked example: a coded FP8 K tile": the plane's byte 0, and its block's header bytes. -/
theorem test_plane_is_coded :
    (Grist.encodePlane ((List.range 256).map (fun s => if s = 0x38 then 1 else if s = 0x30 then 2 else if s = 0x40 then 3 else if s = 0x28 ∨ s = 0xB8 then 4 else 0))
      [0x38, 0x30, 0xB8, 0x38]) = some [0x7A] := by decide +kernel
theorem test_block_header : leBytes (Grist.headerLow ⟨1, 3, 2, [1113, 0, 0], List.replicate 2884 0⟩) 12
    = [0x31, 0x02, 0x44, 0x0B, 0x59, 0x04, 0, 0, 0, 0, 0, 0] := by decide +kernel

/-- 07_movers_and_data_port.md, "Worked example: a momentum update". -/
theorem test_momentum_update :
    ((Machine.Float.expand .bf16 0x3E80).map (fun v => Machine.Float.add (Machine.Float.mul 0x3F600000 0x3FC00000) (Machine.Float.mul 0x3E000000 v))) = some 0x3FAC0000 := by decide +kernel

/-- 09_ports.md, "Worked example: one read split". -/
theorem test_read_is_split : splitReq 4096 100 0x4000000F40 9000
    = [(0x4000000F40, 192), (0x4000001000, 4096), (0x4000002000, 4096), (0x4000003000, 616)] := by decide
theorem test_read_is_split_small : (splitReq 512 100 0x4000000F40 9000).length = 19 := by decide

/-- 10_regulation_and_steep_controllers.md, "Worked example: admission and derating": minima of a fast slot and of the tenant at EFF_CREDITS 1,024, 907, 400 and 300. -/
def wDerate : Qos := { fast := [(0, ⟨1, 168⟩), (1, ⟨2, 168⟩)], resv := [(0, 0x8C250046)] }
theorem test_derating : ([1024, 907, 400, 300].map (fun e => ((wDerate.minima e).effOf (.fast 1), (wDerate.minima e).effOf (.resv 0))))
    = [(168, 70), (168, 70), (168, 56), (146, 0)] ∧ wDerate.total = 414 := by decide
theorem test_derate_states : [1024, 907, 400, 300].map wDerate.derateOf = [.none, .none, .scale, .cut] := by decide

/-! ### Witnesses: for each statement with hypotheses, states and operands that meet them, clause by clause -/

theorem witness_IdleStepIsOneCycle : ∃ (s : State), s.pending = [] :=
  ⟨wUp, by decide⟩

theorem witness_TenantCreateMakesTenant : ∃ (s : State), ∃ (ses : Nat), ∃ (tenant : Nat), ∃ (quota : Nat), Commanded s ses ∧ s.Unparked ∧ tenant ≤ 1023 ∧ s.tenants.get? tenant = none ∧ pinsFit (s.quotaSum tenant quota) s.markings s.jrnGib = true :=
  ⟨wUp, 1, 1023, 4, ⟨by decide, by decide, by decide, by decide⟩, by unfold State.Unparked; decide, by and_intros <;> decide +kernel⟩

theorem witness_TenancyCommandsSetTheirField :
    (∃ (s : State), ∃ (ses : Nat), ∃ (tenant : Nat), ∃ (quota : Nat), Commanded s ses ∧ s.Unparked ∧ s.tenantActive tenant = true ∧ pinsFit (s.quotaSum tenant quota) s.markings s.jrnGib = true) ∧
    (∃ (s : State), ∃ (ses : Nat), ∃ (tenant : Nat), ∃ (table : Nat), ∃ (split : Nat), Commanded s ses ∧ s.Unparked ∧ s.tenantActive tenant = true ∧ (table = 0 ∨ 16 ≤ table) ∧ split ≤ 3) ∧
    (∃ (s : State), ∃ (ses : Nat), ∃ (slot : Nat), ∃ (tenant : Nat), Commanded s ses ∧ s.Unparked ∧ s.qos.takeover = false ∧ tenant ≤ 1023 ∧ s.tenantActive tenant = true ∧ (s.slot slot).mark = none ∧ (s.slot slot).bound = false ∧ (s.slot slot).binding = none ∧ s.markings < s.fastLimit ∧ pinsFit (s.quotaSum 1024 0) (s.markings + 1) s.jrnGib = true ∧ s.minimaSum + Config.fastMin ≤ s.qos.eff) ∧
    (∃ (s : State), ∃ (ses : Nat), Commanded s ses ∧ s.Unparked ∧ s.qos.takeover = true) ∧
    (∃ (s : State), ∃ (ses : Nat), ∃ (slot : Nat), ∃ (tenant : Nat), Commanded s ses ∧ s.Unparked ∧ s.qos.takeover = false ∧ (s.slot slot).mark = some tenant ∧ (s.slot slot).change ≠ .adding ∧ (s.slot slot).bound = false ∧ (s.slot slot).binding = none) :=
  ⟨⟨wUp, 1, 5, 4, ⟨by decide, by decide, by decide, by decide⟩, by unfold State.Unparked; decide, by decide, by decide⟩,
   ⟨wUp, 1, 5, 16, 3, ⟨by decide, by decide, by decide, by decide⟩, by unfold State.Unparked; decide, by and_intros <;> decide +kernel⟩,
   ⟨wUp, 1, 4, 5, ⟨by decide, by decide, by decide, by decide⟩, by unfold State.Unparked; decide, by and_intros <;> decide +kernel⟩,
   ⟨({ wUp with qos := { takeover := true } }), 1, ⟨by decide, by decide, by decide, by decide⟩, by unfold State.Unparked; decide, by decide⟩,
   ⟨({ wUp with slots := [(4, { mark := some 5 })] }), 1, 4, _, ⟨by decide, by decide, by decide, by decide⟩, by unfold State.Unparked; decide, by decide, rfl, by and_intros <;> decide +kernel⟩⟩

theorem witness_PartnerBindAndUnbind :
    (∃ (s : State), ∃ (ses : Nat), ∃ (partner : Nat), ∃ (tenant : Nat), ∃ (port : Nat), Commanded s ses ∧ s.Unparked ∧ partner ≤ 4095 ∧ tenant ≤ 1023 ∧ port ≤ 27 ∧ s.tenantActive tenant = true ∧ (s.part partner).tenant = none) ∧
    (∃ (s : State), ∃ (ses : Nat), ∃ (partner : Nat), Commanded s ses ∧ s.Unparked ∧ (s.part partner).tenant ≠ none) :=
  ⟨⟨wUp, 1, 4095, 5, 27, ⟨by decide, by decide, by decide, by decide⟩, by unfold State.Unparked; decide, by and_intros <;> decide +kernel⟩,
   ⟨wUp, 1, 3, ⟨by decide, by decide, by decide, by decide⟩, by unfold State.Unparked; decide, by decide⟩⟩

theorem witness_TenantRemoval :
    (∃ (s : State), ∃ (ses : Nat), ∃ (tenant : Nat), Commanded s ses ∧ s.Unparked ∧ s.tenantActive tenant = true) ∧
    (∃ (s : State), ∃ (tenant : Nat), ∃ (r : Tenant), s.tenants.get? tenant = some r ∧ r.st = .removing ∧ (∀ e ∈ s.pool.recs, e.2.tenant ≠ tenant) ∧ s.rst.stage = .up) :=
  ⟨⟨wUp, 1, 5, ⟨by decide, by decide, by decide, by decide⟩, by unfold State.Unparked; decide, by decide⟩,
   ⟨({ wUp with tenants := [(5, { st := .removing })] }), 5, _, rfl, by and_intros <;> decide +kernel⟩⟩

theorem witness_OwnerAnchorAndLock :
    (∃ (s : State), s.rst.stage = .up ∧ s.takingOver = false ∧ s.stew.shed ≠ 3 ∧ s.store.anchor = none) ∧
    (∃ (s : State), ∃ (i3c : Bool), s.rst.stage = .up ∧ s.takingOver = false ∧ s.stew.shed ≠ 3 ∧ (i3c = false ∨ s.store.anchor ≠ none)) ∧
    (∃ (s : State), ∃ (ses : Nat), Commanded s ses) :=
  ⟨⟨({ wUp with store := ⟨none, none⟩ }), by and_intros <;> decide +kernel⟩,
   ⟨wUp, true, by and_intros <;> decide +kernel⟩,
   ⟨wUp, 1, ⟨by decide, by decide, by decide, by decide⟩⟩⟩

theorem witness_SpdmConnectionSteps : ∃ (s : State), ∃ (ep : Endpoint), s.epUp ep = true :=
  ⟨wUp, .mgmt, by decide⟩

theorem witness_SpdmAnswersAndIdeKeys :
    (∃ (s : State), ∃ (ep : Endpoint), s.epUp ep = true ∧ negotiatedStates.contains (s.spdmState ep) = true) ∧
    (∃ (s : State), ∃ (p : Nat), ∃ (sel : IdeSel), s.epUp (.doe p) = true ∧ s.spdmState (.doe p) = .session ∧ s.sec.keysLocked = false ∧ (s.port p).flit = true ∧ sel.stream < 10) :=
  ⟨⟨({ wUp with sec := { wUp.sec with spdm := [(0, .negotiated)] } }), (.doe 0), by decide, by decide⟩,
   ⟨({ wUp with sec := { wUp.sec with spdm := [(0, .session)] } }), 0, (⟨9, true⟩), by and_intros <;> decide +kernel⟩⟩

theorem witness_DebugUnlock :
    (∃ (s : State), ∃ (token : Token), s.running = true ∧ s.sec.dbgOpen = false ∧ s.sec.lockout = false ∧ s.tokenOk token = true) ∧
    (∃ (s : State), ∃ (token : Token), s.running = true ∧ s.sec.dbgOpen = false ∧ s.sec.lockout = false ∧ s.tokenOk token = false) ∧
    (∃ (s : State), s.sec.lockout = true ∧ s.tim.clock < s.sec.lockoutAt + 10000000000) ∧
    (∃ (s : State), s.sec.lockout = true ∧ s.running = true) :=
  ⟨⟨wUp, ⟨96,true,0,0⟩, by and_intros <;> decide +kernel⟩,
   ⟨wUp, (⟨4097, true, 0, 0⟩), by and_intros <;> decide +kernel⟩,
   ⟨({ wUp with sec := { wUp.sec with lockout := true } }), by decide, by decide⟩,
   ⟨({ wUp with sec := { wUp.sec with lockout := true } }), by decide, by decide⟩⟩

theorem witness_ParkAndUnpark :
    (∃ (s : State), ∃ (ses : Nat), Commanded s ses ∧ s.Unparked) ∧
    (∃ (s : State), s.pwr.state = .entering ∧ s.pwr.drained = false ∧ (∀ o ∈ s.ops, o.phase = .finished)) ∧
    (∃ (s : State), s.pwr.state = .entering ∧ s.pwr.drained = true ∧ s.allKilned = true) ∧
    (∃ (s : State), ∃ (ses : Nat), Commanded s ses ∧ s.pwr.state = .parked) ∧
    (∃ (s : State), s.pwr.state = .leaving ∧ s.pinnedAway = []) :=
  ⟨⟨wPool, 1, ⟨by decide, by decide, by decide, by decide⟩, by unfold State.Unparked; decide⟩,
   ⟨({ wPool with pwr := { state := .entering } }), by and_intros <;> decide +kernel⟩,
   ⟨({ wUp with pwr := { state := .entering, drained := true } }), by and_intros <;> decide +kernel⟩,
   ⟨({ wPool with pwr := { state := .parked, ckpt := true, drained := true } }), 1, ⟨by decide, by decide, by decide, by decide⟩, by decide⟩,
   ⟨({ wUp with pwr := { state := .leaving, ckpt := true, drained := true } }), by decide, by decide⟩⟩

theorem witness_SleepAndWake :
    (∃ (s : State), s.pwr.state = .active ∧ s.target ≠ 0 ∧ s.idle = true) ∧
    (∃ (s : State), s.pwr.state = .quiet ∧ s.target = 2 ∧ s.idle = true) ∧
    (∃ (s : State), (s.pwr.state = .quiet ∨ s.pwr.state = .standby) ∧ s.pwr.waking = none) ∧
    (∃ (s : State), ∃ (from' : PState), ∃ (ns : Nat), s.running = true ∧ s.pwr.waking = some from' ∧ ((from' = .quiet ∧ ns = 2000) ∨ (from' = .standby ∧ ns = 150000))) :=
  ⟨⟨({ wUp with pwr := { ctl := 0x40000000 }, parts := [] }), by and_intros <;> decide +kernel⟩,
   ⟨({ wUp with pwr := { state := .quiet, ctl := 0x80000000 }, parts := [] }), by and_intros <;> decide +kernel⟩,
   ⟨({ wUp with pwr := { state := .standby } }), by decide, by decide⟩,
   ⟨({ wUp with pwr := { state := .standby, waking := some .standby } }), _, 150000, by decide, rfl, by decide⟩⟩

theorem witness_PowerIsGoverned :
    (∃ (s : State), ∃ (i : Nat), s.rst.stage = .up ∧ s.rst.flush = .none ∧ (s.forced = true ∨ s.capMw < s.averageMw + 20000) ∧ s.stages.contains i = true ∧ s.atLimit i = false ∧ (∀ j, j < i → s.atLimit j = true)) ∧
    (∃ (s : State), ∃ (since : Nat), s.rst.stage = .up ∧ s.rst.flush = .none ∧ s.forced = false ∧ s.averageMw + 20000 ≤ s.capMw ∧ s.pwr.belowSince = some since ∧ since + 10000000 ≤ s.tim.clock ∧ s.stage ≠ 0) ∧
    (∃ (s : State), ∃ (die : Nat), ∃ (watts : Nat), die < 8 ∧ s.running = true ∧ watts ≤ 85) ∧
    (∃ (s : State), ∃ (die : Nat), ∃ (watts : Nat), die < 8 ∧ s.running = true ∧ 85 < watts ∧ s.pwr.dieNear.get? die = none ∧ s.stepsIn 1 ≤ 7) ∧
    (∃ (s : State), ∃ (die : Nat), ∃ (watts : Nat), die < 8 ∧ s.running = true ∧ 85 < watts ∧ s.pwr.dieNear.get? die ≠ none) ∧
    (∃ (s : State), s.running = true) :=
  ⟨⟨({ wUp with pwr := { frames := [1790000] }, pins := { wUp.pins with vrHot := true } }), 0, by and_intros <;> decide +kernel⟩,
   ⟨({ wUp with pwr := { frames := [90000], belowSince := some 0, steps := [1,0,0,0,0] }, tim := { clock := 10000000 } }), 0, by and_intros <;> decide +kernel⟩,
   ⟨wUp, 2, 85, by and_intros <;> decide +kernel⟩,
   ⟨wUp, 2, 86, by and_intros <;> decide +kernel⟩,
   ⟨({ wUp with pwr := { dieNear := [(2, 9)] } }), 2, 86, by and_intros <;> decide +kernel⟩,
   ⟨wUp, by decide⟩⟩

theorem witness_RefreshCalendar :
    (∃ (s : State), ∃ (s1 : State), s.refreshing = true ∧ s.stp.inGap = false ∧ (s1 = (if s.stp.next ≤ s.tim.time then s else s.advance (s.stp.next - s.tim.time).toNat))) ∧
    (∃ (s : State), s.stp.inGap = true ∧ s.running = true ∧ s.OpsDistinct) :=
  ⟨⟨({ wUp with pwr := { temps := [(3 * 65536, 90)] } }), _, by decide, by decide, rfl⟩,
   ⟨({ wUp with stp := { inGap := true, gapAt := 0 } }), by decide, by decide, ⟨by decide, by decide⟩⟩⟩

theorem witness_SteepQueuesAndRows :
    (∃ (s : State), ∃ (k : Nat), ∃ (request : Nat), ∃ (r : SteepReq), (s.queue k).find? (fun x => x.id == request) = some r ∧ r.issued ≠ 0) ∧
    (∃ (s : State), ∃ (k : Nat), ∃ (request : Nat), ∃ (limit : Nat), ∃ (r : SteepReq), (s.queue k).find? (fun x => x.id == request) = some r ∧ limit = bits (s.stp.sched.get k 0x7D0010) 25 16 * 16 ∧ limit ≠ 0 ∧ r.ready = true ∧ r.promoted = false ∧ s.running = true) ∧
    (∃ (s : State), ∃ (k : Nat), ∃ (bank : Nat), ∃ (idle : Nat), ∃ (o : OpenRow), s.openRow k bank = some o ∧ idle = bits (s.stp.pageCtl.get k 0x14) 7 0 * 4 ∧ s.running = true ∧ (idle ≠ 0 ∨ ∀ r ∈ s.queue k, r.ready = true → r.bank = bank → r.row ≠ o.row)) :=
  ⟨⟨({ wUp with stp := { reqs := [(0, [{ id := 1, master := .shared, cls := 0, lines := 64, write := false, bank := 0, row := 0, port := none, op := none, since := 0, granted := 64, issued := 64 }])], nextReq := 2 } }), 0, 1, _, rfl, by decide⟩,
   ⟨({ wUp with stp := { reqs := [(0, [{ id := 1, master := .shared, cls := 0, lines := 64, write := false, bank := 0, row := 0, port := none, op := none, since := 0, granted := 64 }])], nextReq := 2 } }), 0, 1, _, _, rfl, rfl, by and_intros <;> decide +kernel⟩,
   ⟨({ wUp with stp := { rows := [⟨0,0,5,0,0⟩] } }), 0, 0, _, _, rfl, rfl, by decide, by decide⟩⟩

theorem witness_PpsServo :
    (∃ (pulse : PpsPulse), pulse.highNs < 100) ∧
    (∃ (s : State), ∃ (pulse : PpsPulse), ∃ (e : Nat), s.running = true ∧ 100 ≤ pulse.highNs ∧ s.tim.lastEdge = some e ∧ s.tim.clock < e + 500000000) ∧
    (∃ (s : State), ∃ (pulse : PpsPulse), ∃ (r : Nat), ∃ (c : Int), ∃ (base : Tim), s.running = true ∧ 100 ≤ pulse.highNs ∧ (∀ e, s.tim.lastEdge = some e → e + 500000000 ≤ s.tim.clock) ∧ bit s.tim.ctl 30 = false ∧ r = s.tim.time.toNat % 1000000000 ∧ r ≠ 500000000 ∧ (c = (if r < 500000000 then -(r : Int) else 1000000000 - (r : Int))) ∧ base = { s.tim with pps := s.tim.time, lastEdge := some s.tim.clock, holdover := false, ctl := s.tim.ctl &&& 0xBFFFFFFF } ∧ bit s.tim.ctl 31 = true ∧ bits s.tim.ctl 15 0 < c.natAbs ∧ 0 < c) ∧
    (∃ (s : State), ∃ (pulse : PpsPulse), ∃ (r : Nat), ∃ (c : Int), ∃ (base : Tim), s.running = true ∧ 100 ≤ pulse.highNs ∧ (∀ e, s.tim.lastEdge = some e → e + 500000000 ≤ s.tim.clock) ∧ bit s.tim.ctl 30 = false ∧ r = s.tim.time.toNat % 1000000000 ∧ r ≠ 500000000 ∧ (c = (if r < 500000000 then -(r : Int) else 1000000000 - (r : Int))) ∧ base = { s.tim with pps := s.tim.time, lastEdge := some s.tim.clock, holdover := false, ctl := s.tim.ctl &&& 0xBFFFFFFF } ∧ bit s.tim.ctl 31 = true ∧ bits s.tim.ctl 15 0 < c.natAbs ∧ c < 0) ∧
    (∃ (s : State), ∃ (pulse : PpsPulse), ∃ (r : Nat), ∃ (c : Int), ∃ (base : Tim), s.running = true ∧ 100 ≤ pulse.highNs ∧ (∀ e, s.tim.lastEdge = some e → e + 500000000 ≤ s.tim.clock) ∧ bit s.tim.ctl 30 = false ∧ r = s.tim.time.toNat % 1000000000 ∧ r ≠ 500000000 ∧ (c = (if r < 500000000 then -(r : Int) else 1000000000 - (r : Int))) ∧ base = { s.tim with pps := s.tim.time, lastEdge := some s.tim.clock, holdover := false, ctl := s.tim.ctl &&& 0xBFFFFFFF } ∧ (bit s.tim.ctl 31 = false ∨ c.natAbs ≤ bits s.tim.ctl 15 0)) :=
  ⟨⟨({ highNs := 99, adjust := 5 }), by decide⟩,
   ⟨({ wUp with tim := { clock := 499999999, lastEdge := some 0 } }), ({ highNs := 100, adjust := 5 }), _, by decide, by decide, rfl, by decide⟩,
   ⟨({ wUp with tim := { time := 999000000 } }), ({ highNs := 100, adjust := 5 }), _, _, _, by decide, by decide, by decide, by decide, rfl, by decide, rfl, rfl, by and_intros <;> decide +kernel⟩,
   ⟨({ wUp with tim := { time := 1000000 } }), ({ highNs := 100, adjust := 5 }), _, _, _, by decide, by decide, by decide, by decide, rfl, by decide, rfl, rfl, by and_intros <;> decide +kernel⟩,
   ⟨({ wUp with tim := { time := 1000 } }), ({ highNs := 100, adjust := 5 }), _, _, _, by decide, by decide, by decide, by decide, rfl, by decide, rfl, rfl, by decide⟩⟩

theorem witness_SlewAndHoldover :
    (∃ (s : State), s.running = true) ∧
    (∃ (s : State), s.running = true ∧ s.tim.holdover = false) :=
  ⟨⟨wUp, by decide⟩,
   ⟨wUp, by decide, by decide⟩⟩

theorem witness_StewardShedsAndHandsOver :
    (∃ (s : State), ∃ (wait : Nat), s.endpointUp = true ∧ s.stew.shed < 3 ∧ [5000, 20000, 50000].getD s.stew.shed 0 < wait) ∧
    (∃ (s : State), s.endpointUp = true ∧ s.rst.devFault = false ∧ (∀ u ∈ s.flt.offline, u.kind ≠ 7)) :=
  ⟨⟨wUp, 60000, by and_intros <;> decide +kernel⟩,
   ⟨wUp, by and_intros <;> decide +kernel⟩⟩

theorem witness_ArbiterHandsOver :
    (∃ (s : State), s.running = true ∧ s.rst.devFault = false ∧ (∀ u ∈ s.flt.offline, u.kind ≠ 10)) ∧
    (∃ (s : State), s.qos.takeover = true) :=
  ⟨⟨wUp, by and_intros <;> decide +kernel⟩,
   ⟨({ wUp with qos := { takeover := true, held := [.gov 512] } }), by decide⟩⟩

theorem witness_FaultAndPhaseCommands :
    (∃ (s : State), ∃ (ses : Nat), Commanded s ses) ∧
    (∃ (s : State), ∃ (ses : Nat), ∃ (phase : Nat), Commanded s ses ∧ (phase = 1 ∨ phase = 2) ∧ (∀ e ∈ s.slots, (e.2.bound && e.2.fast) = false) ∧ s.rst.phase ≠ .rebuild) ∧
    (∃ (s : State), ∃ (ses : Nat), ∃ (opcode : Nat), Commanded s ses ∧ 0xC400 ≤ opcode ∧ opcode < 0xC650 ∧ mgmtOpcodes.contains opcode = false) :=
  ⟨⟨wUp, 1, ⟨by decide, by decide, by decide, by decide⟩⟩,
   ⟨wUp, 1, 1, ⟨by decide, by decide, by decide, by decide⟩, by and_intros <;> decide +kernel⟩,
   ⟨wUp, 1, 0xC64F, ⟨by decide, by decide, by decide, by decide⟩, by and_intros <;> decide +kernel⟩⟩

theorem witness_JournalControl :
    (∃ (s : State), ∃ (ses : Nat), ∃ (w : Word), Commanded s ses ∧ 1 ≤ bits w 22 16 ∧ bits w 22 16 ≤ 0x40 ∧ pinsFit (s.quotaSum 1024 0) s.markings (bits (s.jrn.newCtl w) 22 16) = true) ∧
    (∃ (s : State), s.recording = true ∧ bits s.jrn.ctl 15 0 ≠ 0 ∧ s.running = true) ∧
    (∃ (s : State), s.rst.stage = .up ∧ s.rst.flush = .none) :=
  ⟨⟨wUp, 1, 0x80010000, ⟨by decide, by decide, by decide, by decide⟩, by and_intros <;> decide +kernel⟩,
   ⟨({ wUp with jrn := { ctl := 0x800103E8 } }), by and_intros <;> decide +kernel⟩,
   ⟨wUp, by decide, by decide⟩⟩

theorem witness_ReservationWrites :
    (∃ (s : State), ∃ (ses : Nat), ∃ (index : Nat), ∃ (w : Word), Commanded s ses ∧ s.Unparked ∧ index < 512 ∧ s.qos.takeover = false ∧ s.resvRefusal index w = none) ∧
    (∃ (s : State), ∃ (ses : Nat), ∃ (index : Nat), ∃ (w : Word), ∃ (st : Status), Commanded s ses ∧ s.Unparked ∧ index < 512 ∧ s.qos.takeover = false ∧ s.resvRefusal index w = some st) ∧
    (∃ (s : State), ∃ (ses : Nat), ∃ (index : Nat), Commanded s ses ∧ s.Unparked ∧ index < 512 ∧ s.qos.takeover = true) :=
  ⟨⟨wUp, 1, 2, 0, ⟨by decide, by decide, by decide, by decide⟩, by unfold State.Unparked; decide, by and_intros <;> decide +kernel⟩,
   ⟨wUp, 1, 2, 0xFFFFFFFF, _, ⟨by decide, by decide, by decide, by decide⟩, by unfold State.Unparked; decide, by decide, by decide, rfl⟩,
   ⟨({ wUp with qos := { takeover := true } }), 1, 2, ⟨by decide, by decide, by decide, by decide⟩, by unfold State.Unparked; decide, by decide, by decide⟩⟩

theorem witness_PowerFailFlush :
    (∃ (s : State), s.running = true ∧ s.rst.flush = .none) ∧
    (∃ (s : State), ∃ (rail : Nat), 1 ≤ rail ∧ rail ≤ 18 ∧ s.running = true ∧ s.rst.flush = .none) ∧
    (∃ (s : State), s.rst.flush = .running ∧ s.rst.deferredReset = false) ∧
    (∃ (s : State), ∃ (u : UnitId), s.running = true ∧ s.rst.devFault = false ∧ s.unitFitted u = true) :=
  ⟨⟨wUp, by decide, by decide⟩,
   ⟨wUp, 18, by and_intros <;> decide +kernel⟩,
   ⟨({ wPool with rst := { wUp.rst with flush := .running } }), by decide, by decide⟩,
   ⟨wUp, (⟨3, 0⟩), by and_intros <;> decide +kernel⟩⟩

theorem witness_ResetsKeepWhatSurvives :
    (∃ (s : State), ∃ (low : Nat), s.pins.devRstLow = false ∧ 1000 ≤ low ∧ s.rst.flush ≠ .running ∧ s.rst.stage ≠ .off) ∧
    (∃ (s : State), ∃ (low : Nat), s.pins.devRstLow = false ∧ low < 1000) ∧
    (∃ (s : State), ∃ (low : Nat), s.pins.devRstLow = false ∧ 1000 ≤ low ∧ s.rst.flush = .running) ∧
    (∃ (s : State), s.running = false ∧ s.pins.rails.get? 0 = none) ∧
    (∃ (s : State), ∃ (v : RailLevel), s.running = false ∧ s.pins.rails.get? 0 = some v) ∧
    (∃ (s : State), ∃ (rail : Nat), rail ≤ 18 ∧ s.rst.stage ≠ .off) ∧
    (∃ (s : State), s.rst.stage = .recovery ∧ (s.port 0).width ≠ 0 ∧ (s.port 0).d3 = false ∧ s.rst.rcvStat ≠ .busy ∧ s.rst.flush = .none) :=
  ⟨⟨wPool, 1000, by and_intros <;> decide +kernel⟩,
   ⟨wUp, 999, by decide, by decide⟩,
   ⟨({ wPool with rst := { wUp.rst with flush := .running } }), 1000, by and_intros <;> decide +kernel⟩,
   ⟨({ State.reset with rst := { stage := .off }, pins := { rails := [(3, .out)] } }), by decide, by decide⟩,
   ⟨({ State.reset with rst := { stage := .off }, pins := { rails := [(0, .out)] } }), _, by decide, rfl⟩,
   ⟨wPool, 18, by decide, by decide⟩,
   ⟨wRec0, by and_intros <;> decide +kernel⟩⟩

theorem witness_BringUp :
    (∃ (s : State), s.rst.stage = .held ∧ s.pins.devRstLow = false ∧ s.pins.rails = []) ∧
    (∃ (s : State), ∃ (n : Nat), s.rst.stage = .bringup n ∧ n ≤ 9 ∧ s.rst.flush = .none ∧ s.rst.devFault = false ∧ s.rst.phase = .bringup ∧ (n = 3 → s.chooseFirmware ≠ none)) ∧
    (∃ (s : State), (s.rst.stage = .bringup 3 ∧ s.chooseFirmware = none ∧ s.rst.flush = .none ∧ s.rst.devFault = false ∧ s.rst.phase = .bringup)) ∧
    (∃ (s : State), ∃ (n : Nat), s.rst.stage = .bringup n ∧ s.rst.flush = .none ∧ s.rst.devFault = false ∧ s.rst.phase = .bringup) ∧
    (∃ (s : State), ∃ (n : Nat), s.rst.stage = .bringup n ∧ 10 ≤ n ∧ s.rst.flush = .none ∧ s.rst.devFault = false ∧ s.rst.phase = .bringup) :=
  ⟨⟨State.reset, by and_intros <;> decide +kernel⟩,
   ⟨({ State.reset with rst := { stage := .bringup 3 } }), 3, by and_intros <;> decide +kernel⟩,
   ⟨({ State.reset with rst := { stage := .bringup 3, fwA := { valid := false }, fwB := { valid := false } } }), by decide⟩,
   ⟨({ State.reset with rst := { stage := .bringup 9, failedStarts := 2 } }), 9, by and_intros <;> decide +kernel⟩,
   ⟨({ State.reset with rst := { stage := .bringup 10, fw := (1,0) } }), 10, by and_intros <;> decide +kernel⟩⟩

theorem witness_RecoveryCommands :
    (∃ (s : State), s.rst.stage = .recovery ∧ (s.port 0).width ≠ 0 ∧ (s.port 0).d3 = false ∧ s.rst.rcvStat ≠ .busy) ∧
    (∃ (s : State), s.rst.stage = .recovery ∧ (s.port 0).width ≠ 0 ∧ (s.port 0).d3 = false ∧ s.rst.rcvStat = .verified) ∧
    (∃ (s : State), s.rst.stage = .recovery ∧ (s.port 0).width ≠ 0 ∧ (s.port 0).d3 = false ∧ s.rst.rcvStat ≠ .verified) ∧
    (∃ (s : State), s.rst.stage = .recovery ∧ (s.port 0).width ≠ 0 ∧ (s.port 0).d3 = false ∧ s.rst.rcvStat = .busy) ∧
    (∃ (s : State), ∃ off, ∃ (bs : List Byte), s.rst.stage = .recovery ∧ (s.port 0).width ≠ 0 ∧ (s.port 0).d3 = false ∧ 0x4000000 < off + bs.length) ∧
    (∃ (s : State), ∃ off, ∃ (bs : List Byte), s.rst.stage = .recovery ∧ (s.port 0).width ≠ 0 ∧ (s.port 0).d3 = false ∧ s.rst.rcvStat ≠ .busy ∧ off + bs.length ≤ 0x4000000) ∧
    (∃ (s : State), s.rst.rcvStat = .busy ∧ s.rst.rcvJob = .verify) ∧
    (∃ (s : State), s.rst.rcvStat = .busy ∧ s.rst.rcvJob = .writeA) ∧
    (∃ (s : State), s.rst.rcvStat = .busy ∧ s.rst.rcvJob = .writeB) ∧
    (∃ (s : State), s.rst.rcvStat ≠ .busy) ∧
    (∃ (s : State), s.rst.rcvStat = .busy ∧ s.rst.rcvJob ≠ .verify) ∧
    (∃ (s : State), s.rst.rcvStat = .busy ∧ s.rst.rcvJob ≠ .writeA ∧ s.rst.rcvJob ≠ .writeB) :=
  ⟨⟨wRec0, by and_intros <;> decide +kernel⟩,
   ⟨({ wRec0 with rst := { wRec0.rst with rcvStat := .verified, rcvJob := .none } }), by and_intros <;> decide +kernel⟩,
   ⟨wRec0, by and_intros <;> decide +kernel⟩,
   ⟨({ wRec0 with rst := { wRec0.rst with rcvStat := .busy, rcvJob := .verify } }), by and_intros <;> decide +kernel⟩,
   ⟨wRec0, 0x3FFFFFE, [1,2,3], by and_intros <;> decide +kernel⟩,
   ⟨wRec0, 0x3FFFFFD, [1,2,3], by and_intros <;> decide +kernel⟩,
   ⟨({ wRec0 with rst := { wRec0.rst with rcvStat := .busy, rcvJob := .verify } }), by decide, by decide⟩,
   ⟨({ wRec0 with rst := { wRec0.rst with rcvStat := .busy, rcvJob := .writeA } }), by decide, by decide⟩,
   ⟨({ wRec0 with rst := { wRec0.rst with rcvStat := .busy, rcvJob := .writeB } }), by decide, by decide⟩,
   ⟨wRec0, by decide⟩,
   ⟨({ wRec0 with rst := { wRec0.rst with rcvStat := .busy, rcvJob := .writeB } }), by decide, by decide⟩,
   ⟨({ wRec0 with rst := { wRec0.rst with rcvStat := .busy, rcvJob := .verify } }), by and_intros <;> decide +kernel⟩⟩

theorem witness_RebuildAfterUnlock :
    (∃ (s : State), ∃ (k : Nat), ∃ (seg : Nat), ∃ (es : List Nat), s.rebuild = some es ∧ seg < 32768 ∧ s.kilnPresent k = true ∧ es.contains (k * 32768 + seg) = false ∧ s.movesRun = true) ∧
    (∃ (s : State), ∃ (es : List Nat), s.rebuild = some es ∧ s.stacksPresent * 32768 ≤ (es.filter (fun g => s.kilnPresent (g / 32768))).length ∧ s.rst.stage = .up) :=
  ⟨⟨({ wUp with rebuild := some [], rst := { wUp.rst with phase := .rebuild } }), 15, 32767, _, rfl, by and_intros <;> decide +kernel⟩,
   ⟨({ wUp with rebuild := some [], geo := { kOffline := List.range 16 }, rst := { wUp.rst with phase := .rebuild } }), _, rfl, by decide, by decide⟩⟩

theorem witness_ClockSwitching :
    (∃ (s : State), ∃ (d : Domain), s.running = true ∧ (∀ w ∈ s.clk.switches, w.domain ≠ d)) ∧
    (∃ (s : State), ∃ (d : Domain), ∃ (w : ClkSwitch), s.clk.switches.find? (fun x => x.domain == d) = some w) ∧
    (∃ (s : State), ∃ (d : Domain), ∃ (w : ClkSwitch), s.clk.switches.find? (fun x => x.domain == d) = some w ∧ s.running = true) ∧
    (∃ (s : State), s.running = true ∧ s.clk.refLost = false) :=
  ⟨⟨wUp, (.hub 0), by decide, by decide⟩,
   ⟨({ wUp with clk := { wUp.clk with switches := [⟨.hub 1, .osc, 0⟩] } }), (.hub 1), _, rfl⟩,
   ⟨({ wUp with clk := { wUp.clk with switches := [⟨.steep 7, .osc, 0⟩] } }), (.steep 7), _, rfl, by decide⟩,
   ⟨wUp, by decide, by decide⟩⟩

theorem witness_BlockResets :
    (∃ (s : State), ∃ (b : Block), s.running = true ∧ (∀ j ∈ s.rst.blocks, j.block ≠ b) ∧ bits s.rst.blkCtl 15 0 ≠ 0) ∧
    (∃ (s : State), ∃ (b : Block), ∃ (j : BlockJob), s.running = true ∧ j ∈ s.rst.blocks ∧ j.block = b) ∧
    (∃ (s : State), ∃ (b : Block), ∃ (j : BlockJob), j ∈ s.rst.blocks ∧ j.block = b) ∧
    (∃ (s : State), ∃ (b : Block), ∃ (j : BlockJob), s.rst.blocks.find? (fun j => j.block == b) = some j ∧ s.running = true) :=
  ⟨⟨wUp, (.port 0), by and_intros <;> decide +kernel⟩,
   ⟨({ wPool with rst := { wUp.rst with blocks := [⟨.port 0, 5, 0⟩] } }), (.port 0), (⟨.port 0, 5, 0⟩), by and_intros <;> decide +kernel⟩,
   ⟨({ wPool with rst := { wUp.rst with blocks := [⟨.port 0, 5, 0⟩] } }), (.port 0), (⟨.port 0, 5, 0⟩), by decide, by decide⟩,
   ⟨({ wPool with rst := { wUp.rst with blocks := [⟨.port 0, 5, 0⟩] } }), (.port 0), _, rfl, by decide⟩⟩

theorem witness_FaultReports :
    (∃ (s : State), ∃ (u : UnitId), ∃ (code : Nat), s.running = true ∧ s.unitFitted u = true ∧ (code = 1 ∨ code = 2) ∧ (∀ w ∈ s.flt.windows, ¬ (w.unit = u ∧ w.code = code))) ∧
    (∃ (s : State), ∃ (u : UnitId), ∃ (code : Nat), ∃ w, w ∈ s.flt.windows ∧ s.running = true ∧ s.unitFitted u = true ∧ (code = 1 ∨ code = 2) ∧ w.unit = u ∧ w.code = code) ∧
    (∃ (s : State), ∃ (u : UnitId), ∃ (code : Nat), s.running = true ∧ s.unitFitted u = true ∧ code ∈ [0x10, 0x11, 0x12, 0x20, 0x21, 0x22, 0x23, 0x24, 0x25, 0x26]) ∧
    (∃ (code : Nat), reportedCode code = false ∧ code ≠ 0x30 ∧ code ≠ 0x32) ∧
    (∃ (s : State), ∃ (u : UnitId), ∃ (b : Block), s.running = true ∧ s.rst.devFault = false ∧ s.unitFitted u = true ∧ s.flt.offline.contains u = false ∧ unitBlock u = some b ∧ (∀ l, s.flt.lastUnit.find? (fun l => l.1 == u) = some l → l.2 + 10000000 < s.tim.clock) ∧ bits s.rst.blkCtl 15 0 ≠ 0) ∧
    (∃ (s : State), ∃ (u : UnitId), s.running = true ∧ s.rst.devFault = false ∧ s.unitFitted u = true ∧ s.flt.offline.contains u = false ∧ (unitBlock u = none ∨ ∃ l, s.flt.lastUnit.find? (fun l => l.1 == u) = some l ∧ s.tim.clock ≤ l.2 + 10000000) ∧ s.canOffline u = true ∧ u.kind ≠ 10) ∧
    (∃ (s : State), ∃ (u : UnitId), s.running = true ∧ s.rst.devFault = false ∧ s.unitFitted u = true ∧ s.flt.offline.contains u = false ∧ (unitBlock u = none ∨ ∃ l, s.flt.lastUnit.find? (fun l => l.1 == u) = some l ∧ s.tim.clock ≤ l.2 + 10000000) ∧ s.canOffline u = false) ∧
    (∃ (s : State), s.running = true ∧ s.clk.refLost = false ∧ s.rst.devFault = false) ∧
    (∃ (s : State), ∃ (u : UnitId), ∃ (code : Nat), s.running = true ∧ s.rst.devFault = false ∧ s.unitFitted u = true ∧ (code = 0x30 ∨ code = 0x32) ∧ s.flt.offline.contains u = false) ∧
    (∃ (s : State), ∃ (u : UnitId), ∃ (code : Nat), ∃ (w : Coalesce), s.flt.windows.find? (fun w => w.unit == u && w.code == code) = some w ∧ s.running = true) :=
  ⟨⟨wUp, ⟨3,0⟩, 1, by and_intros <;> decide +kernel⟩,
   ⟨{ wUp with flt := { windows := [⟨⟨3,0⟩,1,1,0,0⟩] } }, ⟨3, 0⟩, 1, ⟨⟨3,0⟩,1,1,0,0⟩, by decide, by decide, by decide, by decide, rfl, rfl⟩,
   ⟨wUp, ⟨5,0⟩, 0x26, by and_intros <;> decide +kernel⟩,
   ⟨0x35, by and_intros <;> decide +kernel⟩,
   ⟨({ wUp with flt := { lastUnit := [(⟨3,0⟩, 5)] }, tim := { clock := 10000006 } }), ⟨3,0⟩, _, by decide, by decide, by decide, by decide, rfl, by decide, by decide⟩,
   ⟨({ wUp with flt := { lastUnit := [(⟨4,0⟩, 5)] }, tim := { clock := 10000005 } }), ⟨4,0⟩, by and_intros <;> decide +kernel⟩,
   ⟨({ wUp with flt := { lastUnit := [(⟨2,0⟩, 5)] }, tim := { clock := 10000005 } }), ⟨2,0⟩, by and_intros <;> decide +kernel⟩,
   ⟨wUp, by and_intros <;> decide +kernel⟩,
   ⟨wUp, ⟨3,0⟩, 0x32, by and_intros <;> decide +kernel⟩,
   ⟨({ wUp with flt := { windows := [⟨⟨3,0⟩,1,2,0,0⟩] } }), ⟨3,0⟩, 1, _, rfl, by decide⟩⟩

theorem witness_RegisterReads :
    (∃ (s : State), ∃ (ses : Nat), ∃ (off : Nat), Commanded s ses ∧ off % 4 = 0 ∧ off < 0xE0000 ∧ s.wide off = none ∧ s.latch? .mgmt off = none) ∧
    (∃ (s : State), ∃ (ses : Nat), ∃ (off : Nat), ∃ (v : Nat), Commanded s ses ∧ s.wide off = some v) ∧
    (∃ (s : State), ∃ (ses : Nat), ∃ (off : Nat), Commanded s ses ∧ (off % 4 ≠ 0 ∨ 0xE0000 ≤ off)) ∧
    (∃ (s : State), ∃ (p : Nat), ∃ (off : Nat), ∃ (v : Nat), s.Hosted p ∧ (s.port p).ideRequired = false ∧ s.wide off = some v) ∧
    (∃ (s : State), ∃ (p : Nat), p < 28 ∧ s.rst.stage = .up ∧ (s.port p).ideRequired = false ∧ (s.port p).d3 = false) :=
  ⟨⟨wUp, 1, 0, ⟨by decide, by decide, by decide, by decide⟩, by and_intros <;> decide +kernel⟩,
   ⟨wUp, 1, 0x40000, _, ⟨by decide, by decide, by decide, by decide⟩, rfl⟩,
   ⟨wUp, 1, 2, ⟨by decide, by decide, by decide, by decide⟩, by decide⟩,
   ⟨wUp, 0, 0x40000, _, ⟨by decide, by decide, by decide, by decide, by decide⟩, by decide, rfl⟩,
   ⟨wUp, 0, by and_intros <;> decide +kernel⟩⟩

theorem witness_RegisterWrites :
    (∃ (s : State), ∃ (ses : Nat), Commanded s ses) ∧
    (∃ (s : State), ∃ (ses : Nat), ∃ p, Commanded s ses ∧ p < 28) ∧
    (∃ (s : State), ∃ (ses : Nat), ∃ k, Commanded s ses ∧ k < 8 ∧ s.steepAway = false) ∧
    (∃ (s : State), ∃ (ses : Nat), ∃ o, Commanded s ses ∧ o < 0x800 ∧ o % 4 = 0 ∧ s.steepAway = true) ∧
    (∃ (s : State), ∃ (ses : Nat), ∃ o, Commanded s ses ∧ o < 0x10000 ∧ o % 4 = 0) ∧
    (∃ (s : State), ∃ (p : Nat), s.live p = true ∧ s.rst.stage = .up ∧ (s.port p).ideRequired = false ∧ (s.port p).d3 = false) ∧
    (∃ (s : State), ∃ (p : Nat), ∃ (n : Nat), ∃ (r : Nat), ∃ o, s.Reaches p n none ∧ s.live p = true ∧ r < 5 ∧ ((s.ring n r).enable = true ∨ (if r = 4 then (s.ring n r).disabling else s.ringBusy n r) = true) ∧ (o = 0 ∨ o = 4 ∨ o = 8)) ∧
    (∃ (s : State), ∃ (p : Nat), ∃ (n : Nat), ∃ (r : Nat), s.Reaches p n none ∧ s.live p = true ∧ r < 5 ∧ (s.ring n r).enable = false ∧ ((if r = 4 then (s.ring n r).disabling else s.ringBusy n r) = false)) ∧
    (∃ (s : State), ∃ (p : Nat), s.live p = true ∧ (s.port p).flrBusy = false ∧ s.rst.stage = .up) :=
  ⟨⟨wUp, 1, ⟨by decide, by decide, by decide, by decide⟩⟩,
   ⟨wUp, 1, 27, ⟨by decide, by decide, by decide, by decide⟩, by decide⟩,
   ⟨wUp, 1, 7, ⟨by decide, by decide, by decide, by decide⟩, by decide, by decide⟩,
   ⟨({ wUp with pwr := { state := .parked } }), 1, 0x7FC, ⟨by decide, by decide, by decide, by decide⟩, by and_intros <;> decide +kernel⟩,
   ⟨wUp, 1, 4, ⟨by decide, by decide, by decide, by decide⟩, by decide, by decide⟩,
   ⟨wUp, 0, by and_intros <;> decide +kernel⟩,
   ⟨wUp, 0, 3, 4, 8, ⟨⟨by decide, by decide⟩, by decide, by decide, by decide, by decide, by decide, by decide⟩, by and_intros <;> decide +kernel⟩,
   ⟨wUp, 0, 3, 3, ⟨⟨by decide, by decide⟩, by decide, by decide, by decide, by decide, by decide, by decide⟩, by and_intros <;> decide +kernel⟩,
   ⟨wUp, 0, by and_intros <;> decide +kernel⟩⟩

theorem witness_MailboxQueries : ∃ (s : State), ∃ (p : Nat), ∃ (ide : Option Nat), s.Mailed p ide :=
  ⟨wUp, 0, none, ⟨⟨by decide, by decide, by decide, by decide, by decide⟩, ⟨by decide, by decide⟩⟩⟩

theorem witness_EventLogCommands :
    (∃ (s : State), ∃ (u : State), ∃ (p : Nat), ∃ (log : Nat), ∃ (hs : List Nat), ∃ (ide : Option Nat), s.Mailed p ide ∧ u = s.atBar p ∧ log < 5 ∧ (∀ h ∈ hs, ∃ e ∈ (s.port p).events, e.log = log ∧ e.handle = h)) ∧
    (∃ (s : State), ∃ (p : Nat), ∃ (log : Nat), ∃ (hs : List Nat), ∃ (ide : Option Nat), s.Mailed p ide ∧ log < 5 ∧ (∃ h ∈ hs, ∀ e ∈ (s.port p).events, e.log = log → e.handle ≠ h)) ∧
    (∃ (s : State), ∃ (u : State), ∃ (p : Nat), ∃ (a : Nat), ∃ (b : Nat), ∃ (c : Nat), ∃ (d : Nat), ∃ (e : Nat), ∃ (ide : Option Nat), s.Mailed p ide ∧ u = s.atBar p ∧ a < 256 ∧ b < 256 ∧ c < 256 ∧ d < 256 ∧ e < 256) ∧
    (∃ (s : State), ∃ (u : State), ∃ (p : Nat), ∃ (ide : Option Nat), s.Mailed p ide ∧ u = s.atBar p) :=
  ⟨⟨({ wUp with ports := [(0, { wUp.port 0 with events := [⟨1,0,5,[9]⟩, ⟨2,0,5,[9]⟩], nextHandle := 3 })] }), _, 0, 0, [1], none, ⟨⟨by decide, by decide, by decide, by decide, by decide⟩, ⟨by decide, by decide⟩⟩, rfl, by decide, by decide⟩,
   ⟨wUp, 0, 0, [1], none, ⟨⟨by decide, by decide, by decide, by decide, by decide⟩, ⟨by decide, by decide⟩⟩, by decide, by decide⟩,
   ⟨wUp, _, 0, 255, 3, 7, 0, 255, none, ⟨⟨by decide, by decide, by decide, by decide, by decide⟩, ⟨by decide, by decide⟩⟩, rfl, by and_intros <;> decide +kernel⟩,
   ⟨wUp, _, 0, none, ⟨⟨by decide, by decide, by decide, by decide, by decide⟩, ⟨by decide, by decide⟩⟩, rfl⟩⟩

theorem witness_CapacityResponses :
    (∃ (s : State), ∃ (p : Nat), ∃ (r : Nat), ∃ (e : Ext), ∃ (ide : Option Nat), s.Mailed p ide ∧ s.pool.recs.get? r = some e ∧ e.st = .offered ∧ s.extPort e = p ∧ 0 < e.bytes ∧ (∀ x ∈ s.touching p e.dpa e.bytes, x.2.st = .offered)) ∧
    (∃ (s : State), ∃ (p : Nat), ∃ (r : Nat), ∃ (e : Ext), ∃ (ide : Option Nat), s.Mailed p ide ∧ s.pool.recs.get? r = some e ∧ e.st = .offered ∧ s.extPort e = p) ∧
    (∃ (s : State), ∃ (p : Nat), ∃ (r : Nat), ∃ (e : Ext), ∃ (x : DcExtent), ∃ (ide : Option Nat), s.Mailed p ide ∧ s.pool.recs.get? r = some e ∧ s.touching p x.dpa x.length = []) ∧
    (∃ (s : State), ∃ (p : Nat), ∃ (r : Nat), ∃ (k : Nat), ∃ (e : Ext), ∃ (f : Ext), ∃ (xs : List DcExtent), ∃ (ide : Option Nat), s.Mailed p ide ∧ s.pool.recs.get? r = some e ∧ ((⟨f.dpa, f.bytes⟩ ∈ xs ∧ 0 < f.bytes ∧ s.pool.recs.get? k = some f ∧ s.extPort f = p ∧ f.st ≠ .offered) ∨ (xs ≠ [] ∧ e.st ≠ .offered))) ∧
    (∃ (s : State), ∃ (p : Nat), ∃ (r : Nat), ∃ (e : Ext), ∃ (ide : Option Nat), s.Mailed p ide ∧ s.pool.recs.get? r = some e ∧ s.extPort e = p ∧ e.st ≠ .offered) ∧
    (∃ (s : State), ∃ (p : Nat), ∃ (r : Nat), ∃ (xs : List DcExtent), ∃ (ide : Option Nat), s.Mailed p ide ∧ s.pool.recs.get? r = none ∧ xs ≠ []) ∧
    (∃ (s : State), ∃ (p : Nat), ∃ (r : Nat), ∃ (e : Ext), ∃ (ide : Option Nat), s.Mailed p ide ∧ s.pool.recs.find? (fun x => s.extPort x.2 == p && x.2.dpa == e.dpa && x.2.bytes == e.bytes) = some (r, e) ∧ s.pool.recs.get? r = some e ∧ e.st = .active) :=
  ⟨⟨wOff, _, 2, _, none, ⟨⟨by decide, by decide, by decide, by decide, by decide⟩, ⟨by decide, by decide⟩⟩, rfl, by decide, rfl, by decide, by decide⟩,
   ⟨wOff, _, 2, _, none, ⟨⟨by decide, by decide, by decide, by decide, by decide⟩, ⟨by decide, by decide⟩⟩, rfl, by decide, rfl⟩,
   ⟨wOff, 0, 2, _, ⟨0x200000,0x200000⟩, none, ⟨⟨by decide, by decide, by decide, by decide, by decide⟩, ⟨by decide, by decide⟩⟩, rfl, by decide⟩,
   ⟨wPool, 0, 2, 2, _, wRec, [⟨0,0x200000⟩], none, ⟨⟨by decide, by decide, by decide, by decide, by decide⟩, ⟨by decide, by decide⟩⟩, rfl, by decide⟩,
   ⟨wPool, _, 2, _, none, ⟨⟨by decide, by decide, by decide, by decide, by decide⟩, ⟨by decide, by decide⟩⟩, rfl, rfl, by decide⟩,
   ⟨wPool, 0, 9, [⟨0,1⟩], none, ⟨⟨by decide, by decide, by decide, by decide, by decide⟩, ⟨by decide, by decide⟩⟩, by decide, by decide⟩,
   ⟨wPool, 0, 2, wRec, none, ⟨⟨by decide, by decide, by decide, by decide, by decide⟩, ⟨by decide, by decide⟩⟩, by and_intros <;> decide +kernel⟩⟩

theorem witness_ExtentsAreOffered :
    (∃ (s : State), ∃ (ses : Nat), ∃ (tenant : Nat), ∃ (partner : Nat), ∃ (dpa : Nat), ∃ (granules : Nat), ∃ (leaseMs : Nat), ∃ (r : Nat), Commanded s ses ∧ s.Unparked ∧ s.addBounds tenant partner dpa granules leaseMs = none ∧ s.tenantActive tenant = true ∧ (s.part partner).tenant = some tenant ∧ s.addBusy partner = false ∧ r = freeKey s.pool.recs ∧ granules * Config.granuleBytes ≤ s.poolFree) ∧
    (∃ (s : State), ∃ (ses : Nat), ∃ (tenant : Nat), ∃ (partner : Nat), ∃ (dpa : Nat), ∃ (granules : Nat), ∃ (leaseMs : Nat), ∃ (r : Nat), Commanded s ses ∧ s.Unparked ∧ s.addBounds tenant partner dpa granules leaseMs = none ∧ s.tenantActive tenant = true ∧ (s.part partner).tenant = some tenant ∧ s.addBusy partner = false ∧ r = freeKey s.pool.recs ∧ s.poolFree < granules * Config.granuleBytes) ∧
    (∃ (s : State), ∃ (ses : Nat), ∃ (tenant : Nat), ∃ (partner : Nat), ∃ (dpa : Nat), ∃ (granules : Nat), ∃ (leaseMs : Nat), ∃ (share : Nat), ∃ (r : Nat), ∃ (m : Ext), Commanded s ses ∧ s.Unparked ∧ share < Config.nRecords ∧ s.pool.recs.get? share = some m ∧ m.tenant = tenant ∧ (m.st = .offered ∨ m.st = .active) ∧ m.view = none ∧ m.granules = granules ∧ s.addBounds tenant partner dpa granules leaseMs = none ∧ s.tenantActive tenant = true ∧ (s.part partner).tenant = some tenant ∧ s.addBusy partner = false ∧ s.groupRecs m.group < 64 ∧ r = freeKey s.pool.recs) ∧
    (∃ (s : State), ∃ (ses : Nat), ∃ (tenant : Nat), ∃ (partner : Nat), ∃ (dpa : Nat), ∃ (granules : Nat), ∃ (leaseMs : Nat), ∃ (rec0 : Nat), ∃ (off : Nat), ∃ (r : Nat), ∃ (b : Ext), ∃ (h : Grist.BlobHead), Commanded s ses ∧ s.Unparked ∧ rec0 < Config.nRecords ∧ off % 64 = 0 ∧ s.pool.recs.get? rec0 = some b ∧ b.tenant = tenant ∧ b.st = .active ∧ b.view = none ∧ off + 64 ≤ b.bytes ∧ s.spanForeign (extSpan rec0 b off 64) = false ∧ Grist.blobHead (s.spanBytes (extSpan rec0 b off 64)) = some h ∧ off + h.total ≤ b.bytes ∧ (∀ k ∈ Grist.blobTables h.mask, s.tableLoaded tenant k = true) ∧ s.addBounds tenant partner dpa granules leaseMs = none ∧ s.tenantActive tenant = true ∧ (s.part partner).tenant = some tenant ∧ s.addBusy partner = false ∧ r = freeKey s.pool.recs) :=
  ⟨⟨wUp, 1, _, 3, 0, 1, 60000, _, ⟨by decide, by decide, by decide, by decide⟩, by unfold State.Unparked; decide, by decide, by decide, rfl, by decide, rfl, by decide⟩,
   ⟨({ wUp with geo := { kOffline := List.range 15 }, pool := { groups := [(7, { tenant := 5, granules := 780000, creator := 0 })] } }), 1, _, 3, 0, 16385, 60000, _, ⟨by decide, by decide, by decide, by decide⟩, by unfold State.Unparked; decide, by decide, by decide, rfl, by decide, rfl, by decide⟩,
   by
    refine ⟨wPool2, 1, 5, 4, 0x200000, 1, 60000, 2, _, _, ⟨by decide, by decide, by decide, by decide⟩, by unfold State.Unparked; decide, ?_, rfl, ?_, ?_, ?_, ?_, ?_, ?_, ?_, ?_, ?_, rfl⟩ <;> decide +kernel,
   by
    refine ⟨wBlob, 1, 5, 3, 0x200000, 1, 60000, 2, 0, _, _, _, ⟨by decide +kernel, by decide +kernel, by decide +kernel, by decide +kernel⟩, by unfold State.Unparked; decide, ?_, ?_, rfl, ?_, ?_, ?_, ?_, ?_, rfl, ?_, ?_, ?_, ?_, ?_, ?_, rfl⟩ <;> decide +kernel⟩

theorem witness_ExtentCommands :
    (∃ (s : State), ∃ (ses : Nat), ∃ (r : Nat), ∃ (e : Ext), Commanded s ses ∧ s.Unparked ∧ r < Config.nRecords ∧ s.pool.recs.get? r = some e ∧ e.st = .offered) ∧
    (∃ (s : State), ∃ (ses : Nat), ∃ (r : Nat), ∃ (e : Ext), Commanded s ses ∧ s.Unparked ∧ r < Config.nRecords ∧ s.pool.recs.get? r = some e ∧ e.st = .active) ∧
    (∃ (s : State), ∃ (ses : Nat), ∃ (r : Nat), ∃ (e : Ext), ∃ ms, Commanded s ses ∧ s.Unparked ∧ r < Config.nRecords ∧ s.pool.recs.get? r = some e ∧ 1000 ≤ ms ∧ ms ≤ 3600000 ∧ e.st = .active) ∧
    (∃ (s : State), ∃ (ses : Nat), ∃ (r : Nat), ∃ (e : Ext), ∃ ms, Commanded s ses ∧ s.Unparked ∧ r < Config.nRecords ∧ s.pool.recs.get? r = some e ∧ 1000 ≤ ms ∧ ms ≤ 3600000 ∧ e.st ≠ .active) ∧
    (∃ (s : State), ∃ (ses : Nat), ∃ (r : Nat), ∃ (e : Ext), Commanded s ses ∧ s.Unparked ∧ r < Config.nRecords ∧ s.pool.recs.get? r = some e ∧ e.st ≠ .active) ∧
    (∃ (s : State), ∃ (ses : Nat), ∃ (r : Nat), ∃ (e : Ext), Commanded s ses ∧ s.Unparked ∧ r < Config.nRecords ∧ s.pool.recs.get? r = some e) :=
  ⟨⟨wOff, 1, 2, _, ⟨by decide, by decide, by decide, by decide⟩, by unfold State.Unparked; decide, by decide, rfl, by decide⟩,
   ⟨wPool, 1, 2, _, ⟨by decide, by decide, by decide, by decide⟩, by unfold State.Unparked; decide, by decide, rfl, by decide⟩,
   ⟨wPool, 1, 2, _, 1000, ⟨by decide, by decide, by decide, by decide⟩, by unfold State.Unparked; decide, by decide, rfl, by and_intros <;> decide +kernel⟩,
   ⟨wOff, 1, 2, _, 3600000, ⟨by decide, by decide, by decide, by decide⟩, by unfold State.Unparked; decide, by decide, rfl, by and_intros <;> decide +kernel⟩,
   ⟨wOff, 1, 2, _, ⟨by decide, by decide, by decide, by decide⟩, by unfold State.Unparked; decide, by decide, rfl, by decide⟩,
   ⟨wPool, 1, 2, _, ⟨by decide, by decide, by decide, by decide⟩, by unfold State.Unparked; decide, by decide, rfl⟩⟩

theorem witness_ExtentTimers :
    (∃ (s : State), ∃ (u : State), ∃ (r : Nat), ∃ (e : Ext), s.running = true ∧ s.leaseRuns = true ∧ s.pool.recs.get? r = some e ∧ e.st = .active ∧ u = ((s.leaseTo e.expiry).advance 1).awaken) ∧
    (∃ (s : State), ∃ (u : State), ∃ (r : Nat), ∃ (e : Ext), s.running = true ∧ s.pool.recs.get? r = some e ∧ e.st = .offered ∧ u = (s.expire (e.since + e.leaseMs * 1000000)).awaken) ∧
    (∃ (s : State), ∃ (r : Nat), ∃ (e : Ext), s.pool.recs.get? r = some e ∧ e.st = .draining ∧ s.inFlight r = false ∧ (∃ k x, k ≠ r ∧ s.pool.recs.get? k = some x ∧ x.group = e.group ∧ x.st ≠ .scrubbing)) ∧
    (∃ (s : State), ∃ (r : Nat), ∃ (e : Ext), s.pool.recs.get? r = some e ∧ e.st = .draining ∧ s.inFlight r = false ∧ (∀ k x, k ≠ r → s.pool.recs.get? k = some x → x.group = e.group → x.st = .scrubbing) ∧ s.Unawaited e.group) ∧
    (∃ (s : State), ∃ (r : Nat), ∃ (e : Ext), s.running = true ∧ s.pool.recs.get? r = some e ∧ e.st = .draining ∧ s.inFlight r = true) ∧
    (∃ (s : State), ∃ (r : Nat), ∃ (e : Ext), s.pool.recs.get? r = some e ∧ e.st = .scrubbing) :=
  ⟨⟨wPool, _, 2, _, by decide, by decide, rfl, by decide, rfl⟩,
   ⟨wOff, _, 2, _, by decide, rfl, by decide, rfl⟩,
   ⟨({ wDrain with pool := { wDrain.pool with recs := [(2, { wRec with st := .draining }), (3, { wRec with dpa := 0x200000, st := .draining })] } }), 2, _, rfl, by decide, by decide, ⟨3, _, by decide, rfl, by decide, by decide⟩⟩,
   ⟨wDrain, 2, _, rfl, by decide, by decide, fun k x n h => by simp [wDrain, wPool, Map.get?, Ne.symm n] at h, by unfold State.Unawaited; decide +kernel⟩,
   ⟨({ wDrain with ops := [{ opOf 0x11 [0, 0, 1, 0, 0, 64] with accepted := [2] }], opSeq := 8 }), 2, _, by decide, rfl, by decide, by decide⟩,
   ⟨({ wPool with pool := { wPool.pool with recs := [(2, { wRec with st := .scrubbing })] } }), 2, _, rfl, by decide⟩⟩

theorem witness_SpreadPoolCommands :
    (∃ (s : State), ∃ (ses : Nat), ∃ member, Commanded s ses ∧ s.Unparked ∧ member ≤ 20479 ∧ s.pool.ns = none) ∧
    (∃ (s : State), ∃ (ses : Nat), ∃ member, ∃ kind, ∃ pbr, ∃ port, Commanded s ses ∧ s.Unparked ∧ member ≤ 20479 ∧ kind ≤ 2 ∧ pbr ≤ 4095 ∧ port ≤ 27) ∧
    (∃ (s : State), ∃ (ses : Nat), ∃ member, ∃ m, Commanded s ses ∧ s.Unparked ∧ s.pool.members.get? member = some m) ∧
    (∃ (s : State), ∃ (ses : Nat), ∃ member, ∃ base, ∃ len, ∃ tenant, ∃ m, Commanded s ses ∧ s.Unparked ∧ base % 4096 = 0 ∧ len % 4096 = 0 ∧ s.pool.members.get? member = some m ∧ s.tenantLeaving tenant = false ∧ s.pool.grants.length < 65536) ∧
    (∃ (s : State), ∃ (ses : Nat), ∃ n, ∃ g, Commanded s ses ∧ s.Unparked ∧ s.pool.grants.get? n = some g) ∧
    (∃ (s : State), ∃ (ses : Nat), ∃ n, ∃ (v : Word), ∃ (w : Window), Commanded s ses ∧ s.Unparked ∧ n < 64 ∧ bit v 3 = true ∧ w = { s.shadowWin n with ctl := w32 (bits v 2 0) }) :=
  ⟨⟨wUp, 1, 20479, ⟨by decide, by decide, by decide, by decide⟩, by unfold State.Unparked; decide, by decide, by decide⟩,
   ⟨wUp, 1, 20479, 2, 4095, 27, ⟨by decide, by decide, by decide, by decide⟩, by unfold State.Unparked; decide, by and_intros <;> decide +kernel⟩,
   ⟨({ wUp with pool := { members := [(9, ⟨0,3,0⟩)], grants := [(0, ⟨9,0,4096,5,3⟩)] } }), 1, 9, _, ⟨by decide, by decide, by decide, by decide⟩, by unfold State.Unparked; decide, rfl⟩,
   ⟨({ wUp with pool := { members := [(9, ⟨0,3,0⟩)] } }), 1, 9, 4096, 4096, 5, _, ⟨by decide, by decide, by decide, by decide⟩, by unfold State.Unparked; decide, by decide, by decide, rfl, by decide, by decide⟩,
   ⟨({ wUp with pool := { members := [(9, ⟨0,3,0⟩)], grants := [(0, ⟨9,0,4096,5,3⟩)] } }), 1, 0, _, ⟨by decide, by decide, by decide, by decide⟩, by unfold State.Unparked; decide, rfl⟩,
   ⟨wUp, 1, 63, 0x9, _, ⟨by decide, by decide, by decide, by decide⟩, by unfold State.Unparked; decide, by decide, by decide, rfl⟩⟩

theorem witness_CaskGrants :
    (∃ (s : State), ∃ (ses : Nat), ∃ (owner : Nat), ∃ (id : Nat), ∃ (grantee : Nat), ∃ (name : Nat), ∃ (c : Nat), ∃ (k : Cask), Commanded s ses ∧ s.Unparked ∧ s.tenantLeaving owner = false ∧ s.tenantLeaving grantee = false ∧ s.casks.find? (fun c => c.2.tenant == owner && c.2.id == id) = some (c, k) ∧ s.findCask grantee name = none ∧ k.grants.length < 16) ∧
    (∃ (s : State), ∃ (ses : Nat), ∃ (owner : Nat), ∃ (id : Nat), ∃ (grantee : Nat), ∃ (c : Nat), ∃ (k : Cask), Commanded s ses ∧ s.Unparked ∧ s.tenantLeaving owner = false ∧ s.tenantLeaving grantee = false ∧ s.casks.find? (fun c => c.2.tenant == owner && c.2.id == id) = some (c, k) ∧ (∃ g ∈ k.grants, g.grantee = grantee)) ∧
    (∃ (s : State), ∃ (ses : Nat), ∃ (owner : Nat), ∃ (grantee : Nat), Commanded s ses ∧ s.Unparked ∧ (s.tenantLeaving owner = true ∨ s.tenantLeaving grantee = true)) ∧
    (∃ (s : State), ∃ (ses : Nat), ∃ (grantee : Nat), ∃ (name : Nat), Commanded s ses ∧ s.Unparked ∧ (s.findCask grantee name).isSome = true) :=
  ⟨⟨wUp, 1, 5, 77, 6, 5, _, _, ⟨by decide, by decide, by decide, by decide⟩, by unfold State.Unparked; decide, by decide, by decide, rfl, by decide, by decide⟩,
   ⟨({ wUp with casks := [(8, { tenant := 5, id := 77, grants := [⟨6,1,0,true⟩] })] }), 1, 5, 77, 6, _, _, ⟨by decide, by decide, by decide, by decide⟩, by unfold State.Unparked; decide, by decide, by decide, rfl, ⟨⟨6,1,0,true⟩, by decide, rfl⟩⟩,
   ⟨({ wUp with tenants := [(5, { st := .removing })] }), 1, 5, 6, ⟨by decide, by decide, by decide, by decide⟩, by unfold State.Unparked; decide, by decide⟩,
   ⟨({ wUp with casks := [(8, { tenant := 5, id := 77, grants := [⟨6,5,0,true⟩] })] }), 1, 6, 5, ⟨by decide, by decide, by decide, by decide⟩, by unfold State.Unparked; decide, by decide⟩⟩

theorem witness_FunctionHalts : ∃ (s : State), ∃ (p : Nat), p < Config.nPorts ∧ (s.port p).width ≠ 0 ∧ s.OpsDistinct :=
  ⟨wHalt, 0, by decide, by decide, ⟨by decide, by decide⟩⟩

theorem witness_FunctionResumes :
    (∃ (s : State), ∃ (p : Nat), p < Config.nPorts ∧ (s.port p).width ≠ 0 ∧ (s.port p).d3 = false ∧ (s.port p).flrBusy = false) ∧
    (∃ (s : State), ∃ (p : Nat), p < Config.nPorts ∧ (s.port p).width ≠ 0 ∧ ((s.port p).d3 = true ∨ (s.port p).flrBusy = true)) ∧
    (∃ (s : State), ∃ (p : Nat), p < Config.nPorts ∧ (s.port p).width ≠ 0 ∧ (s.port p).bme = true ∧ (s.port p).flrBusy = false) ∧
    (∃ (s : State), ∃ (p : Nat), p < Config.nPorts ∧ (s.port p).width ≠ 0 ∧ ((s.port p).bme = false ∨ (s.port p).flrBusy = true)) :=
  ⟨⟨({ wUp with ports := [(0, { wUp.port 0 with bme := false, held := [.irq 0 3] })] }), 0, by and_intros <;> decide +kernel⟩,
   ⟨({ wUp with ports := [(0, { wUp.port 0 with bme := false, d3 := true })] }), 0, by and_intros <;> decide +kernel⟩,
   ⟨({ wUp with ports := [(0, { wUp.port 0 with d3 := true, held := [.irq 0 3] })] }), 0, by and_intros <;> decide +kernel⟩,
   ⟨({ wUp with ports := [(0, { wUp.port 0 with bme := false, d3 := true })] }), 0, by and_intros <;> decide +kernel⟩⟩

theorem witness_FunctionResets :
    (∃ (s : State), ∃ (p : Nat), p < Config.nPorts ∧ (s.port p).width ≠ 0) ∧
    (∃ (p : Nat), p < Config.nPorts) :=
  ⟨⟨wHalt, 0, by decide, by decide⟩,
   ⟨0, by decide⟩⟩

theorem witness_LinkAndVectorCommands :
    (∃ (s : State), ∃ (p : Nat), ∃ (w : Nat), ∃ (speed : Nat), ∃ (flit : Bool), ∃ (cxl : Bool), p < Config.nPorts ∧ (s.port p).width = 0 ∧ s.mayTrain p speed flit cxl = true ∧ 1 ≤ w ∧ w ≤ 4 ∧ speed ≤ 6) ∧
    (∃ (s : State), ∃ (p : Nat), s.running = true ∧ p < Config.nPorts ∧ (s.port p).width ≠ 0 ∧ bit (s.port p).pmCtl 31 = true ∧ (s.port p).l0pLink = true ∧ s.carriesMailbox p = false ∧ s.portIdle p = true) ∧
    (∃ (s : State), ∃ (p : Nat), s.running = true ∧ p < Config.nPorts ∧ (s.port p).width ≠ 0 ∧ (s.port p).inL1 = false ∧ (s.pwr.state = .standby ∨ s.pwr.state = .parked)) ∧
    (∃ (s : State), ∃ (p : Nat), s.running = true ∧ p < Config.nPorts ∧ (s.port p).width ≠ 0 ∧ (s.port p).inL1 = false ∧ s.pwr.state ≠ .standby ∧ s.pwr.state ≠ .parked ∧ (s.port p).aspmL1 = true ∧ bits (s.port p).pmCtl 15 0 ≠ 0 ∧ s.carriesMailbox p = false ∧ s.portIdle p = true) ∧
    (∃ (s : State), ∃ (p : Nat), s.running = true ∧ p < Config.nPorts ∧ (s.port p).width ≠ 0 ∧ (s.port p).inL1 = true) ∧
    (∃ (s : State), ∃ (p : Nat), ∃ (d : Nat), ∃ (ide : Option Nat), ∃ (q : Port), s.Mailed p ide ∧ q = (s.leaveL1 p).port p ∧ q.cxl = true ∧ d < 4 ∧ (q.hdm.get d {}).committed = false) ∧
    (∃ (s : State), ∃ (p : Nat), ∃ (v : Nat), ∃ (ide : Option Nat), s.Mailed p ide ∧ v < 2048 ∧ (s.port p).msi = .msix ∧ (s.port p).bme = true ∧ bit ((s.port p).cfg.get 0xB0 0) 30 = false ∧ (∀ w ∈ (s.port p).pendingV, (s.port p).entryMasked w = true)) ∧
    (∃ (s : State), ∃ (p : Nat), ∃ (v : Nat), ∃ (n : Nat), s.Hosted p ∧ v < 2048 ∧ (s.port p).msi = .msi n ∧ 1 ≤ n ∧ n ≤ 32 ∧ (s.port p).bme = true ∧ (∀ w ∈ (s.port p).msiPending, (s.port p).messageMasked w = true)) :=
  ⟨⟨wUp, 27, 4, 6, true, true, by and_intros <;> decide +kernel⟩,
   ⟨({ wUp with ports := [(0, { wUp.port 0 with l0pLink := true })] }), 0, by and_intros <;> decide +kernel⟩,
   ⟨({ wUp with pwr := { state := .standby } }), 0, by and_intros <;> decide +kernel⟩,
   ⟨({ wUp with ports := [(0, { wUp.port 0 with aspmL1 := true })] }), 0, by and_intros <;> decide +kernel⟩,
   ⟨({ wUp with ports := [(0, { wUp.port 0 with inL1 := true })] }), 0, by and_intros <;> decide +kernel⟩,
   ⟨wUp, 0, 3, none, _, ⟨⟨by decide, by decide, by decide, by decide, by decide⟩, ⟨by decide, by decide⟩⟩, rfl, by and_intros <;> decide +kernel⟩,
   ⟨({ wUp with ports := [(0, { wUp.port 0 with msi := .msix, pendingV := [2047] })] }), 0, 2047, none, ⟨⟨by decide, by decide, by decide, by decide, by decide⟩, ⟨by decide, by decide⟩⟩, by and_intros <;> decide +kernel⟩,
   ⟨({ wUp with ports := [(0, { wUp.port 0 with msi := .msi 4, msiPending := [3], cfg := [(0x60, 0x8)] })] }), 0, 3, 4, ⟨by decide, by decide, by decide, by decide, by decide⟩, by and_intros <;> decide +kernel⟩⟩

theorem witness_LinkErrors :
    (∃ (s : State), ∃ (p : Nat), ∃ (q : Port), p < Config.nPorts ∧ q = s.port p ∧ q.width ≠ 0) ∧
    (∃ (s : State), ∃ (p : Nat), ∃ (q : Port), ∃ (what : BadTlp), ∃ (e : AerError), p < Config.nPorts ∧ q = s.port p ∧ q.width ≠ 0 ∧ (what, e) ∈ [(BadTlp.malformed, AerError.malformed), (.flowControl, .flowControl), (.receiverOverflow, .receiverOverflow)]) ∧
    (∃ (s : State), ∃ (p : Nat), ∃ (q : Port), ∃ (misrouted : Bool), ∃ (e : AerError), p < Config.nPorts ∧ q = s.port p ∧ q.width ≠ 0 ∧ (e = (if misrouted then AerError.ideMisrouted else .ideCheck))) :=
  ⟨⟨wUp, 0, _, by decide, rfl, by decide⟩,
   ⟨wUp, 0, _, .flowControl, .flowControl, by decide, rfl, by decide, by decide⟩,
   ⟨({ wUp with ports := [(0, { wUp.port 0 with ide := [(1, ⟨.secure, 5, false⟩)] })] }), 0, _, true, _, by decide, rfl, by decide, rfl⟩⟩

theorem witness_DmaCompletions :
    (∃ (s : State), ∃ (p : Nat), ∃ (tag : Nat), ∃ (ide : Option Nat), ∃ (o : Op), ∃ (r : DmaRead), s.Hears p ide ∧ (s.port p).bme = true ∧ (s.port p).d3 = false ∧ s.OpsDistinct ∧ s.tagHolder p tag = some (o, r) ∧ s.op? o.id = some o ∧ r.ack = false ∧ r.stale = false) ∧
    (∃ (s : State), ∃ (p : Nat), ∃ (tag : Nat), ∃ (n : Nat), ∃ (ide : Option Nat), ∃ (o : Op), ∃ (r : DmaRead), ∃ (a : DmaAnswer), ∃ (st : Status), s.Hears p ide ∧ (s.port p).bme = true ∧ (s.port p).d3 = false ∧ s.OpsDistinct ∧ s.tagHolder p tag = some (o, r) ∧ s.op? o.id = some o ∧ o.phase = .running ∧ r.stale = false ∧ (((a = .ur ∨ a = .ca) ∧ n = r.len ∧ st = .access) ∨ (a = .poison n ∧ st = .media))) ∧
    (∃ (s : State), ∃ (p : Nat), ∃ (tag : Nat), ∃ (owed : Nat), ∃ (n : Nat), ∃ (ide : Option Nat), ∃ (a : DmaAnswer), s.Hears p ide ∧ s.tagHolder p tag = none ∧ (s.port p).retired.get? tag = some owed ∧ n = answerBytes a owed) ∧
    (∃ (s : State), ∃ (p : Nat), ∃ (tag : Nat), ∃ (ide : Option Nat), s.Hears p ide ∧ s.tagHolder p tag = none ∧ (s.port p).retired.get? tag = none) ∧
    (∃ (s : State), ∃ (p : Nat), ∃ (ide : Option Nat), p < Config.nPorts ∧ (s.port p).width ≠ 0 ∧ (s.port p).flrBusy = false ∧ (s.port p).drops ide = true) ∧
    (∃ (s : State), ∃ (p : Nat), ∃ (ide : Option Nat), p < Config.nPorts ∧ (s.port p).width ≠ 0 ∧ (s.port p).flrBusy = false ∧ (s.port p).ideRequired = true ∧ ide = none) ∧
    (∃ (s : State), ∃ (p : Nat), ∃ (tag : Nat), ∃ (o : Op), ∃ (r : DmaRead), s.running = true ∧ s.OpsDistinct ∧ s.tagHolder p tag = some (o, r) ∧ s.op? o.id = some o ∧ o.phase = .running ∧ r.stale = false) :=
  ⟨⟨wDma, 0, 9, none, _, _, ⟨⟨by decide, by decide⟩, by decide, by decide, by decide⟩, by decide, by decide, ⟨by decide, by decide⟩, rfl, by and_intros <;> decide +kernel⟩,
   ⟨wDma, 0, 9, 3, none, _, _, .ca, .access, ⟨⟨by decide, by decide⟩, by decide, by decide, by decide⟩, by decide, by decide, ⟨by decide, by decide⟩, rfl, by and_intros <;> decide +kernel⟩,
   ⟨({ wDma with ports := [(0, { wUp.port 0 with retired := [(10, 9)] })] }), 0, 10, _, _, none, (.data [1,2,3]), ⟨⟨by decide, by decide⟩, by decide, by decide, by decide⟩, by decide, rfl, rfl⟩,
   ⟨wDma, 0, 10, none, ⟨⟨by decide, by decide⟩, by decide, by decide, by decide⟩, by decide, by decide⟩,
   ⟨({ wDma with ports := [(0, { wUp.port 0 with ide := [(1, ⟨.insecure, 5, false⟩)] })] }), 0, (some 1), by and_intros <;> decide +kernel⟩,
   ⟨({ wDma with ports := [(0, { wUp.port 0 with ideRequired := true })] }), 0, _, by decide, by decide, by decide, by decide, rfl⟩,
   ⟨wDma, 0, 9, _, _, by decide, ⟨by decide, by decide⟩, rfl, by and_intros <;> decide +kernel⟩⟩

theorem witness_RingDoorbells :
    (∃ (s : State), ∃ (p : Nat), ∃ (n : Nat), ∃ (ide : Option Nat), ∃ (v : Word), ∃ (nb : Nat), ∃ (i : Nat), ∃ r, ∃ q, s.Reaches p n ide ∧ i = bits v 16 0 ∧ r < 4 ∧ q = s.ring n r ∧ nb ≤ 4 ∧ q.enable = true ∧ q.err = false ∧ q.size ≤ i) ∧
    (∃ (s : State), ∃ (p : Nat), ∃ (n : Nat), ∃ (ide : Option Nat), ∃ (v : Word), ∃ (nb : Nat), ∃ (i : Nat), ∃ r, ∃ q, s.Reaches p n ide ∧ i = bits v 16 0 ∧ r < 4 ∧ q = s.ring n r ∧ nb ≤ 4 ∧ q.enable = true ∧ q.err = false ∧ i = q.tail ∧ i < q.size) ∧
    (∃ (s : State), ∃ (p : Nat), ∃ (n : Nat), ∃ (ide : Option Nat), ∃ (v : Word), ∃ (nb : Nat), ∃ (i : Nat), ∃ r, ∃ q, s.Reaches p n ide ∧ i = bits v 16 0 ∧ r < 4 ∧ q = s.ring n r ∧ nb ≤ 4 ∧ q.enable = true ∧ q.err = false ∧ i < q.size ∧ i ≠ q.tail ∧ (i + q.size - q.head) % q.size < (q.tail + q.size - q.head) % q.size) ∧
    (∃ (s : State), ∃ (p : Nat), ∃ (n : Nat), ∃ (ide : Option Nat), ∃ (v : Word), ∃ (nb : Nat), ∃ (i : Nat), ∃ r, ∃ q, s.Reaches p n ide ∧ i = bits v 16 0 ∧ r < 4 ∧ q = s.ring n r ∧ nb ≤ 4 ∧ q.enable = true ∧ q.err = false ∧ i < q.size ∧ i ≠ q.tail ∧ (q.tail + q.size - q.head) % q.size ≤ (i + q.size - q.head) % q.size) ∧
    (∃ (s : State), ∃ (p : Nat), ∃ (n : Nat), ∃ (ide : Option Nat), ∃ (v : Word), ∃ (nb : Nat), ∃ (i : Nat), ∃ r, ∃ q, s.Reaches p n ide ∧ i = bits v 16 0 ∧ r < 4 ∧ q = s.ring n r ∧ (4 < nb ∨ q.enable = false ∨ q.err = true)) ∧
    (∃ (s : State), ∃ (p : Nat), ∃ (n : Nat), ∃ (ide : Option Nat), ∃ (v : Word), ∃ (nb : Nat), ∃ (i : Nat), ∃ q, s.Reaches p n ide ∧ i = bits v 16 0 ∧ q = s.ring n 4 ∧ nb ≤ 4 ∧ q.enable = true ∧ q.err = false ∧ i < q.size ∧ (i + q.size - q.head) % q.size ≤ (q.tail + q.size - q.head) % q.size) ∧
    (∃ (s : State), ∃ (p : Nat), ∃ (n : Nat), ∃ (ide : Option Nat), ∃ (v : Word), ∃ (nb : Nat), ∃ (i : Nat), ∃ q, s.Reaches p n ide ∧ i = bits v 16 0 ∧ q = s.ring n 4 ∧ nb ≤ 4 ∧ q.enable = true ∧ q.err = false ∧ (q.size ≤ i ∨ (q.tail + q.size - q.head) % q.size < (i + q.size - q.head) % q.size)) ∧
    (∃ (s : State), ∃ (p : Nat), ∃ (n : Nat), ∃ (ide : Option Nat), ∃ (v : Word), ∃ (nb : Nat), ∃ (i : Nat), ∃ q, s.Reaches p n ide ∧ i = bits v 16 0 ∧ q = s.ring n 4 ∧ (4 < nb ∨ q.enable = false ∨ q.err = true)) :=
  ⟨⟨wUp, 0, 3, none, 64, 4, _, 0, _, ⟨⟨by decide, by decide⟩, by decide, by decide, by decide, by decide, by decide, by decide⟩, rfl, by decide, rfl, by and_intros <;> decide +kernel⟩,
   ⟨wUp, 0, 3, none, 5, 4, _, 0, _, ⟨⟨by decide, by decide⟩, by decide, by decide, by decide, by decide, by decide, by decide⟩, rfl, by decide, rfl, by and_intros <;> decide +kernel⟩,
   ⟨wUp, 0, 3, none, 3, 4, _, 0, _, ⟨⟨by decide, by decide⟩, by decide, by decide, by decide, by decide, by decide, by decide⟩, rfl, by decide, rfl, by and_intros <;> decide +kernel⟩,
   ⟨({ wUp with parts := [(3, { wUp.part 3 with rings := [(0, { baseLo := 0x1000, enable := true, sizeLog2 := 6, head := 2, tail := 63 })] })] }), 0, 3, none, 1, 4, _, 0, _, ⟨⟨by decide, by decide⟩, by decide, by decide, by decide, by decide, by decide, by decide⟩, rfl, by decide, rfl, by and_intros <;> decide +kernel⟩,
   ⟨wUp, 0, 3, none, 0, 5, _, 0, _, ⟨⟨by decide, by decide⟩, by decide, by decide, by decide, by decide, by decide, by decide⟩, rfl, by decide, rfl, by decide⟩,
   ⟨wUp, 0, 3, none, 1, 4, _, _, ⟨⟨by decide, by decide⟩, by decide, by decide, by decide, by decide, by decide, by decide⟩, rfl, rfl, by and_intros <;> decide +kernel⟩,
   ⟨wUp, 0, 3, none, 2, 4, _, _, ⟨⟨by decide, by decide⟩, by decide, by decide, by decide, by decide, by decide, by decide⟩, rfl, rfl, by and_intros <;> decide +kernel⟩,
   ⟨wUp, 0, 3, none, 0, 8, _, _, ⟨⟨by decide, by decide⟩, by decide, by decide, by decide, by decide, by decide, by decide⟩, rfl, rfl, by decide⟩⟩

theorem witness_RingControl :
    (∃ (s : State), ∃ (p : Nat), ∃ (n : Nat), ∃ (r : Nat), ∃ (ide : Option Nat), ∃ (v : Word), ∃ (q : Ring), s.Reaches p n ide ∧ q = s.ring n r ∧ q.enable = false ∧ ((r < 4 ∧ s.ringBusy n r = false) ∨ (r = 4 ∧ q.disabling = false)) ∧ 6 ≤ bits v 4 0 ∧ bits v 4 0 ≤ 16) ∧
    (∃ (s : State), ∃ (p : Nat), ∃ (n : Nat), ∃ (r : Nat), ∃ (ide : Option Nat), ∃ (v : Word), ∃ (q : Ring), s.Reaches p n ide ∧ q = s.ring n r ∧ q.enable = false ∧ ((r < 4 ∧ s.ringBusy n r = false) ∨ (r = 4 ∧ q.disabling = false)) ∧ (bits v 4 0 < 6 ∨ 16 < bits v 4 0)) ∧
    (∃ (s : State), ∃ (p : Nat), ∃ (n : Nat), ∃ (ide : Option Nat), ∃ r, ∃ q, s.Reaches p n ide ∧ r < 4 ∧ q = s.ring n r ∧ q.enable = true) ∧
    (∃ (s : State), ∃ (p : Nat), ∃ (n : Nat), ∃ (ide : Option Nat), ∃ r, ∃ q, s.Reaches p n ide ∧ r < 4 ∧ q = s.ring n r ∧ q.enable = false ∧ s.ringBusy n r = false) ∧
    (∃ (s : State), ∃ (p : Nat), ∃ (n : Nat), ∃ (ide : Option Nat), ∃ q, s.Reaches p n ide ∧ q = s.ring n 4 ∧ q.enable = true ∧ s.descOpsOf n = []) ∧
    (∃ (s : State), ∃ (p : Nat), ∃ (n : Nat), ∃ (ide : Option Nat), ∃ q, s.Reaches p n ide ∧ q = s.ring n 4 ∧ q.enable = true ∧ s.descOpsOf n ≠ []) ∧
    (∃ (s : State), ∃ (p : Nat), ∃ (n : Nat), ∃ (ide : Option Nat), ∃ q, s.Reaches p n ide ∧ q = s.ring n 4 ∧ q.enable = false) ∧
    (∃ (s : State), ∃ (n : Nat), (s.ring n 4).disabling = true ∧ s.descOpsOf n = []) ∧
    (∃ (s : State), ∃ (n : Nat), ∃ (due : Nat), s.running = true ∧ (s.part n).coalesce = some due) :=
  ⟨⟨wUp, 0, 3, 3, none, 16, _, ⟨⟨by decide, by decide⟩, by decide, by decide, by decide, by decide, by decide, by decide⟩, rfl, by and_intros <;> decide +kernel⟩,
   ⟨({ wUp with parts := [(3, { tenant := some 5 })] }), 0, 3, 4, none, 17, _, ⟨⟨by decide, by decide⟩, by decide, by decide, by decide, by decide, by decide, by decide⟩, rfl, by and_intros <;> decide +kernel⟩,
   ⟨wUp, 0, 3, none, 0, _, ⟨⟨by decide, by decide⟩, by decide, by decide, by decide, by decide, by decide, by decide⟩, by decide, rfl, by decide⟩,
   ⟨wUp, 0, 3, none, 3, _, ⟨⟨by decide, by decide⟩, by decide, by decide, by decide, by decide, by decide, by decide⟩, by decide, rfl, by decide, by decide⟩,
   ⟨wUp, 0, 3, none, _, ⟨⟨by decide, by decide⟩, by decide, by decide, by decide, by decide, by decide, by decide⟩, rfl, by decide, by decide⟩,
   ⟨wDma, 0, 3, none, _, ⟨⟨by decide, by decide⟩, by decide, by decide, by decide, by decide, by decide, by decide⟩, rfl, by decide, by decide⟩,
   ⟨({ wUp with parts := [(3, { tenant := some 5 })] }), 0, 3, none, _, ⟨⟨by decide, by decide⟩, by decide, by decide, by decide, by decide, by decide, by decide⟩, rfl, by decide⟩,
   ⟨({ wUp with parts := [(3, { tenant := some 5, rings := [(4, { enable := true, disabling := true })] })] }), 3, by decide, by decide⟩,
   ⟨({ wUp with parts := [(3, { wUp.part 3 with coalesce := some 5 })], ports := [(0, { wUp.port 0 with msi := .msix })] }), 3, _, by decide, rfl⟩⟩

theorem witness_DescriptorIsFetched :
    (∃ (s : State), ∃ (n : Nat), ∃ (r : Nat), s.fetchReady n r = true ∧ s.fetchTurn n r = true ∧ s.fetchTag n r = false) ∧
    (∃ (s : State), ∃ (s1 : State), ∃ (n : Nat), ∃ (r : Nat), ∃ (d : List Word), s.fetchReady n r = true ∧ s.fetchTurn n r = true ∧ s.fetchTag n r = true ∧ s.headWords n r d = (some none, s1)) ∧
    (∃ (s : State), ∃ (s1 : State), ∃ (n : Nat), ∃ (r : Nat), ∃ (d : List Word), ∃ (ws : List Word), s.fetchReady n r = true ∧ s.fetchTurn n r = true ∧ s.fetchTag n r = true ∧ s.OpsDistinct ∧ s.headWords n r d = (some (some ws), s1)) :=
  ⟨⟨({ wUp with ports := [(0, { wUp.port 0 with retired := (List.range 2048).map (fun g => (g, 1)) })] }), 3, 0, by and_intros <;> decide +kernel⟩,
   ⟨({ wDrain with parts := [(3, { tenant := some 5, port := 0, rings := [(0, { baseLo := 0, baseHi := 1, enable := true, sizeLog2 := 6, head := 0, tail := 5 }), (4, { baseLo := 0x8000, enable := true, sizeLog2 := 6, head := 0, tail := 1, phase := true })] })] }), _, 3, 0, [], by decide, by decide, by decide, Prod.ext (by decide +kernel) rfl⟩,
   ⟨wUp, _, 3, 0, ([0x01, 0,0,0, 0,0,0,0, 0,0,0,0, 0,0,0,0]), ([0x01, 0,0,0, 0,0,0,0, 0,0,0,0, 0,0,0,0]), by decide, by decide, by decide, ⟨by decide, by decide⟩, Prod.ext (by decide +kernel) rfl⟩⟩

theorem witness_FetchFailsAndFences :
    (∃ (s : State), ∃ (n : Nat), ∃ (r : Nat), ∃ (q : Ring), s.fetchReady n r = true ∧ s.fetchTurn n r = true ∧ s.fetchTag n r = true ∧ q = s.ring n r ∧ s.locate n (q.base + 64 * q.head) = none) ∧
    (∃ (s : State), ∃ (id : Nat), ∃ (o : Op), s.OpsDistinct ∧ s.op? id = some o ∧ o.phase = .fenced ∧ s.mayStart o = true ∧ s.rst.flush = .none) :=
  ⟨⟨wUp, 3, 0, _, by decide, by decide, by decide, rfl, by decide⟩,
   ⟨(wOp wUp { opOf 0x01 [] with phase := .fenced }), 7, _, ⟨by decide, by decide⟩, rfl, by and_intros <;> decide +kernel⟩⟩

theorem witness_RecordsAreWritten :
    (∃ (s : State), ∃ (id : Nat), ∃ (o : Op), s.op? id = some o ∧ s.turnFirst o = false) ∧
    (∃ (s : State), ∃ (id : Nat), ∃ (a : Nat), ∃ (o : Op), ∃ (cq : Ring), ∃ (moved : Ring), s.op? id = some o ∧ o.phase = .finished ∧ o.mailbox = none ∧ o.recordHeld = false ∧ s.opHeld id = false ∧ s.turnFirst o = true ∧ cq = s.ring o.partner 4 ∧ a = cq.base + 32 * cq.tail ∧ (moved = { cq with tail := (cq.tail + 1) % cq.size, phase := if (cq.tail + 1) % cq.size = 0 then !cq.phase else cq.phase }) ∧ cq.enable = true ∧ cq.recFail = false ∧ s.locate o.partner a = none ∧ s.mayRequest (s.part o.partner).port = true) ∧
    (∃ (s : State), ∃ (id : Nat), ∃ (a : Nat), ∃ (o : Op), ∃ (cq : Ring), ∃ (moved : Ring), s.op? id = some o ∧ o.phase = .finished ∧ o.mailbox = none ∧ o.recordHeld = false ∧ s.opHeld id = false ∧ s.turnFirst o = true ∧ cq = s.ring o.partner 4 ∧ a = cq.base + 32 * cq.tail ∧ (moved = { cq with tail := (cq.tail + 1) % cq.size, phase := if (cq.tail + 1) % cq.size = 0 then !cq.phase else cq.phase }) ∧ cq.enable = true ∧ cq.recFail = false ∧ s.locate o.partner a = none ∧ s.mayRequest (s.part o.partner).port = false) ∧
    (∃ (s : State), ∃ (id : Nat), ∃ (a : Nat), ∃ (o : Op), ∃ (cq : Ring), ∃ (moved : Ring), ∃ r, ∃ e, ∃ off, s.op? id = some o ∧ o.phase = .finished ∧ o.mailbox = none ∧ o.recordHeld = false ∧ s.opHeld id = false ∧ s.turnFirst o = true ∧ cq = s.ring o.partner 4 ∧ a = cq.base + 32 * cq.tail ∧ (moved = { cq with tail := (cq.tail + 1) % cq.size, phase := if (cq.tail + 1) % cq.size = 0 then !cq.phase else cq.phase }) ∧ cq.enable = true ∧ cq.recFail = false ∧ s.locate o.partner a = some (r, e, off) ∧ e.refusal = none ∧ s.viewGuard r = false ∧ (∀ p ∈ s.spanPages (extSpan r e off 32), s.trouble p = none) ∧ s.spanRoom (extSpan r e off 32) = true) ∧
    (∃ (s : State), ∃ (id : Nat), ∃ (a : Nat), ∃ (o : Op), ∃ (cq : Ring), ∃ (moved : Ring), s.op? id = some o ∧ o.phase = .finished ∧ o.mailbox = none ∧ o.recordHeld = false ∧ s.opHeld id = false ∧ s.turnFirst o = true ∧ cq = s.ring o.partner 4 ∧ a = cq.base + 32 * cq.tail ∧ (moved = { cq with tail := (cq.tail + 1) % cq.size, phase := if (cq.tail + 1) % cq.size = 0 then !cq.phase else cq.phase }) ∧ (cq.enable = false ∨ cq.recFail = true)) :=
  ⟨⟨(wOp (wOp wSlot { opOf 0x42 [4] with phase := .turn, id := 6, turnNo := some 0 }) { opOf 0x42 [4] with phase := .finished, turnNo := some 1 }), 7, _, rfl, by decide⟩,
   ⟨(wDone wUp), 7, _, _, _, _, rfl, by decide, by decide, by decide, by decide, by decide, rfl, rfl, rfl, by and_intros <;> decide +kernel⟩,
   ⟨({ wDone wUp with ports := [(0, { wUp.port 0 with bme := false })] }), 7, _, _, _, _, rfl, by decide, by decide, by decide, by decide, by decide, rfl, rfl, rfl, by and_intros <;> decide +kernel⟩,
   ⟨({ wDone wPool with parts := [(3, { wUp.part 3 with rings := [(4, { baseHi := 1, enable := true, sizeLog2 := 6, tail := 63 })] })] }), 7, _, _, _, _, _, _, _, rfl, by decide, by decide, by decide, by decide, by decide, rfl, rfl, rfl, by decide, by decide, rfl, by and_intros <;> decide +kernel⟩,
   ⟨({ wDone wUp with parts := [(3, { wUp.part 3 with rings := [] })] }), 7, _, _, _, _, rfl, by decide, by decide, by decide, by decide, by decide, rfl, rfl, rfl, by decide⟩⟩

theorem witness_RecordWriteFails : ∃ (s : State), ∃ (id : Nat), ∃ (o : Op), s.op? id = some o ∧ o.phase = .finished ∧ o.mailbox = none :=
  ⟨(wDone wUp), 7, _, rfl, by decide, by decide⟩

theorem witness_FenceMarkAndHeartbeat :
    (∃ (s : State), ∃ (id : Nat), ∃ (o : Op), s.Runs id 0x01 o ∧ o.zero 1 31 1 = true ∧ o.zeroFrom 2 = true ∧ (∀ p ∈ s.ports, ∀ l ∈ p.2.wcb, l.1 ≠ o.partner)) ∧
    (∃ (s : State), ∃ (id : Nat), ∃ (o : Op), s.Runs id 0x7E o ∧ o.zeroFrom 4 = true) ∧
    (∃ (s : State), ∃ (id : Nat), ∃ (r : Nat), ∃ (o : Op), ∃ (e : Ext), s.Runs id 0x02 o ∧ o.zero 1 31 19 = true ∧ o.zeroFrom 2 = true ∧ bit (o.dw 1) 18 = true ∧ r = bits (o.dw 1) 17 0 ∧ s.pool.recs.get? r = some e ∧ e.partner = o.partner ∧ e.st = .active) ∧
    (∃ (s : State), ∃ (id : Nat), ∃ (r : Nat), ∃ (o : Op), ∃ (e : Ext), s.Runs id 0x02 o ∧ o.zero 1 31 19 = true ∧ o.zeroFrom 2 = true ∧ bit (o.dw 1) 18 = true ∧ r = bits (o.dw 1) 17 0 ∧ s.pool.recs.get? r = some e ∧ e.partner = o.partner ∧ e.st ≠ .active) ∧
    (∃ (s : State), ∃ (id : Nat), ∃ (o : Op), s.Runs id 0x02 o ∧ o.zero 1 31 19 = true ∧ o.zeroFrom 2 = true ∧ bit (o.dw 1) 18 = false ∧ bits (o.dw 1) 17 0 = 0 ∧ (s.pool.recs.map (·.1)).Nodup) :=
  ⟨⟨(wOp wUp (opOf 0x01 [1])), 7, _, ⟨rfl, by decide, by decide⟩, by and_intros <;> decide +kernel⟩,
   ⟨(wOp { wUp with jrn := { ctl := 0x800103E8 } } (opOf 0x7E [1,2,3])), 7, _, ⟨rfl, by decide, by decide⟩, by decide⟩,
   ⟨(wOp wPool (opOf 0x02 [0x40002])), 7, _, _, _, ⟨rfl, by decide, by decide⟩, by decide, by decide, by decide, rfl, rfl, by decide, by decide⟩,
   ⟨(wOp wDrain (opOf 0x02 [0x40002])), 7, _, _, _, ⟨rfl, by decide, by decide⟩, by decide, by decide, by decide, rfl, rfl, by decide, by decide⟩,
   ⟨(wOp wPool (opOf 0x02 [])), 7, _, ⟨rfl, by decide, by decide⟩, by and_intros <;> decide +kernel⟩⟩

theorem witness_CasksOpen :
    (∃ (s : State), ∃ (id : Nat), ∃ (h : Nat), ∃ (c : Nat), ∃ (o : Op), ∃ (k : Cask), ∃ (g : Option CaskGrant), ∃ (v : Nat), ∃ (w : Ver), s.Runs id 0x20 o ∧ o.zero 1 31 2 = true ∧ bits (o.dw 1) 1 0 = 0 ∧ o.q 2 ≠ 0 ∧ o.q 6 = 0 ∧ o.zeroFrom 8 = true ∧ s.findCask (s.opTenant o) (o.q 2) = some (c, k, g) ∧ s.committedVer c (o.q 4) = some (v, w) ∧ (∀ x, g = some x → x.minVersion ≤ w.seq) ∧ freeHandle (s.part o.partner) = some h ∧ s.handleCount < 65536) ∧
    (∃ (s : State), ∃ (id : Nat), ∃ (h : Nat), ∃ (c : Nat), ∃ (size : Nat), ∃ (o : Op), ∃ (k : Cask), ∃ (v : Nat), ∃ (w : Ver), s.Runs id 0x20 o ∧ o.zero 1 31 2 = true ∧ bits (o.dw 1) 1 0 = 1 ∧ o.q 2 ≠ 0 ∧ size = o.q 6 ∧ o.zeroFrom 8 = true ∧ size % 65536 = 0 ∧ (size = 0 ∨ (w.size ≤ size ∧ size ≤ sixteenTib)) ∧ s.findCask (s.opTenant o) (o.q 2) = some (c, k, none) ∧ s.casks.get? c = some k ∧ s.committedVer c (o.q 4) = some (v, w) ∧ s.vers.get? v = some w ∧ k.lastSeq < 0xFFFFFFFF ∧ (s.versionsOf c).length < 64 ∧ freeHandle (s.part o.partner) = some h ∧ s.handleCount < 65536) ∧
    (∃ (s : State), ∃ (id : Nat), ∃ (h : Nat), ∃ (size : Nat), ∃ (o : Op), s.Runs id 0x20 o ∧ o.zero 1 31 3 = true ∧ bits (o.dw 1) 1 0 = 2 ∧ bit (o.dw 1) 2 = true ∧ o.q 2 ≠ 0 ∧ o.q 4 = 0 ∧ size = o.q 6 ∧ o.zeroFrom 8 = true ∧ size % 65536 = 0 ∧ size ≤ sixteenTib ∧ s.findCask (s.opTenant o) (o.q 2) = none ∧ s.casks.length < Config.nCasks ∧ freeHandle (s.part o.partner) = some h ∧ s.handleCount < 65536) :=
  ⟨⟨(wOp wVers (opOf 0x20 [0, 77, 0, 4, 0])), 7, (((wOp wVers (opOf 0x20 [])).part 3 |> freeHandle |>.getD 0)), 8, _, wCask, none, 20, wV20, ⟨rfl, by decide +kernel, by decide +kernel⟩, by and_intros <;> decide +kernel⟩,
   ⟨(wOp wVers (opOf 0x20 [1, 77, 0, 0, 0, 0x30000])), 7, (((wOp wVers (opOf 0x20 [])).part 3 |> freeHandle |>.getD 0)), 8, _, _, wCask, 20, wV20, ⟨rfl, by decide +kernel, by decide +kernel⟩, by decide +kernel, by decide +kernel, by decide +kernel, rfl, by and_intros <;> decide +kernel⟩,
   by
    refine ⟨(wOp wVers (opOf 0x20 [6, 78, 0, 0, 0, 0, 0x1000])), 7, _, _, _, ⟨rfl, by decide +kernel, by decide +kernel⟩, ?_, ?_, ?_, ?_, ?_, rfl, ?_, ?_, ?_, ?_, ?_, rfl, ?_⟩ <;> decide +kernel⟩

theorem witness_CommitsPublish :
    (∃ (s : State), ∃ (id : Nat), ∃ (h : Nat), ∃ (o : Op), ∃ (q : Handle), ∃ (w : Ver), s.Runs id 0x21 o ∧ o.zero 1 31 2 = true ∧ o.zero 2 31 10 = true ∧ o.zeroFrom 3 = true ∧ h = bits (o.dw 2) 9 0 ∧ s.handleOf o h = some q ∧ s.handle o.partner h = some q ∧ o.gone.contains q.ver = false ∧ q.writer = true ∧ s.vers.get? q.ver = some w ∧ w.st = .open ∧ s.earlierNames q.ver id = false ∧ (bit (o.dw 1) 1 = true → w.base = (s.latest w.cask).map (·.1)) ∧ bit (o.dw 1) 0 = false) ∧
    (∃ (s : State), ∃ (id : Nat), ∃ (h : Nat), ∃ (o : Op), ∃ (q : Handle), ∃ (w : Ver), s.Runs id 0x21 o ∧ o.zero 1 31 2 = true ∧ o.zero 2 31 10 = true ∧ o.zeroFrom 3 = true ∧ h = bits (o.dw 2) 9 0 ∧ s.handleOf o h = some q ∧ s.handle o.partner h = some q ∧ o.gone.contains q.ver = false ∧ q.writer = true ∧ s.vers.get? q.ver = some w ∧ w.st = .open ∧ s.earlierNames q.ver id = false ∧ (bit (o.dw 1) 1 = true → w.base = (s.latest w.cask).map (·.1)) ∧ bit (o.dw 1) 0 = true ∧ s.versionBad q.ver = false) ∧
    (∃ (s : State), ∃ (id : Nat), ∃ (h : Nat), ∃ (o : Op), ∃ (q : Handle), ∃ (w : Ver), s.Runs id 0x21 o ∧ o.zero 1 31 2 = true ∧ o.zero 2 31 10 = true ∧ o.zeroFrom 3 = true ∧ h = bits (o.dw 2) 9 0 ∧ s.handleOf o h = some q ∧ s.handle o.partner h = some q ∧ o.gone.contains q.ver = false ∧ q.writer = true ∧ s.vers.get? q.ver = some w ∧ w.st = .open ∧ s.earlierNames q.ver id = false ∧ bit (o.dw 1) 1 = true ∧ w.base ≠ (s.latest w.cask).map (·.1)) ∧
    (∃ (s : State), ∃ (id : Nat), ∃ (v : Nat), ∃ (o : Op), ∃ (w : Ver), s.Runs id 0x21 o ∧ s.vers.find? (fun x => x.2.commitOp == some id && x.2.st == .committing) = some (v, w) ∧ s.vers.get? v = some w ∧ s.kln.staged.contains (.commit v) = true) ∧
    (∃ (s : State), ∃ (id : Nat), ∃ (v : Nat), ∃ (since : Nat), ∃ (o : Op), ∃ (w : Ver), s.running = true ∧ s.op? id = some o ∧ o.phase = .running ∧ o.commitAt = some since ∧ s.vers.find? (fun x => x.2.commitOp == some id && x.2.st == .committing) = some (v, w) ∧ s.vers.get? v = some w ∧ (∃ q ∈ w.pages, ∃ p, s.pages.get? q.2 = some p ∧ s.spaceless p = true)) :=
  ⟨⟨(wOp wVers (opOf 0x21 [2, 1])), 7, _, _, _, _, ⟨rfl, by decide, by decide⟩, by decide, by decide, by decide, rfl, rfl, by decide, by decide, by decide, rfl, by and_intros <;> decide +kernel⟩,
   ⟨(wOp wVers (opOf 0x21 [1, 1])), 7, _, _, _, _, ⟨rfl, by decide, by decide⟩, by decide, by decide, by decide, rfl, rfl, by decide, by decide, by decide, rfl, by and_intros <;> decide +kernel⟩,
   ⟨(wOp { wVers with vers := wVers.vers ++ [(22, { cask := 8, seq := 6, st := .committed, size := 0 })], nextVer := 23 } (opOf 0x21 [2, 1])), 7, _, _, _, _, ⟨rfl, by decide, by decide⟩, by decide, by decide, by decide, rfl, rfl, by decide, by decide, by decide, rfl, by and_intros <;> decide +kernel⟩,
   ⟨(wOp { wVers with vers := [(21, { cask := 8, seq := 5, st := .committing, size := 0x20000, commitOp := some 7 })], kln := { staged := [.commit 21] } } { opOf 0x21 [1, 1] with commitAt := some 0 }), 7, _, _, _, ⟨rfl, by decide, by decide⟩, rfl, by decide, by decide⟩,
   ⟨(wOp { wVers with vers := [(21, { cask := 8, seq := 5, st := .committing, size := 0x20000, pages := [(0,12)], commitOp := some 7 })], geo := { kOffline := List.range 16 } } { opOf 0x21 [1, 1] with commitAt := some 0 }), 7, _, _, _, _, by decide, rfl, by decide, rfl, rfl, by decide, by decide⟩⟩

theorem witness_CasksCloseAndDrop :
    (∃ (s : State), ∃ (id : Nat), ∃ (h : Nat), ∃ (o : Op), ∃ (q : Handle), s.Runs id 0x22 o ∧ o.dw 1 = 0 ∧ o.zero 2 31 10 = true ∧ o.zeroFrom 3 = true ∧ h = bits (o.dw 2) 9 0 ∧ s.handleOf o h = some q ∧ s.handle o.partner h = some q ∧ o.gone.contains q.ver = false ∧ q.writer = false ∧ (∀ w, s.vers.get? q.ver = some w → w.st ≠ .dropping)) ∧
    (∃ (s : State), ∃ (id : Nat), ∃ (h : Nat), ∃ (o : Op), ∃ (q : Handle), s.Runs id 0x22 o ∧ o.dw 1 = 0 ∧ o.zero 2 31 10 = true ∧ o.zeroFrom 3 = true ∧ h = bits (o.dw 2) 9 0 ∧ s.handleOf o h = some q ∧ s.handle o.partner h = some q ∧ o.gone.contains q.ver = false ∧ q.writer = true ∧ (∀ p ∈ s.ops, p.phase = .running → p.waits = [])) ∧
    (∃ (s : State), ∃ (id : Nat), ∃ (c : Nat), ∃ (o : Op), ∃ (k : Cask), ∃ (v : Nat), ∃ (w : Ver), s.Runs id 0x23 o ∧ o.dw 1 = 0 ∧ o.zeroFrom 6 = true ∧ o.q 2 ≠ 0 ∧ o.q 4 ≠ 0 ∧ s.findCask (s.opTenant o) (o.q 2) = some (c, k, none) ∧ (s.versionsOf c).find? (fun x => x.2.seq == o.q 4) = some (v, w) ∧ s.vers.get? v = some w ∧ w.st = .committed ∧ (0 < s.handlesOn v ∨ s.versionUsed v = true)) ∧
    (∃ (s : State), ∃ (id : Nat), ∃ (c : Nat), ∃ (o : Op), ∃ (k : Cask), ∃ (v : Nat), ∃ (w : Ver), s.Runs id 0x23 o ∧ o.dw 1 = 0 ∧ o.zeroFrom 6 = true ∧ o.q 2 ≠ 0 ∧ o.q 4 ≠ 0 ∧ s.findCask (s.opTenant o) (o.q 2) = some (c, k, none) ∧ (s.versionsOf c).find? (fun x => x.2.seq == o.q 4) = some (v, w) ∧ s.vers.get? v = some w ∧ w.st = .committed ∧ s.handlesOn v = 0 ∧ s.versionUsed v = false ∧ (∀ p ∈ s.ops, p.phase = .running → p.waits = [])) :=
  ⟨⟨(wOp wVers (opOf 0x22 [0, 0])), 7, _, _, _, ⟨rfl, by decide +kernel, by decide +kernel⟩, by decide +kernel, by decide +kernel, by decide +kernel, rfl, rfl, by and_intros <;> decide +kernel⟩,
   ⟨(wOp wVers (opOf 0x22 [0, 1])), 7, _, _, _, ⟨rfl, by decide +kernel, by decide +kernel⟩, by decide +kernel, by decide +kernel, by decide +kernel, rfl, rfl, by and_intros <;> decide +kernel⟩,
   ⟨(wOp wVers (opOf 0x23 [0, 77, 0, 4])), 7, 8, _, wCask, 20, wV20, ⟨rfl, by decide +kernel, by decide +kernel⟩, by and_intros <;> decide +kernel⟩,
   ⟨(wOp { wVers with parts := [(3, { wPool.part 3 with handles := [(1, { ver := 21, writer := true })] })] } (opOf 0x23 [0, 77, 0, 4])), 7, 8, _, wCask, 20, wV20, ⟨rfl, by decide +kernel, by decide +kernel⟩, by and_intros <;> decide +kernel⟩⟩

theorem witness_HintsAndPins :
    (∃ (s : State), ∃ (id : Nat), ∃ (o : Op), ∃ (r : List (Backing × Nat)), s.Runs id 0x30 o ∧ o.dw 8 ≠ 0 ∧ o.hinted = none ∧ s.hintRange o = .inr r ∧ bits (o.dw 1) 3 2 = 0) ∧
    (∃ (s : State), ∃ (id : Nat), ∃ (o : Op), ∃ (r : List (Backing × Nat)), s.Runs id 0x30 o ∧ o.dw 8 ≠ 0 ∧ o.hinted = none ∧ s.hintRange o = .inr r ∧ bits (o.dw 1) 3 2 = 1) ∧
    (∃ (s : State), ∃ (id : Nat), ∃ (o : Op), ∃ (r : List (Backing × Nat)), s.Runs id 0x30 o ∧ o.dw 8 ≠ 0 ∧ o.hinted = none ∧ s.hintRange o = .inr r ∧ bits (o.dw 1) 3 2 = 2 ∧ (∀ pid ∈ s.hintPages r, ∀ p, s.pages.get? pid = some p → p.tileBad = false)) ∧
    (∃ (s : State), ∃ (id : Nat), ∃ (o : Op), ∃ (r : List (Backing × Nat)), ∃ (pids : List Nat), s.Runs id 0x31 o ∧ o.dw 8 ≠ 0 ∧ o.hinted = none ∧ s.hintRange o = .inr r ∧ (∀ q ∈ r, (s.pageAt q.1 q.2).isSome = true) ∧ pids = s.hintPages r ∧ s.pinRefused (s.opTenant o) pids = true) ∧
    (∃ (s : State), ∃ (id : Nat), ∃ (o : Op), ∃ (r : List (Backing × Nat)), ∃ (pids : List Nat), s.Runs id 0x31 o ∧ o.dw 8 ≠ 0 ∧ o.hinted = none ∧ s.hintRange o = .inr r ∧ (∀ q ∈ r, (s.pageAt q.1 q.2).isSome = true) ∧ pids = s.hintPages r ∧ s.pinRefused (s.opTenant o) pids = false ∧ (∀ pid ∈ pids, s.troubleOf o pid = none ∧ ∃ p, s.pages.get? pid = some p ∧ p.st.framed = true ∧ p.copying = false)) ∧
    (∃ (s : State), ∃ (id : Nat), ∃ (o : Op), ∃ (r : List (Backing × Nat)), ∃ (pids : List Nat), s.Runs id 0x31 o ∧ o.dw 8 ≠ 0 ∧ o.hinted = none ∧ s.hintRange o = .inr r ∧ (∀ q ∈ r, (s.pageAt q.1 q.2).isSome = true) ∧ pids = s.hintPages r ∧ s.pinRefused (s.opTenant o) pids = false ∧ pids ≠ [] ∧ (∀ pid ∈ pids, s.troubleOf o pid = none ∧ ∃ p, s.pages.get? pid = some p ∧ p.st = .kiln)) ∧
    (∃ (s : State), ∃ (id : Nat), ∃ (o : Op), ∃ (r : List (Backing × Nat)), s.Runs id 0x32 o ∧ o.dw 8 ≠ 0 ∧ s.hintRange o = .inr r) :=
  ⟨⟨(wOp (wKiln .kiln) (opOf 0x30 [0, 0, 1, 0, 0, 0, 0, 0x20000])), 7, _, ([(.group 0, 0), (.group 0, 1)]), ⟨rfl, by decide +kernel, by decide +kernel⟩, by and_intros <;> decide +kernel⟩,
   ⟨(wOp wPool (opOf 0x30 [4, 0, 1, 0, 0, 0, 0, 0x20000])), 7, _, ([(.group 0, 0), (.group 0, 1)]), ⟨rfl, by decide +kernel, by decide +kernel⟩, by and_intros <;> decide +kernel⟩,
   ⟨(wOp wPool (opOf 0x30 [8, 0, 1, 0, 0, 0, 0, 0x20000])), 7, _, ([(.group 0, 0), (.group 0, 1)]), ⟨rfl, by decide +kernel, by decide +kernel⟩, by and_intros <;> decide +kernel⟩,
   ⟨(wOp { wPool with tenants := [(5, { quota := 0 })] } (opOf 0x31 [0, 0, 1, 0, 0, 0, 0, 0x20000])), 7, _, ([(.group 0, 0), (.group 0, 1)]), _, ⟨rfl, by decide +kernel, by decide +kernel⟩, by decide +kernel, by decide +kernel, by decide +kernel, by decide +kernel, rfl, by decide +kernel⟩,
   ⟨(wOp { wPool with pages := [(10, { st := .dirty, owner := .extent 0 0, tenant := 5, stack := 0 }), (11, { st := .clean, owner := .extent 0 1, tenant := 5, stack := 1 })] } (opOf 0x31 [0, 0, 1, 0, 0, 0, 0, 0x20000])), 7, _, ([(.group 0, 0), (.group 0, 1)]), _, ⟨rfl, by decide +kernel, by decide +kernel⟩, by decide +kernel, by decide +kernel, by decide +kernel, by decide +kernel, rfl, by decide +kernel, by decide +kernel⟩,
   ⟨(wOp (wKilnB) (opOf 0x31 [0, 0, 1, 0, 0, 0, 0, 0x20000])), 7, _, ([(.group 0, 0), (.group 0, 1)]), _, ⟨rfl, by decide +kernel, by decide +kernel⟩, by decide +kernel, by decide +kernel, by decide +kernel, by decide +kernel, rfl, by and_intros <;> decide +kernel⟩,
   ⟨(wOp { wPool with pages := [(10, { st := .dirty, owner := .extent 0 0, tenant := 5, stack := 0, ctr := 3, pins := 1, pinBy := 5 }), (11, { owner := .extent 0 1, tenant := 5, stack := 1 })] } (opOf 0x32 [0, 0, 1, 0, 0, 0, 0, 0x20000])), 7, _, ([(.group 0, 0), (.group 0, 1)]), ⟨rfl, by decide +kernel, by decide +kernel⟩, by decide +kernel, by decide +kernel⟩⟩

theorem witness_MovesEnd :
    (∃ (s : State), ∃ (pid : Nat), ∃ (p : Page), ∃ (q : Record), s.pages.get? pid = some p ∧ p.record = some q ∧ deadRecord q.image = true) ∧
    (∃ (s : State), ∃ (pid : Nat), ∃ (p : Page), s.pages.get? pid = some p ∧ p.st = .steeping ∧ (∀ o ∈ s.ops, pid ∉ o.waits) ∧ (∀ r ∈ s.reads, pid ∉ r.pages) ∧ (∀ v ∈ s.vers, v.2.st ≠ .committing) ∧ s.pwr.state ≠ .entering ∧ (∀ q ∈ s.parts, q.2.dp.active = false) ∧ (∀ q, p.record = some q → deadRecord q.image = false) ∧ s.tilesRight pid = true ∧ s.lined pid = false) ∧
    (∃ (s : State), ∃ (pid : Nat), ∃ (p : Page), s.pages.get? pid = some p ∧ p.st = .steeping ∧ (∀ o ∈ s.ops, pid ∉ o.waits) ∧ (∀ r ∈ s.reads, pid ∉ r.pages) ∧ (∀ v ∈ s.vers, v.2.st ≠ .committing) ∧ s.pwr.state ≠ .entering ∧ (∀ q ∈ s.parts, q.2.dp.active = false) ∧ (∀ q, p.record = some q → deadRecord q.image = false) ∧ s.tilesRight pid = true ∧ s.lined pid = true) ∧
    (∃ (s : State), ∃ (pid : Nat), ∃ (p : Page), s.pages.get? pid = some p ∧ p.st = .steeping ∧ (∀ o ∈ s.ops, pid ∉ o.waits) ∧ (∀ r ∈ s.reads, pid ∉ r.pages) ∧ (∀ v ∈ s.vers, v.2.st ≠ .committing) ∧ s.pwr.state ≠ .entering ∧ (∀ q ∈ s.parts, q.2.dp.active = false) ∧ (∀ q, p.record = some q → deadRecord q.image = false) ∧ s.tilesRight pid = false) ∧
    (∃ (s : State), ∃ (pid : Nat), ∃ (p : Page), ∃ (res : SteepResult), s.pages.get? pid = some p ∧ p.st = .steeping ∧ (∀ o ∈ s.ops, pid ∉ o.waits) ∧ (∀ r ∈ s.reads, pid ∉ r.pages) ∧ (∀ v ∈ s.vers, v.2.st ≠ .committing) ∧ s.pwr.state ≠ .entering ∧ (∀ q ∈ s.parts, q.2.dp.active = false) ∧ (∀ q, p.record = some q → deadRecord q.image = false) ∧ res ≠ .ok ∧ s.lined pid = false ∧ p.failedOnce = false) :=
  ⟨⟨({ wKiln .steeping with pages := [(10, { kPage .steeping with record := some ⟨0, 0, 0, 1, [], List.replicate 64 1⟩ })] }), 10, _, _, rfl, rfl, by decide +kernel⟩,
   ⟨({ wKiln .steeping with pages := [(10, { kPage .steeping with record := none }), (11, { owner := .extent 0 1, tenant := 5, stack := 1 })] }), 10, _, rfl, by decide +kernel, by decide +kernel, by decide +kernel, by decide +kernel, by decide +kernel, by decide +kernel, (fun q h => nomatch h), zero_right rfl (by decide +kernel), by decide +kernel⟩,
   ⟨({ wKiln .steeping with pages := [(10, { kPage .steeping with record := none })], kln := { (wKiln .steeping).kln with pend := [⟨0, 10, 128, [7,7], some 2⟩] } }), 10, _, rfl, by decide +kernel, by decide +kernel, by decide +kernel, by decide +kernel, by decide +kernel, by decide +kernel, (fun q h => nomatch h), zero_right rfl (by decide +kernel), by decide +kernel⟩,
   ⟨({ wKiln .steeping with pages := [(10, { kPage .steeping with record := none })], mem := [(655360, 1)] }), 10, _, rfl, by decide +kernel, by decide +kernel, by decide +kernel, by decide +kernel, by decide +kernel, by decide +kernel, (fun q h => nomatch h), by decide +kernel⟩,
   ⟨({ wKiln .steeping with pages := [(10, { kPage .steeping with record := none }), (11, { owner := .extent 0 1, tenant := 5, stack := 1 })] }), 10, _, .tileCrc, rfl, by decide +kernel, by decide +kernel, by decide +kernel, by decide +kernel, by decide +kernel, by decide +kernel, (fun q h => nomatch h), by and_intros <;> decide +kernel⟩⟩

theorem witness_MovesEnd_5 :
    (∃ (s : State), ∃ (pid : Nat), ∃ (p : Page), ∃ (res : SteepResult), s.pages.get? pid = some p ∧ p.st = .steeping ∧ (∀ o ∈ s.ops, pid ∉ o.waits) ∧ (∀ r ∈ s.reads, pid ∉ r.pages) ∧ (∀ v ∈ s.vers, v.2.st ≠ .committing) ∧ s.pwr.state ≠ .entering ∧ (∀ q ∈ s.parts, q.2.dp.active = false) ∧ (∀ q, p.record = some q → deadRecord q.image = false) ∧ res ≠ .ok ∧ s.lined pid = false ∧ p.failedOnce = true) ∧
    (∃ (s : State), ∃ (pid : Nat), ∃ (p : Page), ∃ (rec0 : Record), ∃ (s1 : State), s.pages.get? pid = some p ∧ (∀ v ∈ s.vers, v.2.st ≠ .committing) ∧ s.pwr.state ≠ .entering ∧ s.tilesRight pid = true ∧ p.frameBad = false ∧ s.writeRecord pid p = some (rec0, s1) ∧ p.st = .kilnEvict) ∧
    (∃ (s : State), ∃ (pid : Nat), ∃ (p : Page), ∃ (rec0 : Record), ∃ (s1 : State), s.pages.get? pid = some p ∧ (∀ v ∈ s.vers, v.2.st ≠ .committing) ∧ s.pwr.state ≠ .entering ∧ s.tilesRight pid = true ∧ p.frameBad = false ∧ s.writeRecord pid p = some (rec0, s1) ∧ p.st = .kilnKeep false) :=
  ⟨⟨({ wKiln .steeping with pages := [(10, { { kPage .steeping with record := none } with failedOnce := true })] }), 10, _, .tileCrc, rfl, by decide +kernel, by decide +kernel, by decide +kernel, by decide +kernel, by decide +kernel, by decide +kernel, (fun q h => nomatch (show none = some q from h)), by and_intros <;> decide +kernel⟩,
   (have ⟨r, t, e⟩ := record_some (wKilning .kilnEvict) 10 (((wKilning .kilnEvict).pages.get? 10).getD (wFullPage 0 0).2) rfl rfl (by decide)
  ⟨wKilning .kilnEvict, 10, _, r, t, rfl, by decide, by decide, zero_right rfl (by decide), by decide, e, rfl⟩),
   (have ⟨r, t, e⟩ := record_some (wKilning (.kilnKeep false)) 10 (((wKilning (.kilnKeep false)).pages.get? 10).getD (wFullPage 0 0).2) rfl rfl (by decide)
  ⟨wKilning (.kilnKeep false), 10, _, r, t, rfl, by decide, by decide, zero_right rfl (by decide), by decide, e, rfl⟩)⟩

theorem witness_MovesEnd_8 :
    (∃ (s : State), ∃ (pid : Nat), ∃ (p : Page), ∃ (rec0 : Record), ∃ (s1 : State), s.pages.get? pid = some p ∧ (∀ v ∈ s.vers, v.2.st ≠ .committing) ∧ s.pwr.state ≠ .entering ∧ s.tilesRight pid = true ∧ p.frameBad = false ∧ s.writeRecord pid p = some (rec0, s1) ∧ p.st = .kilnKeep true) ∧
    (∃ (s : State), ∃ (pid : Nat), ∃ (p : Page), s.pages.get? pid = some p ∧ (p.st = .kilnEvict ∨ p.st = .kilnKeep false ∨ p.st = .kilnKeep true)) ∧
    (∃ (s : State), ∃ (pid : Nat), ∃ (p : Page), s.pages.get? pid = some p ∧ (p.st = .kilnEvict ∨ p.st = .kilnKeep false ∨ p.st = .kilnKeep true) ∧ (s.tilesRight pid = false ∨ p.frameBad = true)) :=
  ⟨(have ⟨r, t, e⟩ := record_some (wKilning (.kilnKeep true)) 10 (((wKilning (.kilnKeep true)).pages.get? 10).getD (wFullPage 0 0).2) rfl rfl (by decide)
  ⟨wKilning (.kilnKeep true), 10, _, r, t, rfl, by decide, by decide, zero_right rfl (by decide), by decide, e, rfl⟩),
   ⟨(wKiln .kilnEvict), 10, _, rfl, by decide +kernel⟩,
   ⟨({ wKiln .kilnEvict with mem := [(655360, 1)] }), 10, _, rfl, by decide +kernel, by decide +kernel⟩⟩

theorem witness_TieringActs :
    (∃ (s : State), ∃ (pid : Nat), ∃ (p : Page), ∃ (m : Move), s.kln.moves.find? (fun m => m.page == pid) = some m ∧ s.pages.get? pid = some p ∧ s.movesRun = true ∧ s.moveHeld p = false ∧ s.lockOpen p = true ∧ (∀ x ∈ s.kln.moves, x.page = pid → s.deferred x = false) ∧ p.st = .kiln ∧ p.copying = false ∧ (s.recordStatus p).isNone = true ∧ 0 < s.framesFree p.stack ∧ (∀ x ∈ s.kln.moves, x.page = pid → x.kind = .demand ∨ x.kind = .willneed ∨ x.kind = .pin)) ∧
    (∃ (s : State), ∃ (half : Nat), half < 2 ∧ s.movesRun = true ∧ s.halfFree half < s.lowFrames) ∧
    (∃ (s : State), ∃ (half : Nat), ∃ (k : Nat), ∃ (v : Nat), ∃ (p : Page), ∃ e, e ∈ s.pages ∧ half < 2 ∧ s.movesRun = true ∧ (s.pages.map (·.1)).Nodup ∧ k / 4 = half ∧ s.framesFree k + s.evictions [k] < s.framesAsked k ∧ s.victim [k] = some v ∧ s.pages.get? v = some p ∧ s.evictable [k] e = true) ∧
    (∃ (s : State), ∃ (half : Nat), ∃ (k : Nat), ∃ (v : Nat), ∃ (p : Page), half < 2 ∧ s.movesRun = true ∧ (s.pages.map (·.1)).Nodup ∧ k / 4 = half ∧ s.framesFree k + s.evictions [k] < s.framesAsked k ∧ s.victim [k] = some v ∧ s.pages.get? v = some p) ∧
    (∃ (s : State), bits s.kln.tierCtl 15 0 ≠ 0 ∧ s.rst.stage = .up ∧ s.pwr.state ≠ .parked) ∧
    (∃ (s : State), ∃ (pid : Nat), ∃ (p : Page), s.running = true ∧ s.OpsDistinct ∧ s.pages.get? pid = some p ∧ p.st = .steeping ∧ bits s.kln.fetchDl 15 0 ≠ 0 ∧ (s.rst.phase = .bringup ∨ s.rst.phase = .test ∨ s.rst.phase = .rebuild) ∧ s.tilesRight pid = true ∧ (∀ q, p.record = some q → deadRecord q.image = false)) ∧
    (∃ (s : State), ∃ (k : Nat), s.movesRun = true ∧ s.kilnPresent k = true) :=
  ⟨⟨({ wKiln .kiln with kln := { (wKiln .kiln).kln with moves := [⟨10, .demand, 2, 0⟩] } }), 10, _, _, rfl, rfl, by and_intros <;> decide +kernel⟩,
   ⟨wFull (96 * 16384), 0, by decide, by decide, wFull_short⟩,
   ⟨wAsked 2000000, 0, 0, 11, _, _, List.mem_cons_of_mem _ List.mem_cons_self, by decide, by decide, by decide, rfl, wAsked_short, by decide +kernel, rfl, by decide +kernel⟩,
   ⟨wAsked 2000000, 0, 0, 11, _, by decide, by decide, by decide, rfl, wAsked_short, by decide +kernel, rfl⟩,
   ⟨wUp, by and_intros <;> decide +kernel⟩,
   ⟨(wOp { wKiln .steeping with rst := { wUp.rst with phase := .test } } { opOf 0x10 [] with waits := [10] }), 10, _, by decide +kernel, ⟨by decide +kernel, by decide +kernel⟩, rfl, by decide +kernel, by decide +kernel, by decide +kernel, zero_right rfl (by decide +kernel), by decide +kernel⟩,
   ⟨wUp, 0, by decide +kernel, by decide +kernel⟩⟩

theorem witness_CopiesAndPendingWrites :
    (∃ (s : State), ∃ (pid : Nat), ∃ (p : Page), s.pages.get? pid = some p ∧ p.copying = true ∧ (∀ r ∈ s.reads, pid ∉ r.pages) ∧ (∀ v ∈ s.vers, v.2.st ≠ .committing) ∧ s.pwr.state ≠ .entering ∧ (∀ q ∈ s.parts, q.2.dp.active = false)) ∧
    (∃ (s : State), ∃ (w : WaitWrite), ∃ (pid : Nat), ∃ (off : Nat), ∃ (bs : List Byte), ∃ (p : Page), s.kln.pendWait = [w] ∧ w.pieces = [(pid, off, bs)] ∧ s.pages.get? pid = some p ∧ s.trouble pid = none ∧ off + bs.length ≤ 65536 ∧ p.st.framed = true) ∧
    (∃ (s : State), ∃ (w : WaitWrite), ∃ (pid : Nat), ∃ (off : Nat), ∃ (bs : List Byte), ∃ (p : Page), s.kln.pendWait = [w] ∧ w.pieces = [(pid, off, bs)] ∧ s.pages.get? pid = some p ∧ s.trouble pid = none ∧ off + bs.length ≤ 65536 ∧ p.st = .kiln ∧ s.fullFor w 0 = false ∧ s.fullFor w 1 = false ∧ bs ≠ []) :=
  ⟨⟨(wOp { wPool with pages := [(10, { st := .dirty, owner := .extent 0 0, tenant := 5, stack := 0, copying := true })] } { opOf 0x01 [] with waits := [10] }), 10, _, rfl, by and_intros <;> decide +kernel⟩,
   ⟨({ wPool with kln := { pendWait := [⟨0, none, 2, [(10, 65530, [1,2,3,4,5,6])], 0⟩] } }), (⟨0, none, 2, [(10, 65530, [1,2,3,4,5,6])], 0⟩), 10, 65530, [1,2,3,4,5,6], _, by decide, by decide, rfl, by and_intros <;> decide +kernel⟩,
   ⟨({ wKiln .kiln with kln := { (wKiln .kiln).kln with pendWait := [⟨0, some 3, 2, [(10, 65530, [1,2,3,4,5,6])], 0⟩] } }), (⟨0, some 3, 2, [(10, 65530, [1,2,3,4,5,6])], 0⟩), 10, 65530, [1,2,3,4,5,6], _, by decide, by decide, rfl, by and_intros <;> decide +kernel⟩⟩

theorem witness_CopyAndFillMoveBytes :
    (∃ (s : State), ∃ (id : Nat), ∃ (len : Nat), ∃ (o : Op), ∃ (bs : List Byte), ∃ (fa : Found), ∃ (fd : Found), s.Runs id 0x10 o ∧ len = (o.dw 6).toNat ∧ len ≠ 0 ∧ o.zero 1 31 28 = true ∧ o.zero 1 15 12 = true ∧ o.zeroFrom 7 = true ∧ (o.srcNamed (o.q 2) len).reserved = false ∧ (o.dstNamed (o.q 4) len true).reserved = false ∧ fa = s.find o (o.srcNamed (o.q 2) len) ∧ fd = s.find o (o.dstNamed (o.q 4) len true) ∧ (fa.place.isDma = false ∨ fd.place.isDma = false) ∧ foundStatus [fa, fd] = none ∧ s.Input o 0 fa.place bs ∧ s.Takes o fd.place bs.length) ∧
    (∃ (s : State), ∃ (id : Nat), ∃ (len : Nat), ∃ (o : Op), ∃ (fd : Found), s.Runs id 0x11 o ∧ len = (o.dw 6).toNat ∧ len ≠ 0 ∧ o.zero 1 31 12 = true ∧ o.zeroFrom 7 = true ∧ (o.dstNamed (o.q 2) len true).reserved = false ∧ fd = s.find o (o.dstNamed (o.q 2) len true) ∧ foundStatus [fd] = none ∧ s.Takes o fd.place len) ∧
    (∃ (s : State), ∃ (id : Nat), ∃ (o : Op), s.Runs id 0x10 o ∧ o.dw 6 = 0) ∧
    (∃ (s : State), ∃ (id : Nat), ∃ (o : Op), s.Runs id 0x11 o ∧ o.dw 6 = 0) :=
  ⟨by
    refine ⟨(wOp wPool (opOf 0x10 [0, 0,1, 0x1FFFD,1, 8])), 7, _, _, [0x11,0,0,0,0,0,0,0x22], _, _, ⟨rfl, by decide +kernel, by decide +kernel⟩, rfl, ?_, ?_, ?_, ?_, ?_, ?_, rfl, rfl, ?_, ?_, (⟨⟨by decide +kernel, by decide +kernel⟩, by decide +kernel, rfl⟩ : _ ∧ _ ∧ _), (⟨⟨by decide +kernel, by decide +kernel⟩, by decide +kernel, by decide +kernel⟩ : _ ∧ _ ∧ _)⟩ <;> decide +kernel,
   ⟨(wOp wPool (opOf 0x11 [0, 0xFFFF,1, 0xAABBCCDD,0x11223344, 9])), 7, _, _, _, ⟨rfl, by decide +kernel, by decide +kernel⟩, rfl, by decide +kernel, by decide +kernel, by decide +kernel, by decide +kernel, rfl, by decide +kernel, (⟨⟨by decide +kernel, by decide +kernel⟩, by decide +kernel, by decide +kernel⟩ : _ ∧ _ ∧ _)⟩,
   ⟨(wOp wPool (opOf 0x10 [])), 7, _, ⟨rfl, by decide +kernel, by decide +kernel⟩, by decide +kernel⟩,
   ⟨(wOp wPool (opOf 0x11 [])), 7, _, ⟨rfl, by decide +kernel, by decide +kernel⟩, by decide +kernel⟩⟩

theorem witness_CompareAndSwap :
    (∃ (s : State), ∃ (id : Nat), ∃ (len : Nat), ∃ (o : Op), ∃ (xs : List Byte), ∃ (ys : List Byte), ∃ (fa : Found), ∃ (fb : Found), s.Runs id 0x12 o ∧ bits (o.dw 1) 31 30 = 0 ∧ len = (o.dw 6).toNat ∧ len ≠ 0 ∧ o.zero 1 29 28 = true ∧ o.zero 1 15 12 = true ∧ o.zeroFrom 7 = true ∧ (o.srcNamed (o.q 2) len).reserved = false ∧ (o.dstNamed (o.q 4) len false).reserved = false ∧ fa = s.find o (o.srcNamed (o.q 2) len) ∧ fb = s.find o (o.dstNamed (o.q 4) len false) ∧ foundStatus [fa, fb] = none ∧ s.Input o 0 fa.place xs ∧ s.Input o 1 fb.place ys) ∧
    (∃ (s : State), ∃ (id : Nat), ∃ (o : Op), s.Runs id 0x12 o ∧ 1 < bits (o.dw 1) 31 30 ∧ o.dw 6 ≠ 0) ∧
    (∃ (s : State), ∃ (id : Nat), ∃ (o : Op), ∃ (bs : List Byte), ∃ (fb : Found), s.Runs id 0x12 o ∧ bits (o.dw 1) 31 30 = 1 ∧ o.dw 6 = 8 ∧ o.zero 1 29 12 = true ∧ o.q 2 = 0 ∧ o.dw 7 = 0 ∧ o.zeroFrom 12 = true ∧ (o.dstNamed (o.q 4) 8 true).reserved = false ∧ o.q 4 % 8 = 0 ∧ fb = s.find o (o.dstNamed (o.q 4) 8 true) ∧ foundStatus [fb] = none ∧ fb.place.isDma = false ∧ s.Input o 0 fb.place bs ∧ s.Takes o fb.place 8 ∧ leNat bs = o.q 8) ∧
    (∃ (s : State), ∃ (id : Nat), ∃ (o : Op), ∃ (bs : List Byte), ∃ (fb : Found), s.Runs id 0x12 o ∧ bits (o.dw 1) 31 30 = 1 ∧ o.dw 6 = 8 ∧ o.zero 1 29 12 = true ∧ o.q 2 = 0 ∧ o.dw 7 = 0 ∧ o.zeroFrom 12 = true ∧ (o.dstNamed (o.q 4) 8 true).reserved = false ∧ o.q 4 % 8 = 0 ∧ fb = s.find o (o.dstNamed (o.q 4) 8 true) ∧ foundStatus [fb] = none ∧ fb.place.isDma = false ∧ s.Input o 0 fb.place bs ∧ s.Takes o fb.place 8 ∧ leNat bs ≠ o.q 8) :=
  ⟨by
    refine ⟨(wOp wPool (opOf 0x12 [0, 0,1, 0x10000,1, 8])), 7, _, _, [0x11,0,0,0,0,0,0,0x22], (List.replicate 8 0), _, _, ⟨rfl, by decide +kernel, by decide +kernel⟩, ?_, rfl, ?_, ?_, ?_, ?_, ?_, ?_, rfl, rfl, ?_, (⟨⟨by decide +kernel, by decide +kernel⟩, by decide +kernel, rfl⟩ : _ ∧ _ ∧ _), (⟨⟨by decide +kernel, by decide +kernel⟩, by decide +kernel, rfl⟩ : _ ∧ _ ∧ _)⟩ <;> decide +kernel,
   ⟨(wOp wPool (opOf 0x12 [0x80000000, 0,1, 0x10000,1, 8])), 7, _, ⟨rfl, by decide +kernel, by decide +kernel⟩, by decide +kernel, by decide +kernel⟩,
   by
    refine ⟨(wOp wPool (opOf 0x12 [0x40000000, 0,0, 0,1, 8, 0, 0x11, 0x22000000, 7, 9])), 7, _, [0x11,0,0,0,0,0,0,0x22], _, ⟨rfl, by decide +kernel, by decide +kernel⟩, ?_, ?_, ?_, ?_, ?_, ?_, ?_, ?_, rfl, ?_, ?_, (⟨⟨by decide +kernel, by decide +kernel⟩, by decide +kernel, rfl⟩ : _ ∧ _ ∧ _), (⟨⟨by decide +kernel, by decide +kernel⟩, by decide +kernel, by decide +kernel⟩ : _ ∧ _ ∧ _), ?_⟩ <;> decide +kernel,
   by
    refine ⟨(wOp wPool (opOf 0x12 [0x40000000, 0,0, 0,1, 8, 0, 0x12, 0x22000000, 7, 9])), 7, _, [0x11,0,0,0,0,0,0,0x22], _, ⟨rfl, by decide +kernel, by decide +kernel⟩, ?_, ?_, ?_, ?_, ?_, ?_, ?_, ?_, rfl, ?_, ?_, (⟨⟨by decide +kernel, by decide +kernel⟩, by decide +kernel, rfl⟩ : _ ∧ _ ∧ _), (⟨⟨by decide +kernel, by decide +kernel⟩, by decide +kernel, by decide +kernel⟩ : _ ∧ _ ∧ _), ?_⟩ <;> decide +kernel⟩

theorem witness_ReduceComputes :
    (∃ (s : State), ∃ (id : Nat), ∃ (len : Nat), ∃ (n : Nat), ∃ (fn : Nat), ∃ (o : Op), ∃ (sf : Float.Fmt), ∃ (df : Float.Fmt), ∃ (fa : Found), ∃ (bs : List Byte), s.Runs id 0x13 o ∧ len = (o.dw 6).toNat ∧ len ≠ 0 ∧ typeOf (bits (o.dw 7) 10 8) = some sf ∧ typeOf (bits (o.dw 7) 2 0) = some df ∧ fn = bits (o.dw 7) 18 16 ∧ o.zero 1 31 28 = true ∧ o.zero 1 15 12 = true ∧ o.zero 7 31 20 = true ∧ o.zero 7 15 11 = true ∧ o.zero 7 7 3 = true ∧ o.zeroFrom 10 = true ∧ (o.srcNamed (o.q 2) (n * sf.size)).reserved = false ∧ o.q 2 % sf.size = 0 ∧ fa = s.find o (o.srcNamed (o.q 2) (n * sf.size)) ∧ bit (o.dw 7) 19 = true ∧ fn < 3 ∧ o.dw 8 = 0 ∧ o.dw 9 = 0 ∧ o.zero 1 11 0 = true ∧ o.q 4 = 0 ∧ o.zero 7 2 0 = true ∧ n = len / sf.size ∧ len % sf.size = 0 ∧ foundStatus [fa] = none ∧ s.Input o 0 fa.place bs) ∧
    (∃ (s : State), ∃ (id : Nat), ∃ (len : Nat), ∃ (n : Nat), ∃ (fn : Nat), ∃ (o : Op), ∃ (sf : Float.Fmt), ∃ (df : Float.Fmt), ∃ (fa : Found), ∃ (fd : Found), ∃ (ds : List Byte), ∃ (ss : List Byte), ∃ out, s.Runs id 0x13 o ∧ len = (o.dw 6).toNat ∧ len ≠ 0 ∧ typeOf (bits (o.dw 7) 10 8) = some sf ∧ typeOf (bits (o.dw 7) 2 0) = some df ∧ fn = bits (o.dw 7) 18 16 ∧ o.zero 1 31 28 = true ∧ o.zero 1 15 12 = true ∧ o.zero 7 31 20 = true ∧ o.zero 7 15 11 = true ∧ o.zero 7 7 3 = true ∧ o.zeroFrom 10 = true ∧ (o.srcNamed (o.q 2) (n * sf.size)).reserved = false ∧ o.q 2 % sf.size = 0 ∧ fa = s.find o (o.srcNamed (o.q 2) (n * sf.size)) ∧ bit (o.dw 7) 19 = false ∧ fn ≤ 3 ∧ (fn ≠ 3 → o.dw 8 = 0 ∧ o.dw 9 = 0) ∧ (fn = 3 → sf ≠ .int32 → badScale (o.dw 8) = false ∧ badScale (o.dw 9) = false) ∧ (sf = .int32 ↔ df = .int32) ∧ n = len / df.size ∧ len % df.size = 0 ∧ o.q 4 % df.size = 0 ∧ (o.dstNamed (o.q 4) len true).reserved = false ∧ fd = s.find o (o.dstNamed (o.q 4) len true) ∧ overlaps fa.place fd.place = false ∧ foundStatus [fa, fd] = none ∧ s.Input o 1 fd.place ds ∧ s.Input o 0 fa.place ss ∧ (out = (List.zip (elems df ds) (elems sf ss)).flatMap (fun p => if sf = .int32 then leBytes (intElement fn (o.dw 8).toInt (o.dw 9).toInt p.1 p.2) 4 else leBytes ((floatElement fn (o.dw 8) (o.dw 9) df sf p.1 p.2).getD (Float.canonicalNan df)) df.size)) ∧ s.Takes o fd.place out.length) :=
  ⟨by
    refine ⟨(wOp wPool (opOf 0x13 [0, 0,1, 0,0, 8, 0x80400])), 7, _, 2, _, _, _, _, _, [0x11,0,0,0,0,0,0,0x22], ⟨rfl, by decide +kernel, by decide +kernel⟩, rfl, ?_, rfl, rfl, rfl, ?_, ?_, ?_, ?_, ?_, ?_, ?_, ?_, rfl, ?_, ?_, ?_, ?_, ?_, ?_, ?_, ?_, ?_, ?_, (⟨⟨by decide +kernel, by decide +kernel⟩, by decide +kernel, rfl⟩ : _ ∧ _ ∧ _)⟩ <;> decide +kernel,
   by
    refine ⟨(wOp wPool (opOf 0x13 [0, 0,1, 0x10000,1, 8, 0x30001, 0x3F800000, 0x40000000])), 7, _, 4, _, _, _, _, _, _, (List.replicate 8 0), [0x11,0,0,0,0,0,0,0x22,0,0,0,0,0,0,0,0], _, ⟨rfl, by decide +kernel, by decide +kernel⟩, rfl, ?_, rfl, rfl, rfl, ?_, ?_, ?_, ?_, ?_, ?_, ?_, ?_, rfl, ?_, ?_, ?_, ?_, ?_, ?_, ?_, ?_, ?_, rfl, ?_, ?_, (⟨⟨by decide +kernel, by decide +kernel⟩, by decide +kernel, rfl⟩ : _ ∧ _ ∧ _), (⟨⟨by decide +kernel, by decide +kernel⟩, by decide +kernel, rfl⟩ : _ ∧ _ ∧ _), rfl, (⟨⟨by decide +kernel, by decide +kernel⟩, by decide +kernel, by decide +kernel⟩ : _ ∧ _ ∧ _)⟩ <;> decide +kernel⟩

theorem witness_LoadGristExpands :
    (∃ (s : State), ∃ (id : Nat), ∃ (len : Nat), ∃ (src : Nat), ∃ (dst : Nat), ∃ (first : Nat), ∃ (nb : Nat), ∃ (raw : Nat), ∃ (lo : Nat), ∃ (o : Op), ∃ (h : Grist.BlobHead), ∃ (b : BlobSource), ∃ (a : Option (Nat × Ext × Nat)), ∃ (out : List Byte), ∃ d, ∃ pl, s.Runs id 0x14 o ∧ len = (o.dw 5).toNat ∧ len ≠ 0 ∧ len % 4096 = 0 ∧ nb = len / 4096 ∧ src = o.q 2 ∧ src % 64 = 0 ∧ dst = o.q 6 ∧ first = (o.dw 4).toNat ∧ o.zero 1 30 0 = true ∧ o.zeroFrom 8 = true ∧ s.addrRange o src false = .inr a ∧ (s.loadSource o a first 0).bad 0 64 = none ∧ Grist.blobHead ((s.loadSource o a first 0).read 0 64) = some h ∧ (a.isSome = true → pastEnd a src 64 = false ∧ s.AtHand o (s.loadAsks o a ((0, 64) :: ((List.range nb).map (first + ·)).flatMap (blockParts (s.loadSource o a first 0).read h)))) ∧ (a = none → ∀ k, k < 3 → (∃ q ∈ o.reads, q.part = k) ∧ o.partDone k = true) ∧ (lo = (if a.isSome then 0 else (blockBounds (s.loadSource o a first 0).read h first).1)) ∧ b = s.loadSource o a first lo ∧ first + nb ≤ h.n ∧ pastEnd a src h.total = false ∧ s.tablesMissing o (s.opTenant o) (Grist.blobTables h.mask) = false ∧ (∀ i, i < nb → ∃ p, s.blockOf b h (s.opTenant o) (first + i) = .inr p) ∧ (out = (List.range nb).flatMap (fun i => match s.blockOf b h (s.opTenant o) (first + i) with | .inr p => p.2 | .inl _ => [])) ∧ (raw = ((List.range nb).filter (fun i => match s.blockOf b h (s.opTenant o) (first + i) with | .inr p => p.1 | .inl _ => false)).length) ∧ bit (o.dw 1) 31 = false ∧ dst % 64 = 0 ∧ s.addrRange o dst true = .inr d ∧ pastEnd d dst len = false ∧ (pl = (match d with | some (r, e, off) => Place.dev (extSpan r e off len) | none => .dma dst len)) ∧ s.Takes o pl out.length) ∧
    (∃ (s : State), ∃ (id : Nat), ∃ (len : Nat), ∃ (src : Nat), ∃ (dst : Nat), ∃ (first : Nat), ∃ (nb : Nat), ∃ (raw : Nat), ∃ (lo : Nat), ∃ (o : Op), ∃ (h : Grist.BlobHead), ∃ (b : BlobSource), ∃ (a : Option (Nat × Ext × Nat)), ∃ (out : List Byte), s.Runs id 0x14 o ∧ len = (o.dw 5).toNat ∧ len ≠ 0 ∧ len % 4096 = 0 ∧ nb = len / 4096 ∧ src = o.q 2 ∧ src % 64 = 0 ∧ dst = o.q 6 ∧ first = (o.dw 4).toNat ∧ o.zero 1 30 0 = true ∧ o.zeroFrom 8 = true ∧ s.addrRange o src false = .inr a ∧ (s.loadSource o a first 0).bad 0 64 = none ∧ Grist.blobHead ((s.loadSource o a first 0).read 0 64) = some h ∧ (a.isSome = true → pastEnd a src 64 = false ∧ s.AtHand o (s.loadAsks o a ((0, 64) :: ((List.range nb).map (first + ·)).flatMap (blockParts (s.loadSource o a first 0).read h)))) ∧ (a = none → ∀ k, k < 3 → (∃ q ∈ o.reads, q.part = k) ∧ o.partDone k = true) ∧ (lo = (if a.isSome then 0 else (blockBounds (s.loadSource o a first 0).read h first).1)) ∧ b = s.loadSource o a first lo ∧ first + nb ≤ h.n ∧ pastEnd a src h.total = false ∧ s.tablesMissing o (s.opTenant o) (Grist.blobTables h.mask) = false ∧ (∀ i, i < nb → ∃ p, s.blockOf b h (s.opTenant o) (first + i) = .inr p) ∧ (out = (List.range nb).flatMap (fun i => match s.blockOf b h (s.opTenant o) (first + i) with | .inr p => p.2 | .inl _ => [])) ∧ (raw = ((List.range nb).filter (fun i => match s.blockOf b h (s.opTenant o) (first + i) with | .inr p => p.1 | .inl _ => false)).length) ∧ bit (o.dw 1) 31 = true ∧ s.streamOf o true len = none ∧ (s.part o.partner).dp.pos ≠ len ∧ (s.part o.partner).dp.waiting = []) ∧
    (∃ (s : State), ∃ (id : Nat), ∃ (len : Nat), ∃ (src : Nat), ∃ (dst : Nat), ∃ (first : Nat), ∃ (nb : Nat), ∃ (raw : Nat), ∃ (lo : Nat), ∃ (o : Op), ∃ (h : Grist.BlobHead), ∃ (b : BlobSource), ∃ (a : Option (Nat × Ext × Nat)), ∃ (out : List Byte), s.Runs id 0x14 o ∧ len = (o.dw 5).toNat ∧ len ≠ 0 ∧ len % 4096 = 0 ∧ nb = len / 4096 ∧ src = o.q 2 ∧ src % 64 = 0 ∧ dst = o.q 6 ∧ first = (o.dw 4).toNat ∧ o.zero 1 30 0 = true ∧ o.zeroFrom 8 = true ∧ s.addrRange o src false = .inr a ∧ (s.loadSource o a first 0).bad 0 64 = none ∧ Grist.blobHead ((s.loadSource o a first 0).read 0 64) = some h ∧ (a.isSome = true → pastEnd a src 64 = false ∧ s.AtHand o (s.loadAsks o a ((0, 64) :: ((List.range nb).map (first + ·)).flatMap (blockParts (s.loadSource o a first 0).read h)))) ∧ (a = none → ∀ k, k < 3 → (∃ q ∈ o.reads, q.part = k) ∧ o.partDone k = true) ∧ (lo = (if a.isSome then 0 else (blockBounds (s.loadSource o a first 0).read h first).1)) ∧ b = s.loadSource o a first lo ∧ first + nb ≤ h.n ∧ pastEnd a src h.total = false ∧ s.tablesMissing o (s.opTenant o) (Grist.blobTables h.mask) = false ∧ (∀ i, i < nb → ∃ p, s.blockOf b h (s.opTenant o) (first + i) = .inr p) ∧ (out = (List.range nb).flatMap (fun i => match s.blockOf b h (s.opTenant o) (first + i) with | .inr p => p.2 | .inl _ => [])) ∧ (raw = ((List.range nb).filter (fun i => match s.blockOf b h (s.opTenant o) (first + i) with | .inr p => p.1 | .inl _ => false)).length) ∧ bit (o.dw 1) 31 = true ∧ s.streamOf o true len = none ∧ (s.part o.partner).dp.pos = len) :=
  ⟨by
    refine ⟨(wOp wBlob (opOf 0x14 [0, 0,1, 0, 4096, 0x10000,1])), 7, 4096, 0x100000000, _, 0, 1, _, 0, _, (⟨1, 0, 4192⟩), _, (some (2, wRec, 0)), _, (some (2, wRec, 65536)), _, ⟨rfl, by decide +kernel, by decide +kernel⟩, ?_, ?_, ?_, ?_, ?_, ?_, rfl, ?_, ?_, ?_, ?_, ?_, ?_, fun _ => ⟨by decide +kernel, ⟨by decide +kernel, by decide +kernel⟩⟩, (fun h => nomatch h), ?_, rfl, ?_, ?_, ?_, (fun i h => isRight_inr _ (by revert h i; decide +kernel)), rfl, rfl, ?_, ?_, ?_, ?_, rfl, (⟨⟨by decide +kernel, by decide +kernel⟩, by decide +kernel, by decide +kernel⟩ : _ ∧ _ ∧ _)⟩ <;> decide +kernel,
   by
    refine ⟨(wOp { wBlob with parts := [(3, { wPool.part 3 with dp := { active := true, dir := true, stream := true, len := 4096, consumer := some 7 } })] } (opOf 0x14 [0x80000000, 0,1, 0, 4096, 0,0])), 7, 4096, 0x100000000, _, 0, 1, _, 0, _, (⟨1, 0, 4192⟩), _, (some (2, wRec, 0)), _, ⟨rfl, by decide +kernel, by decide +kernel⟩, ?_, ?_, ?_, ?_, ?_, ?_, rfl, ?_, ?_, ?_, ?_, ?_, ?_, fun _ => ⟨by decide +kernel, ⟨by decide +kernel, by decide +kernel⟩⟩, (fun h => nomatch h), ?_, rfl, ?_, ?_, ?_, (fun i h => isRight_inr _ (by revert h i; decide +kernel)), rfl, rfl, by and_intros <;> decide +kernel⟩ <;> decide +kernel,
   by
    refine ⟨(wOp { wBlob with parts := [(3, { wPool.part 3 with dp := { active := true, dir := true, stream := true, len := 4096, consumer := some 7, pos := 4096 } })] } (opOf 0x14 [0x80000000, 0,1, 0, 4096, 0,0])), 7, 4096, 0x100000000, _, 0, 1, _, 0, _, (⟨1, 0, 4192⟩), _, (some (2, wRec, 0)), _, ⟨rfl, by decide +kernel, by decide +kernel⟩, ?_, ?_, ?_, ?_, ?_, ?_, rfl, ?_, ?_, ?_, ?_, ?_, ?_, fun _ => ⟨by decide +kernel, ⟨by decide +kernel, by decide +kernel⟩⟩, (fun h => nomatch h), ?_, rfl, ?_, ?_, ?_, (fun i h => isRight_inr _ (by revert h i; decide +kernel)), rfl, rfl, by and_intros <;> decide +kernel⟩ <;> decide +kernel⟩

theorem witness_StoreGristCodes : ∃ (s : State), ∃ (id : Nat), ∃ (len : Nat), ∃ (n : Nat), ∃ (slot : Nat), ∃ (dst : Nat), ∃ (worst : Nat), ∃ (o : Op), ∃ (bs : List Byte), ∃ (out : List Byte), ∃ (blocks : List Grist.Block), ∃ (d : Option (Nat × Ext × Nat)), ∃ (pl : Place), s.Runs id 0x15 o ∧ len = (o.dw 4).toNat ∧ len ≠ 0 ∧ len % 4096 = 0 ∧ n = len / 4096 ∧ slot = bits (o.dw 1) 15 8 ∧ dst = o.q 5 ∧ dst % 64 = 0 ∧ o.zero 1 30 16 = true ∧ o.zero 1 7 6 = true ∧ o.zero 1 3 0 = true ∧ o.zeroFrom 8 = true ∧ worst = Grist.up16 (64 + 4 * n) + 4112 * n ∧ worst ≤ (o.dw 7).toNat ∧ s.tablesMissing o (s.opTenant o) [slot] = false ∧ s.addrRange o dst true = .inr d ∧ pastEnd d dst worst = false ∧ (if bit (o.dw 1) 31 then s.streamOf o false len = none ∧ bs = (s.part o.partner).dp.buf ∧ len ≤ bs.length else o.q 2 % 64 = 0 ∧ ∃ a, s.addrRange o (o.q 2) false = .inr a ∧ pastEnd a (o.q 2) len = false ∧ s.Input o 0 (placeAt a (o.q 2) len) bs) ∧ blocks = (List.range n).map (fun i => Grist.encode ((bs.drop (4096 * i)).take 4096) (bits (o.dw 1) 5 4) slot ((s.tableOf (s.opTenant o) slot).getD [])) ∧ out = Grist.blob blocks ∧ (pl = (match d with | some (r, e, off) => Place.dev (extSpan r e off worst) | none => .dma dst worst)) ∧ s.Takes o pl out.length :=
  by
    refine ⟨(wOp wBlob (opOf 0x15 [0, 0,1, 4096, 0x20000,0, 0x2000])), 7, 4096, 1, 0, 0x20000, 4192, _, ((wOp wBlob (opOf 0x15 [0, 0,1, 4096, 0x20000,0, 0x2000])).spanBytes (extSpan 2 wRec 0 4096)), _, _, none, (.dma 0x20000 4192), ⟨rfl, by decide +kernel, by decide +kernel⟩, ?_, ?_, ?_, ?_, ?_, ?_, ?_, ?_, ?_, ?_, ?_, ?_, ?_, ?_, ?_, ?_, (by rw [if_neg (by decide +kernel)]; exact ⟨by decide +kernel, some (2, wRec, 0), by decide +kernel, by decide +kernel, (⟨⟨by decide +kernel, by decide +kernel⟩, by decide +kernel, rfl⟩ : _ ∧ _ ∧ _)⟩), rfl, rfl, ?_, (by decide +kernel : State.mayRequest _ _ = true)⟩ <;> decide +kernel

theorem witness_TablesLoadAndRetire :
    (∃ (s : State), ∃ (id : Nat), ∃ (slot : Nat), ∃ (o : Op), ∃ (a : Option (Nat × Ext × Nat)), ∃ (img : List Byte), s.Runs id 0x50 o ∧ (o.dw 4).toNat = 528 ∧ o.zero 1 31 8 = true ∧ o.zeroFrom 5 = true ∧ slot = bits (o.dw 1) 7 0 ∧ 16 ≤ slot ∧ o.q 2 % 64 = 0 ∧ s.addrRange o (o.q 2) false = .inr a ∧ pastEnd a (o.q 2) 528 = false ∧ s.tableRec (s.opTenant o) slot = none ∧ s.Input o 0 (placeAt a (o.q 2) 528) img ∧ Grist.imageOk img = true ∧ Grist.tableValid (Grist.imageTable img) = true ∧ s.grs.tables.length < 16384) ∧
    (∃ (s : State), ∃ (id : Nat), ∃ (slot : Nat), ∃ (o : Op), ∃ (a : Option (Nat × Ext × Nat)), ∃ (img : List Byte), s.Runs id 0x50 o ∧ (o.dw 4).toNat = 528 ∧ o.zero 1 31 8 = true ∧ o.zeroFrom 5 = true ∧ slot = bits (o.dw 1) 7 0 ∧ 16 ≤ slot ∧ o.q 2 % 64 = 0 ∧ s.addrRange o (o.q 2) false = .inr a ∧ pastEnd a (o.q 2) 528 = false ∧ s.tableRec (s.opTenant o) slot = none ∧ s.Input o 0 (placeAt a (o.q 2) 528) img ∧ Grist.imageOk img = false) ∧
    (∃ (s : State), ∃ (id : Nat), ∃ (slot : Nat), ∃ (o : Op), ∃ (a : Option (Nat × Ext × Nat)), ∃ (img : List Byte), s.Runs id 0x50 o ∧ (o.dw 4).toNat = 528 ∧ o.zero 1 31 8 = true ∧ o.zeroFrom 5 = true ∧ slot = bits (o.dw 1) 7 0 ∧ 16 ≤ slot ∧ o.q 2 % 64 = 0 ∧ s.addrRange o (o.q 2) false = .inr a ∧ pastEnd a (o.q 2) 528 = false ∧ s.tableRec (s.opTenant o) slot = none ∧ s.Input o 0 (placeAt a (o.q 2) 528) img ∧ Grist.imageOk img = true ∧ Grist.tableValid (Grist.imageTable img) = false) ∧
    (∃ (s : State), ∃ (id : Nat), ∃ (slot : Nat), ∃ (n : Nat), ∃ (o : Op), ∃ (r : TableRec), s.Runs id 0x51 o ∧ o.zero 1 31 8 = true ∧ o.zeroFrom 2 = true ∧ slot = bits (o.dw 1) 7 0 ∧ 16 ≤ slot ∧ s.tableRec (s.opTenant o) slot = some r ∧ n = s.tableRefs (s.opTenant o) slot) :=
  ⟨by
    refine ⟨(wOp (wImg goodImg 3290688448) (opOf 0x50 [16, 0,1, 528])), 7, 16, _, (some (2, wRec, 0)), goodImg, ⟨rfl, by decide +kernel, by decide +kernel⟩, ?_, ?_, ?_, ?_, ?_, ?_, ?_, ?_, ?_, (⟨⟨by decide +kernel, by decide +kernel⟩, by decide +kernel, by decide +kernel⟩ : _ ∧ _ ∧ _), by and_intros <;> decide +kernel⟩ <;> decide +kernel,
   by
    refine ⟨(wOp (wImg imgHead 17630369) (opOf 0x50 [255, 0,1, 528])), 7, 255, _, (some (2, wRec, 0)), (imgHead ++ List.replicate 516 0), ⟨rfl, by decide +kernel, by decide +kernel⟩, ?_, ?_, ?_, ?_, ?_, ?_, ?_, ?_, ?_, (⟨⟨by decide +kernel, by decide +kernel⟩, by decide +kernel, by decide +kernel⟩ : _ ∧ _ ∧ _), ?_⟩ <;> decide +kernel,
   by
    refine ⟨(wOp (wImg badCode 372136687) (opOf 0x50 [16, 0,1, 528])), 7, 16, _, (some (2, wRec, 0)), badCode, ⟨rfl, by decide +kernel, by decide +kernel⟩, ?_, ?_, ?_, ?_, ?_, ?_, ?_, ?_, ?_, (⟨⟨by decide +kernel, by decide +kernel⟩, by decide +kernel, by decide +kernel⟩ : _ ∧ _ ∧ _), ?_, ?_⟩ <;> decide +kernel,
   ⟨(wOp { wPool with grs := { tables := [⟨5,16,.loaded,goodImg⟩] } } (opOf 0x51 [16])), 7, _, _, _, _, ⟨rfl, by decide +kernel, by decide +kernel⟩, by decide +kernel, by decide +kernel, rfl, by decide +kernel, rfl, rfl⟩⟩

theorem witness_PeerTransfers :
    (∃ (s : State), ∃ (id : Nat), ∃ (len : Nat), ∃ (port : Nat), ∃ (pbr : Nat), ∃ (n : Nat), ∃ (off : Nat), ∃ (r : Nat), ∃ (o : Op), ∃ (e : Ext), ∃ (pl : Place), (o.opcode = 0x60 ∨ o.opcode = 0x61) ∧ s.Runs id o.opcode o ∧ len = (o.dw 6).toNat ∧ len ≠ 0 ∧ len % 64 = 0 ∧ o.q 2 % 64 = 0 ∧ o.q 4 % 64 = 0 ∧ o.zero 1 31 15 = true ∧ o.zeroFrom 7 = true ∧ ((match o.lent with | some l => some l | none => s.lentTo o) = some (port, pbr, n)) ∧ len ≤ n ∧ s.locate o.partner (o.q 4) = some (r, e, off) ∧ e.refuses o r = none ∧ off + len ≤ e.granules * Config.granuleBytes ∧ pl = placeAt (some (r, e, off)) (o.q 4) len ∧ o.opcode = 0x60 ∧ (o.begun = true ∨ s.viewGuard r = false) ∧ (∃ q ∈ o.reads, q.part = 0) ∧ o.partDone 0 = true ∧ o.partBad 0 (o.q 2) = none ∧ s.Takes o pl (o.part 0).length) ∧
    (∃ (s : State), ∃ (id : Nat), ∃ (len : Nat), ∃ (port : Nat), ∃ (pbr : Nat), ∃ (n : Nat), ∃ (off : Nat), ∃ (r : Nat), ∃ (o : Op), ∃ (e : Ext), ∃ (pl : Place), ∃ acks, ∃ (bs : List Byte), (o.opcode = 0x60 ∨ o.opcode = 0x61) ∧ s.Runs id o.opcode o ∧ len = (o.dw 6).toNat ∧ len ≠ 0 ∧ len % 64 = 0 ∧ o.q 2 % 64 = 0 ∧ o.q 4 % 64 = 0 ∧ o.zero 1 31 15 = true ∧ o.zeroFrom 7 = true ∧ ((match o.lent with | some l => some l | none => s.lentTo o) = some (port, pbr, n)) ∧ len ≤ n ∧ s.locate o.partner (o.q 4) = some (r, e, off) ∧ e.refuses o r = none ∧ off + len ≤ e.granules * Config.granuleBytes ∧ pl = placeAt (some (r, e, off)) (o.q 4) len ∧ o.opcode = 0x61 ∧ acks = o.reads.filter (fun q => q.part == 1) ∧ acks = [] ∧ s.Input o 0 pl bs ∧ s.mayRequest port = true) ∧
    (∃ (s : State), ∃ (id : Nat), ∃ (len : Nat), ∃ (port : Nat), ∃ (pbr : Nat), ∃ (n : Nat), ∃ (off : Nat), ∃ (r : Nat), ∃ (o : Op), ∃ (e : Ext), ∃ (pl : Place), ∃ acks, (o.opcode = 0x60 ∨ o.opcode = 0x61) ∧ s.Runs id o.opcode o ∧ len = (o.dw 6).toNat ∧ len ≠ 0 ∧ len % 64 = 0 ∧ o.q 2 % 64 = 0 ∧ o.q 4 % 64 = 0 ∧ o.zero 1 31 15 = true ∧ o.zeroFrom 7 = true ∧ ((match o.lent with | some l => some l | none => s.lentTo o) = some (port, pbr, n)) ∧ len ≤ n ∧ s.locate o.partner (o.q 4) = some (r, e, off) ∧ e.refuses o r = none ∧ off + len ≤ e.granules * Config.granuleBytes ∧ pl = placeAt (some (r, e, off)) (o.q 4) len ∧ o.opcode = 0x61 ∧ acks = o.reads.filter (fun q => q.part == 1) ∧ acks ≠ [] ∧ (∀ q ∈ acks, q.len ≤ q.got.length) ∧ o.partBad 1 (o.q 2) = none) :=
  ⟨by
    refine ⟨(wOp wPeer { opOf 0x60 [9, 0x1000,0, 0,1, 64] with reads := [{ port := 0, tag := some 3, addr := 0x1000, len := 64, part := 0, got := List.replicate 64 9 }] }), 7, _, _, _, _, _, _, _, _, _, ?_, ⟨rfl, by decide +kernel, by decide +kernel⟩, rfl, ?_, ?_, ?_, ?_, ?_, ?_, rfl, ?_, rfl, ?_, ?_, rfl, ?_, ?_, ?_, ?_, ?_, (⟨⟨by decide +kernel, by decide +kernel⟩, by decide +kernel, by decide +kernel⟩ : _ ∧ _ ∧ _)⟩ <;> decide +kernel,
   by
    refine ⟨(wOp wPeer (opOf 0x61 [9, 0x1000,0, 0,1, 64])), 7, _, _, _, _, _, _, _, _, _, [], ((wOp wPeer (opOf 0x61 [9, 0x1000,0, 0,1, 64])).spanBytes (extSpan 2 wRec 0 64)), ?_, ⟨rfl, by decide +kernel, by decide +kernel⟩, rfl, ?_, ?_, ?_, ?_, ?_, ?_, rfl, ?_, rfl, ?_, ?_, rfl, ?_, ?_, ?_, (⟨⟨by decide +kernel, by decide +kernel⟩, by decide +kernel, rfl⟩ : _ ∧ _ ∧ _), ?_⟩ <;> decide +kernel,
   by
    refine ⟨(wOp wPeer { opOf 0x61 [9, 0x1000,0, 0,1, 64] with reads := [{ port := 0, tag := some 3, addr := 0x1000, len := 1, part := 1, got := [0], ack := true }] }), 7, _, _, _, _, _, _, _, _, _, _, ?_, ⟨rfl, by decide +kernel, by decide +kernel⟩, rfl, ?_, ?_, ?_, ?_, ?_, ?_, rfl, ?_, rfl, ?_, ?_, rfl, ?_, rfl, by and_intros <;> decide +kernel⟩ <;> decide +kernel⟩

theorem witness_SlotsBindAndUnbind :
    (∃ (s : State), ∃ (id : Nat), ∃ (n : Nat), ∃ (o : Op), ∃ (h : Shape), ∃ (m : MailboxSpec), ∃ (r : Option Nat × Option (Nat × Ver)), s.Runs id 0x40 o ∧ n = o.slotNo ∧ bindShape o = some h ∧ o.zero 1 15 8 = true ∧ o.zero 4 31 28 = true ∧ o.zero 5 31 16 = true ∧ o.zero 6 30 17 = true ∧ o.zero 7 31 29 = true ∧ o.zero 8 29 27 = true ∧ o.zero 8 15 13 = true ∧ o.zeroFrom 13 = true ∧ m = ⟨bit (o.dw 8) 31, bit (o.dw 8) 30, bits (o.dw 8) 26 16, o.q 9, o.q 11⟩ ∧ s.mailboxCheck o m = none ∧ (m.en = true → s.mailboxRefusal o m.base = none) ∧ o.q 2 ≠ 0 ∧ s.writerCheck (s.opTenant o) (o.q 2) none true 0 = .inr r) ∧
    (∃ (s : State), ∃ (id : Nat), ∃ (n : Nat), ∃ (o : Op), s.OpsDistinct ∧ s.Runs id 0x45 o ∧ n = o.slotNo ∧ o.zero 1 15 8 = true ∧ o.zeroFrom 2 = true ∧ (s.slot n).bound = true) :=
  ⟨by
    refine ⟨(wOp wSlot (opOf 0x40 [5, 77,0])), 7, _, _, _, _, _, ⟨rfl, by decide, by decide⟩, rfl, rfl, ?_, ?_, ?_, ?_, ?_, ?_, ?_, ?_, rfl, ?_, ?_, ?_, rfl⟩ <;> decide +kernel,
   ⟨(wOp wSlot (opOf 0x45 [4])), 7, _, _, ⟨by decide, by decide⟩, ⟨rfl, by decide, by decide⟩, rfl, by and_intros <;> decide +kernel⟩⟩

theorem witness_SlotsParkAndResume :
    (∃ (s : State), ∃ (id : Nat), ∃ (n : Nat), ∃ (o : Op), ∃ (w : Ver), s.Runs id 0x43 o ∧ n = o.slotNo ∧ o.zero 1 15 8 = true ∧ o.zero 2 31 1 = true ∧ o.zeroFrom 3 = true ∧ (s.slot n).ver ≠ s.nextVer ∧ s.vers.get? (s.slot n).ver = some w ∧ (s.casks.get w.cask ⟨0, 0, 0, []⟩).lastSeq < 0xFFFFFFFF ∧ (s.versionsOf w.cask).length < 64 ∧ s.earlierNames (s.slot n).ver id = false ∧ bit (o.dw 2) 0 = false) ∧
    (∃ (s : State), ∃ (id : Nat), ∃ (n : Nat), ∃ (o : Op), ∃ (w : Ver), s.Runs id 0x43 o ∧ n = o.slotNo ∧ o.zero 1 15 8 = true ∧ o.zero 2 31 1 = true ∧ o.zeroFrom 3 = true ∧ (s.slot n).ver ≠ s.nextVer ∧ s.vers.get? (s.slot n).ver = some w ∧ (s.casks.get w.cask ⟨0, 0, 0, []⟩).lastSeq < 0xFFFFFFFF ∧ (s.versionsOf w.cask).length < 64 ∧ s.earlierNames (s.slot n).ver id = false ∧ bit (o.dw 2) 0 = true ∧ s.versionBad (s.slot n).ver = false) ∧
    (∃ (s : State), ∃ (id : Nat), ∃ (n : Nat), ∃ (v : Nat), ∃ (o : Op), ∃ (w : Ver), s.Runs id 0x43 o ∧ n = o.slotNo ∧ (s.slot n).ver = v ∧ v ≠ s.nextVer ∧ s.vers.get? v = some w ∧ s.vers.find? (fun x => x.2.commitOp == some id && x.2.st == .committing) = some (v, w) ∧ s.kln.staged.contains (.commit v) = true ∧ s.reopenRefusal w.cask = none) ∧
    (∃ (s : State), ∃ (id : Nat), ∃ (n : Nat), ∃ (v : Nat), ∃ (o : Op), ∃ (w : Ver), ∃ (st : Status), s.Runs id 0x43 o ∧ n = o.slotNo ∧ (s.slot n).ver = v ∧ s.vers.get? v = some w ∧ s.vers.find? (fun x => x.2.commitOp == some id && x.2.st == .committing) = some (v, w) ∧ s.kln.staged.contains (.commit v) = true ∧ (st = (if 0xFFFFFFFF ≤ (s.casks.get w.cask ⟨0, 0, 0, []⟩).lastSeq then .bounds else .busy)) ∧ (0xFFFFFFFF ≤ (s.casks.get w.cask ⟨0, 0, 0, []⟩).lastSeq ∨ 64 ≤ (s.versionsOf w.cask).length)) ∧
    (∃ (s : State), ∃ (id : Nat), ∃ (n : Nat), ∃ (k : Nat), ∃ (o : Op), ∃ (b : Ver), ∃ (h : Shape), ∃ (lens : Map Nat), ∃ (m : MailboxSpec), ∃ (f : Nat × Cask × Option CaskGrant), ∃ (r : Option Nat × Option (Nat × Ver)), s.Runs id 0x44 o ∧ n = o.slotNo ∧ o.opened = none ∧ o.zero 1 15 8 = true ∧ o.zero 6 29 27 = true ∧ o.zero 6 15 1 = true ∧ o.zeroFrom 11 = true ∧ m = ⟨bit (o.dw 6) 31, bit (o.dw 6) 30, bits (o.dw 6) 26 16, o.q 7, o.q 9⟩ ∧ s.mailboxCheck o m = none ∧ (m.en = true → s.mailboxRefusal o m.base = none) ∧ o.q 2 ≠ 0 ∧ s.findCask (s.opTenant o) (o.q 2) = some f ∧ s.committedVer f.1 (o.q 4) = some (k, b) ∧ b.park = some (h, lens) ∧ s.writerCheck (s.opTenant o) (o.q 2) (some (o.q 4)) false 0 true = .inr r ∧ s.vers.get? k = some b ∧ k ≠ s.nextVer ∧ s.AtHand o (b.pages.map (fun p => (p.2, 0)))) :=
  ⟨⟨(wOp wSlot (opOf 0x43 [4, 0])), 7, _, _, _, ⟨rfl, by decide +kernel, by decide +kernel⟩, rfl, by decide +kernel, by decide +kernel, by decide +kernel, by decide +kernel, rfl, by and_intros <;> decide +kernel⟩,
   ⟨(wOp wSlot (opOf 0x43 [4, 1])), 7, _, _, _, ⟨rfl, by decide +kernel, by decide +kernel⟩, rfl, by decide +kernel, by decide +kernel, by decide +kernel, by decide +kernel, rfl, by and_intros <;> decide +kernel⟩,
   ⟨(wOp { wSlot with vers := [(21, { cask := 8, seq := 5, st := .committing, size := 0x100000000000, base := some 20, slotShape := some {}, commitOp := some 7 })], kln := { staged := [.commit 21] } } { opOf 0x43 [4, 1] with commitAt := some 0 }), 7, _, _, _, _, ⟨rfl, by decide +kernel, by decide +kernel⟩, rfl, rfl, by decide +kernel, rfl, by and_intros <;> decide +kernel⟩,
   ⟨(wOp { wSlot with vers := [(21, { cask := 8, seq := 5, st := .committing, size := 0x100000000000, base := some 20, slotShape := some {}, commitOp := some 7 })], casks := [(8, { tenant := 5, id := 77, lastSeq := 0xFFFFFFFF })], kln := { staged := [.commit 21] } } { opOf 0x43 [4, 1] with commitAt := some 0 }), 7, 4, _, _, _, .bounds, ⟨rfl, by decide +kernel, by decide +kernel⟩, by decide +kernel, rfl, rfl, by and_intros <;> decide +kernel⟩,
   by
    refine ⟨(wOp wSlot (opOf 0x44 [5, 77,0, 4,0])), 7, 5, 20, _, wP20, {}, ([(0, 0)]), _, ((8, wCask, none)), ((some 8, some (20, wP20))), ⟨rfl, by decide +kernel, by decide +kernel⟩, ?_, ?_, ?_, ?_, ?_, ?_, rfl, ?_, ?_, ?_, ?_, ?_, ?_, ?_, ?_, ?_, ⟨by decide +kernel, by decide +kernel⟩⟩ <;> decide +kernel⟩

theorem witness_AppendAddsPositions : ∃ (s : State), ∃ (id : Nat), ∃ (n : Nat), ∃ (layers : Nat), ∃ (first : Nat), ∃ (count : Nat), ∃ (len : Nat), ∃ (o : Op), ∃ (cs : List Ctx), ∃ (bs : List Byte), ∃ (tiles : List TilePos), ∃ (src : Source), s.Runs id 0x41 o ∧ n = o.slotNo ∧ layers = bits (o.dw 2) 15 8 + 1 ∧ first = bits (o.dw 2) 7 0 ∧ count = bits (o.dw 3) 16 0 ∧ len = (o.dw 4).toNat ∧ cs = s.layerCtxs n first layers ∧ o.zero 1 15 8 = true ∧ o.zero 2 30 19 = true ∧ o.zero 3 31 17 = true ∧ o.zeroFrom 7 = true ∧ bits (o.dw 2) 18 16 ≤ 1 ∧ 0 < count ∧ count ≤ 65536 ∧ first + layers ≤ (s.slot n).shape.layers ∧ (∀ c ∈ cs, c.len + count ≤ 2 ^ 28 ∧ c.appendFits count = true) ∧ len = layers * sectionBytes (s.slot n).shape (bits (o.dw 2) 18 16 == 1) count + scaleBytes (s.slot n).shape layers ∧ (if bit (o.dw 2) 31 then (s.part o.partner).dp.active = true ∧ (s.part o.partner).dp.stream = true ∧ (s.part o.partner).dp.dir = false ∧ (s.part o.partner).dp.consumer = some id ∧ (s.part o.partner).dp.len = len ∧ bs = (s.part o.partner).dp.buf ∧ len ≤ bs.length else ∃ f, s.callRange o (o.q 5) len = .inr f ∧ s.Input o 0 (placeAt f (o.q 5) len) bs) ∧ s.VerAtHand o (s.slot n).ver ∧ s.Sound (s.slot n).ver ∧ (s.slot n).shape.legal ∧ tiles = appendTilesOf cs count ∧ s.tileFrames (s.slot n).ver tiles = [] ∧ src = sourceOf (s.slot n).shape (bits (o.dw 2) 18 16 == 1) count layers bs :=
  by
    refine ⟨(wOp wSlot (opOf 0x41 [4, 0, 1, 128, 0,1])), 7, 4, 1, 0, 1, 128, _, _, ((wOp wSlot (opOf 0x41 [4, 0, 1, 128, 0,1])).spanBytes (extSpan 2 wRec 0 128)), _, _, ⟨rfl, by decide +kernel, by decide +kernel⟩, ?_, ?_, ?_, ?_, ?_, rfl, ?_, ?_, ?_, ?_, ?_, ?_, ?_, ?_, ?_, ?_, (by rw [if_neg (by decide +kernel)]; exact ⟨some (2, wRec, 0), by decide +kernel, (⟨⟨by decide +kernel, by decide +kernel⟩, by decide +kernel, rfl⟩ : _ ∧ _ ∧ _)⟩), verAtHand wV21 rfl (by decide +kernel) (by decide +kernel), ⟨wV21, rfl, by decide +kernel, by decide +kernel⟩, ⟨by decide +kernel, by decide +kernel, by decide +kernel, by decide +kernel, by decide +kernel, by decide +kernel⟩, rfl, ?_, rfl⟩ <;> decide +kernel

theorem witness_PicotsAreRebuilt : ∃ (s : State), ∃ (id : Nat), ∃ (n : Nat), ∃ (layers : Nat), ∃ (first : Nat), ∃ (o : Op), ∃ (cs : List Ctx), ∃ (tiles : List TilePos), s.Runs id 0x46 o ∧ n = o.slotNo ∧ layers = bits (o.dw 2) 15 8 + 1 ∧ first = bits (o.dw 2) 7 0 ∧ cs = s.layerCtxs n first layers ∧ o.zero 1 15 8 = true ∧ o.zero 2 31 16 = true ∧ o.zeroFrom 3 = true ∧ first + layers ≤ (s.slot n).shape.layers ∧ tiles = ((cs.flatMap (fun c => c.allPicots)).map (·.pos)).eraseDups ∧ s.noCapacity n tiles = false ∧ s.tileFrames (s.slot n).ver tiles = [] ∧ (∀ c ∈ cs, s.tilesBad c c.allKeys = false) ∧ s.VerAtHand o (s.slot n).ver ∧ s.Sound (s.slot n).ver ∧ (s.slot n).shape.legal ∧ (∀ c ∈ cs, c.Placed) :=
  by
    refine ⟨(wOp wSlot (opOf 0x46 [4, 0])), 7, 4, 1, 0, _, _, _, ⟨rfl, by decide +kernel, by decide +kernel⟩, ?_, ?_, ?_, rfl, ?_, ?_, ?_, ?_, rfl, ?_, ?_, ?_, verAtHand wV21 rfl (by decide +kernel) (by decide +kernel), ⟨wV21, rfl, by decide +kernel, by decide +kernel⟩, ⟨by decide +kernel, by decide +kernel, by decide +kernel, by decide +kernel, by decide +kernel, by decide +kernel⟩, by unfold Ctx.Placed; decide +kernel⟩ <;> decide +kernel

theorem witness_AttendAnswers : ∃ (s : State), ∃ (id : Nat), ∃ (n : Nat), ∃ (layer : Nat), ∃ (heads : Nat), ∃ (qlen : Nat), ∃ (olen : Nat), ∃ (o : Op), ∃ (h : Shape), ∃ (pr : CallParams), ∃ (qf : Option (Nat × Ext × Nat)), ∃ (out : Option (Nat × Ext × Nat)), ∃ (query : List Byte), ∃ (r : AttendResult), s.Runs id 0x42 o ∧ n = o.slotNo ∧ h = (s.slot n).shape ∧ h.legal ∧ layer = bits (o.dw 2) 7 0 ∧ heads = h.kvh * h.group ∧ qlen = heads * h.hd * 2 ∧ (olen = 4096 + heads * h.hd * (if h.outfmt = 0 then 4 else 2)) ∧ o.zero 1 15 8 = true ∧ o.zero 2 31 10 = true ∧ o.zero 3 31 27 = true ∧ o.zero 4 31 13 = true ∧ o.zeroFrom 9 = true ∧ callParams h (bits (o.dw 2) 9 8) (bits (o.dw 3) 10 0) (bits (o.dw 3) 17 11) (bits (o.dw 3) 26 18) (bits (o.dw 4) 12 0) = some pr ∧ o.q 5 % 64 = 0 ∧ o.q 7 % 4096 = 0 ∧ layer < h.layers ∧ s.callRange o (o.q 5) qlen = .inr qf ∧ s.callRange o (o.q 7) olen = .inr out ∧ (∀ f, out = some f → o.begun = true ∨ s.viewGuard f.1 = false) ∧ s.Input o 0 (placeAt qf (o.q 5) qlen) query ∧ s.VerAtHand o (s.slot n).ver ∧ (match out with | some (k, e, off) => s.AtHand o (s.writeDeps (extSpan k e off olen)) ∧ s.Framed (extSpan k e off olen) ∧ s.spanRoom (extSpan k e off olen) = true | none => s.mayRequest o.port = true) ∧ r = s.attendAll (s.slotCtx n layer) (s.slot n) pr (o.nonres.getD (o.baseAway.getD [] ++ s.awayPages (s.slot n).ver)) query :=
  by
    refine ⟨(wOp wSlot (opOf 0x42 [4, 0, 0, 0, 0,1, 0x10000,1])), 7, 4, 0, 1, 128, 4352, _, {}, _, (some (2, wRec, 0)), (some (2, wRec, 65536)), ((wOp wSlot (opOf 0x42 [4, 0, 0, 0, 0,1, 0x10000,1])).spanBytes (extSpan 2 wRec 0 128)), _, ⟨rfl, by decide +kernel, by decide +kernel⟩, ?_, ?_, ⟨by decide +kernel, by decide +kernel, by decide +kernel, by decide +kernel, by decide +kernel, by decide +kernel⟩, ?_, ?_, ?_, ?_, ?_, ?_, ?_, ?_, ?_, rfl, ?_, ?_, ?_, ?_, ?_, (fun f h => by cases h; exact Or.inr (by decide +kernel)), (⟨⟨by decide +kernel, by decide +kernel⟩, by decide +kernel, rfl⟩ : _ ∧ _ ∧ _), verAtHand wV21 rfl (by decide +kernel) (by decide +kernel), (⟨⟨by decide +kernel, by decide +kernel⟩, framed_one 11 { owner := .extent 0 1, tenant := 5, stack := 1 } (by decide +kernel) (by decide +kernel) (by decide +kernel : (Map.get? _ _).isSome = true) (by decide +kernel), by decide +kernel⟩ : _ ∧ _ ∧ _), rfl⟩ <;> decide +kernel

theorem witness_SlotTurns :
    (∃ (s : State), ∃ (id : Nat), ∃ (o : Op), s.op? id = some o ∧ o.phase = .turn ∧ s.turnFirst o = true ∧ s.rst.flush = .none ∧ s.diesIdle = false) ∧
    (∃ (s : State), ∃ (id : Nat), ∃ (o : Op), s.op? id = some o ∧ o.phase = .turn ∧ s.turnFirst o = true ∧ s.rst.flush = .none ∧ s.diesIdle = false ∧ (s.slot o.slotNo).change = .none) ∧
    (∃ (s : State), ∃ (id : Nat), ∃ (o : Op), s.running = true ∧ s.op? id = some o ∧ o.phase = .waitTurn) ∧
    (∃ (s : State), ∃ (n : Nat), (s.slot n).bound = true ∧ (s.slot n).change ≠ .none ∧ s.slotBusy n = false) :=
  ⟨⟨(wOp wSlot { opOf 0x42 [4] with phase := .turn }), 7, _, rfl, by and_intros <;> decide +kernel⟩,
   ⟨(wOp wSlot { opOf 0x42 [4] with phase := .turn }), 7, _, rfl, by and_intros <;> decide +kernel⟩,
   ⟨(wOp wSlot { opOf 0x42 [4] with phase := .waitTurn }), 7, _, by decide, rfl, by decide⟩,
   ⟨({ wSlot with slots := [(4, { wSlot.slot 4 with mark := some 5, change := .clearing, mailboxEn := true })] }), 4, by and_intros <;> decide +kernel⟩⟩

theorem witness_MailboxCalls :
    (∃ (s : State), ∃ (p : Nat), ∃ (n : Nat), ∃ (k : Nat), ∃ (d : Nat), ∃ (nb : Nat), ∃ (v : Word), ∃ (ide : Option Nat), s.Reaches p n ide ∧ nb ≤ 4 ∧ s.serving = true ∧ s.OpsDistinct ∧ k = bits v 7 0 ∧ s.pwr.state ≠ .parked ∧ s.pwr.state ≠ .leaving ∧ s.pwr.state ≠ .entering ∧ s.pwr.drained = false ∧ (s.slot k).bound = true ∧ (s.slot k).fast = true ∧ (s.slot k).partner = n ∧ (s.slot k).mailboxEn = true ∧ (s.slot k).mboxDisabled = false ∧ (∀ o ∈ s.ops, o.mailbox ≠ some k) ∧ s.hasArray = true ∧ (s.slot k).mark = some (((s.part n).tenant).getD 0) ∧ d = (bits (w32 (leNat ((s.slot k).mbox.slice 0 4))) 15 0 + 65536 - (s.slot k).next) % 65536) ∧
    (∃ (s : State), ∃ (p : Nat), ∃ (n : Nat), ∃ (k : Nat), ∃ (nb : Nat), ∃ (v : Word), ∃ (ide : Option Nat), s.Reaches p n ide ∧ nb ≤ 4 ∧ s.serving = true ∧ k = bits v 7 0 ∧ ((s.slot k).bound = false ∨ (s.slot k).fast = false ∨ (s.slot k).partner ≠ n ∨ (s.slot k).mailboxEn = false ∨ (s.slot k).mboxDisabled = true ∨ s.pwr.state = .parked ∨ s.pwr.state = .leaving ∨ s.pwr.drained = true ∨ (∃ o ∈ s.ops, o.mailbox = some k))) ∧
    (∃ (s : State), ∃ (k : Nat), ∃ (o : Op), s.ops.find? (fun o => o.mailbox == some k) = some o ∧ s.op? o.id = some o ∧ o.phase = .finished ∧ s.opHeld o.id = false ∧ s.turnFirst o = true ∧ (s.slot k).bound = true ∧ (s.slot k).mailboxEn = true ∧ (s.slot k).mboxDisabled = false ∧ (s.slot k).shape.kvh * (s.slot k).shape.group ≤ 1024) ∧
    (∃ (s : State), ∃ (k : Nat), ∃ (layer : Nat), ∃ (o : Op), ∃ (pr : CallParams), s.ops.find? (fun o => o.mailbox == some k) = some o ∧ s.op? o.id = some o ∧ o.phase = .running ∧ s.turnFirst o = true ∧ (s.slot k).bound = true ∧ (s.slot k).mailboxEn = true ∧ (s.slot k).mboxDisabled = false ∧ layer = bits (o.dw 0) 23 16 ∧ layer < (s.slot k).shape.layers ∧ bit (o.dw 0) 26 = false ∧ mailboxParams (s.slot k).shape o = some pr ∧ o.zero 0 31 28 = true ∧ o.zero 1 31 27 = true ∧ o.zero 2 31 13 = true ∧ o.zeroFrom 3 = true ∧ s.VerAtHand o (s.slot k).ver) :=
  ⟨by
    refine ⟨({ wSlot with slots := [(4, { wSlot.slot 4 with mark := some 5, mailboxEn := true, next := 0 })] }), 0, _, _, _, 4, 0x10004, none, ⟨⟨by decide +kernel, by decide +kernel⟩, by decide +kernel, by decide +kernel, by decide +kernel, by decide +kernel, by decide +kernel, by decide +kernel⟩, ?_, ?_, ⟨by decide +kernel, by decide +kernel⟩, rfl, ?_, ?_, ?_, ?_, ?_, ?_, rfl, ?_, ?_, ?_, ?_, ?_, rfl⟩ <;> decide +kernel,
   ⟨wSlot, 0, 3, _, 4, 4, none, ⟨⟨by decide +kernel, by decide +kernel⟩, by decide +kernel, by decide +kernel, by decide +kernel, by decide +kernel, by decide +kernel, by decide +kernel⟩, by decide +kernel, by decide +kernel, rfl, by decide +kernel⟩,
   ⟨(wOp { wSlot with slots := [(4, { wSlot.slot 4 with mark := some 5, mailboxEn := true })] } { opOf 0x42 [] with mailbox := some 4, phase := .finished, wrote := [1,2,3,4,5,6] }), 4, _, rfl, by and_intros <;> decide +kernel⟩,
   by
    refine ⟨(wOp { wSlot with slots := [(4, { wSlot.slot 4 with mark := some 5, mailboxEn := true })] } { id := 7, partner := 3, ring := 0, port := 0, dws := List.replicate 16 0, mailbox := some 4, reads := [{ port := 0, tag := none, addr := 0, len := 128, part := 0, got := List.replicate 128 0 }] }), 4, 0, _, _, rfl, ?_, ?_, ?_, ?_, ?_, ?_, ?_, ?_, ?_, rfl, ?_, ?_, ?_, ?_, verAtHand wV21 rfl (by decide +kernel) (by decide +kernel)⟩ <;> decide +kernel⟩

theorem witness_PortSessionStarts :
    (∃ (s : State), ∃ (id : Nat), ∃ (len : Nat), ∃ (o : Op), ∃ (q : Session), ∃ (d : Named), ∃ (f : Found), s.Runs id 0x70 o ∧ q = (s.part o.partner).dp ∧ len = (o.dw 4).toNat ∧ d = ⟨bits (o.dw 1) 11 10, bits (o.dw 1) 9 0, o.q 2, len, !bit (o.dw 1) 13⟩ ∧ f = s.find o d ∧ q.active = false ∧ len = 0) ∧
    (∃ (s : State), ∃ (id : Nat), ∃ (len : Nat), ∃ (o : Op), ∃ (q : Session), ∃ (d : Named), ∃ (f : Found), s.Runs id 0x70 o ∧ q = (s.part o.partner).dp ∧ len = (o.dw 4).toNat ∧ d = ⟨bits (o.dw 1) 11 10, bits (o.dw 1) 9 0, o.q 2, len, !bit (o.dw 1) 13⟩ ∧ f = s.find o d ∧ len ≠ 0 ∧ len % 4 = 0 ∧ o.zero 1 31 14 = true ∧ o.zeroFrom 5 = true ∧ (if bit (o.dw 1) 12 then o.zero 1 11 0 = true ∧ o.q 2 = 0 else d.reserved = false ∧ (d.space ≠ 0 ∨ f.place.isDma = false) ∧ o.q 2 % 64 = 0 ∧ foundStatus [f] = none) ∧ q.active = true ∧ q.op ≠ id) ∧
    (∃ (s : State), ∃ (id : Nat), ∃ (len : Nat), ∃ (o : Op), ∃ (q : Session), ∃ (d : Named), ∃ (f : Found), s.Runs id 0x70 o ∧ q = (s.part o.partner).dp ∧ len = (o.dw 4).toNat ∧ d = ⟨bits (o.dw 1) 11 10, bits (o.dw 1) 9 0, o.q 2, len, !bit (o.dw 1) 13⟩ ∧ f = s.find o d ∧ len ≠ 0 ∧ len % 4 = 0 ∧ o.zero 1 31 14 = true ∧ o.zeroFrom 5 = true ∧ (if bit (o.dw 1) 12 then o.zero 1 11 0 = true ∧ o.q 2 = 0 else d.reserved = false ∧ (d.space ≠ 0 ∨ f.place.isDma = false) ∧ o.q 2 % 64 = 0 ∧ foundStatus [f] = none) ∧ q.active = false ∧ (bit (o.dw 1) 13 = false ∨ bit (o.dw 1) 12 = true)) ∧
    (∃ (s : State), ∃ (id : Nat), ∃ (len : Nat), ∃ (o : Op), ∃ (q : Session), ∃ (d : Named), ∃ (f : Found), ∃ sp, s.Runs id 0x70 o ∧ q = (s.part o.partner).dp ∧ len = (o.dw 4).toNat ∧ d = ⟨bits (o.dw 1) 11 10, bits (o.dw 1) 9 0, o.q 2, len, !bit (o.dw 1) 13⟩ ∧ f = s.find o d ∧ len ≠ 0 ∧ len % 4 = 0 ∧ o.zero 1 31 14 = true ∧ o.zeroFrom 5 = true ∧ (if bit (o.dw 1) 12 then o.zero 1 11 0 = true ∧ o.q 2 = 0 else d.reserved = false ∧ (d.space ≠ 0 ∨ f.place.isDma = false) ∧ o.q 2 % 64 = 0 ∧ foundStatus [f] = none) ∧ q.active = false ∧ bit (o.dw 1) 13 = true ∧ bit (o.dw 1) 12 = false ∧ f.place = .dev sp ∧ s.AtHand o (s.spanNeeds sp) ∧ s.spanWrong sp = none) :=
  ⟨⟨(wOp wPool (opOf 0x70 [0, 0,1, 0])), 7, _, _, _, _, _, ⟨rfl, by decide +kernel, by decide +kernel⟩, rfl, rfl, rfl, rfl, by decide +kernel, by decide +kernel⟩,
   ⟨(wDp { active := true, len := 8, op := 3 }), 7, _, _, _, _, _, ⟨rfl, by decide +kernel, by decide +kernel⟩, rfl, rfl, rfl, rfl, by and_intros <;> decide +kernel⟩,
   ⟨(wOp wPool (opOf 0x70 [0x1000, 0,0, 256])), 7, _, _, _, _, _, ⟨rfl, by decide +kernel, by decide +kernel⟩, rfl, rfl, rfl, rfl, by and_intros <;> decide +kernel⟩,
   by
    refine ⟨(wDpOut {}), 7, _, _, _, _, _, (extSpan 2 wRec 0 256), ⟨rfl, by decide +kernel, by decide +kernel⟩, rfl, rfl, rfl, rfl, ?_, ?_, ?_, ?_, ?_, ?_, ?_, ?_, ?_, ⟨by decide +kernel, by decide +kernel⟩, ?_⟩ <;> decide +kernel⟩

theorem witness_WindowWritesReachTheSession :
    (∃ (s : State), ∃ (u : State), ∃ (p : Nat), ∃ (n : Nat), ∃ (off : Nat), ∃ (ide : Option Nat), ∃ (q : Session), s.OpensWindow p n off ide ∧ q = (s.part n).dp ∧ u = s.atBar p ∧ s.windowOpen p n = false) ∧
    (∃ (s : State), ∃ (u : State), ∃ (p : Nat), ∃ (n : Nat), ∃ (off : Nat), ∃ (bs : List Byte), ∃ (en : Bool), ∃ (ide : Option Nat), ∃ (q : Session), s.OpensWindow p n off ide ∧ q = (s.part n).dp ∧ u = s.atBar p ∧ s.windowOpen p n = true ∧ windowCause q true off bs.length en = none ∧ (((s.port p).wcb ++ [(n, q.pos, bs)]).map (fun l => ceilDiv l.2.2.length 64)).sum ≤ 64) ∧
    (∃ (s : State), ∃ (u : State), ∃ (p : Nat), ∃ (n : Nat), ∃ (off : Nat), ∃ (bs : List Byte), ∃ (en : Bool), ∃ (ide : Option Nat), ∃ (q : Session), ∃ (c : Nat), ∃ (o : Op), s.OpensWindow p n off ide ∧ q = (s.part n).dp ∧ u = s.atBar p ∧ s.windowOpen p n = true ∧ windowCause q true off bs.length en = some c ∧ s.op? q.op = some o ∧ q.consumer ≠ some q.op) ∧
    (∃ (s : State), ∃ (p : Nat), ∃ (n : Nat), ∃ (pos : Nat), ∃ (bs : List Byte), ∃ (q : Session), ∃ (o : Op), ∃ (sp : Span), (s.port p).wcb = [(n, pos, bs)] ∧ q = (s.part n).dp ∧ q.active = true ∧ q.stream = false ∧ q.dir = false ∧ q.waiting = [] ∧ s.op? q.op = some o ∧ s.sessionPlace q = some (.dev sp) ∧ s.Takes o (.dev { sp with off := sp.off + pos, len := bs.length }) bs.length) ∧
    (∃ (s : State), ∃ (p : Nat), ∃ (n : Nat), ∃ (pos : Nat), ∃ (bs : List Byte), ∃ (q : Session), (s.port p).wcb = [(n, pos, bs)] ∧ q = (s.part n).dp ∧ q.active = true ∧ q.stream = true) :=
  ⟨⟨wPool, _, 0, 3, 0x20000, none, _, ⟨⟨by decide, by decide⟩, by decide, by decide, by decide, by decide, by decide⟩, rfl, rfl, by decide⟩,
   ⟨(wDp { active := true, len := 256, op := 7 }), _, 0, 3, 0x20000, [1,2,3,4], true, none, _, ⟨⟨by decide, by decide⟩, by decide, by decide, by decide, by decide, by decide⟩, rfl, rfl, by and_intros <;> decide +kernel⟩,
   ⟨(wDp { active := true, len := 256, op := 7 }), _, 0, 3, 0x20000, [1,2,3], true, none, _, _, _, ⟨⟨by decide, by decide⟩, by decide, by decide, by decide, by decide, by decide⟩, rfl, rfl, by decide, rfl, rfl, by decide⟩,
   ⟨({ wDp { active := true, len := 256, op := 7, done := 252, pos := 256 } with ports := [(0, { wUp.port 0 with wcb := [(3, 252, [1,2,3,4])] })] }), 0, 3, 252, [1,2,3,4], _, _, (extSpan 2 wRec 0 256), by decide, rfl, by decide, by decide, by decide, by decide, rfl, by decide, (⟨⟨by decide +kernel, by decide⟩, by decide +kernel, by decide +kernel⟩ : _ ∧ _ ∧ _)⟩,
   ⟨({ wDp { active := true, stream := true, len := 256, op := 7, consumer := some 7 } with ports := [(0, { wUp.port 0 with wcb := [(3, 0, [1,2,3,4])] })] }), 0, 3, 0, [1,2,3,4], _, by decide, rfl, by decide, by decide⟩⟩

theorem witness_WindowReadsReturnTheData :
    (∃ (s : State), ∃ (u : State), ∃ (p : Nat), ∃ (n : Nat), ∃ (off : Nat), ∃ (ide : Option Nat), ∃ (q : Session), s.OpensWindow p n off ide ∧ q = (s.part n).dp ∧ u = s.atBar p ∧ s.windowOpen p n = false) ∧
    (∃ (s : State), ∃ (u : State), ∃ (p : Nat), ∃ (n : Nat), ∃ (off : Nat), ∃ (len : Nat), ∃ (en : Bool), ∃ (ide : Option Nat), ∃ (q : Session), s.OpensWindow p n off ide ∧ q = (s.part n).dp ∧ u = s.atBar p ∧ s.windowOpen p n = true ∧ windowCause q false off len en = none ∧ q.waiting = [] ∧ q.stream = true ∧ q.done < q.pos + len) ∧
    (∃ (s : State), ∃ (u : State), ∃ (p : Nat), ∃ (n : Nat), ∃ (off : Nat), ∃ (len : Nat), ∃ (en : Bool), ∃ (ide : Option Nat), ∃ (q : Session), s.OpensWindow p n off ide ∧ q = (s.part n).dp ∧ u = s.atBar p ∧ s.windowOpen p n = true ∧ windowCause q false off len en = none ∧ q.waiting = [] ∧ q.stream = true ∧ q.pos + len ≤ q.done) ∧
    (∃ (s : State), ∃ (u : State), ∃ (p : Nat), ∃ (n : Nat), ∃ (off : Nat), ∃ (len : Nat), ∃ (en : Bool), ∃ (ide : Option Nat), ∃ (q : Session), ∃ (o : Op), ∃ (sp : Span), s.OpensWindow p n off ide ∧ q = (s.part n).dp ∧ u = s.atBar p ∧ s.windowOpen p n = true ∧ windowCause q false off len en = none ∧ q.waiting = [] ∧ q.stream = false ∧ s.op? q.op = some o ∧ s.sessionPlace q = some (.dev sp) ∧ u.AtHand o (u.spanNeeds sp) ∧ u.spanWrong sp = none ∧ q.done ≤ q.len) ∧
    (∃ (s : State), ∃ (u : State), ∃ (p : Nat), ∃ (n : Nat), ∃ (off : Nat), ∃ (len : Nat), ∃ (en : Bool), ∃ (ide : Option Nat), ∃ (q : Session), ∃ o, ∃ (e : Ext), ∃ (v : View), ∃ (at' : Nat), ∃ (ln : Nat), s.OpensWindow p n off ide ∧ q = (s.part n).dp ∧ u = s.atBar p ∧ s.windowOpen p n = true ∧ windowCause q false off len en = none ∧ q.waiting = [] ∧ q.stream = false ∧ s.op? q.op = some o ∧ s.sessionPlace q = some (.view e v at' ln) ∧ u.AtHand o (u.viewAsks v at' ln (fun _ => none)) ∧ lowestFailing (u.tilesFor o e v (at' + q.pos) len) = none) ∧
    (∃ (s : State), ∃ (u : State), ∃ (p : Nat), ∃ (n : Nat), ∃ (off : Nat), ∃ (len : Nat), ∃ (en : Bool), ∃ (ide : Option Nat), ∃ (q : Session), ∃ (c : Nat), ∃ (o : Op), s.OpensWindow p n off ide ∧ q = (s.part n).dp ∧ u = s.atBar p ∧ s.windowOpen p n = true ∧ windowCause q false off len en = some c ∧ s.op? q.op = some o ∧ q.consumer ≠ some q.op) ∧
    (∃ (s : State), ∃ (n : Nat), ∃ (q : Session), ∃ (r : WindowRead), s.running = true ∧ q = (s.part n).dp ∧ q.waiting = [r] ∧ q.stream = true ∧ q.done < r.off + r.len) ∧
    (∃ (s : State), ∃ (n : Nat), ∃ (q : Session), ∃ (o : Op), s.running = true ∧ q = (s.part n).dp ∧ q.active = true ∧ s.op? q.op = some o ∧ q.consumer ≠ some q.op) :=
  ⟨⟨wPool, _, 0, 3, 0x20000, none, _, ⟨⟨by decide +kernel, by decide +kernel⟩, by decide +kernel, by decide +kernel, by decide +kernel, by decide +kernel, by decide +kernel⟩, rfl, rfl, by decide +kernel⟩,
   ⟨(wDp { active := true, dir := true, stream := true, len := 256, op := 7 }), _, 0, 3, 0x20000, 8, true, none, _, ⟨⟨by decide +kernel, by decide +kernel⟩, by decide +kernel, by decide +kernel, by decide +kernel, by decide +kernel, by decide +kernel⟩, rfl, rfl, by and_intros <;> decide +kernel⟩,
   ⟨(wDp { active := true, dir := true, stream := true, len := 256, op := 7, done := 8, buf := [1,2,3,4,5,6,7,8] }), _, 0, 3, 0x20000, 8, true, none, _, ⟨⟨by decide +kernel, by decide +kernel⟩, by decide +kernel, by decide +kernel, by decide +kernel, by decide +kernel, by decide +kernel⟩, rfl, rfl, by and_intros <;> decide +kernel⟩,
   ⟨(wDpOut { active := true, dir := true, len := 256, op := 7, done := 256, pos := 248 }), _, 0, 3, 0x200F8, 8, true, none, _, _, (extSpan 2 wRec 0 256), ⟨⟨by decide +kernel, by decide +kernel⟩, by decide +kernel, by decide +kernel, by decide +kernel, by decide +kernel, by decide +kernel⟩, rfl, rfl, by decide +kernel, by decide +kernel, by decide +kernel, by decide +kernel, rfl, by decide +kernel, ⟨by decide +kernel, by decide +kernel⟩, by decide +kernel, by decide +kernel⟩,
   ⟨(wOp { wView with parts := [(3, { wView.part 3 with dp := { active := true, dir := true, len := 64, op := 7, done := 64, pos := 56 } })] } (opOf 0x70 [0x2000, 0x200000,1, 64])), _, 0, 3, 0x20038, 8, true, none, _, _, ({ wRec with dpa := 0x200000, group := 1, view := some ⟨2, 0, 1, 0⟩ }), (⟨2, 0, 1, 0⟩), 0, 64, ⟨⟨by decide +kernel, by decide +kernel⟩, by decide +kernel, by decide +kernel, by decide +kernel, by decide +kernel, by decide +kernel⟩, rfl, rfl, by decide +kernel, by decide +kernel, by decide +kernel, by decide +kernel, rfl, by decide +kernel, ⟨by decide +kernel, by decide +kernel⟩, by decide +kernel⟩,
   ⟨(wDpOut { active := true, dir := true, len := 256, op := 7, done := 256, pos := 0 }), _, 0, 3, 0x20004, 8, true, none, _, _, _, ⟨⟨by decide +kernel, by decide +kernel⟩, by decide +kernel, by decide +kernel, by decide +kernel, by decide +kernel, by decide +kernel⟩, rfl, rfl, by decide +kernel, rfl, rfl, by decide +kernel⟩,
   ⟨(wDp { active := true, dir := true, stream := true, len := 256, op := 7, waiting := [⟨0x20000, 8, 0⟩] }), 3, _, (⟨0x20000, 8, 0⟩), by decide +kernel, rfl, by and_intros <;> decide +kernel⟩,
   ⟨(wDp { active := true, dir := true, len := 256, op := 7 }), 3, _, _, by decide +kernel, rfl, by decide +kernel, rfl, by decide +kernel⟩⟩

theorem witness_CxlReadsReturnMemory :
    (∃ (s : State), ∃ (u : State), ∃ (p : Nat), ∃ (addr : Nat), ∃ (len : Nat), ∃ (ide : Option Nat), ∃ (r : Nat), ∃ (off : Nat), ∃ (e : Ext), ∃ q, s.carries p = true ∧ (s.port p).drops ide = false ∧ len ≠ 0 ∧ addr % 64 + len ≤ 64 ∧ u = s.atBar p ∧ u.cxlTarget p addr len ide = .extent r off e ∧ e.view = none ∧ u.pageAt (.group e.group) (off / 65536) = none ∧ u.pool.groups.get? e.group = some q) ∧
    (∃ (s : State), ∃ (u : State), ∃ (p : Nat), ∃ (addr : Nat), ∃ (len : Nat), ∃ (ide : Option Nat), ∃ (r : Nat), ∃ (off : Nat), ∃ (e : Ext), ∃ (pid : Nat), ∃ (g : Page), s.carries p = true ∧ (s.port p).drops ide = false ∧ len ≠ 0 ∧ addr % 64 + len ≤ 64 ∧ u = s.atBar p ∧ u.cxlTarget p addr len ide = .extent r off e ∧ e.view = none ∧ u.pageAt (.group e.group) (off / 65536) = some pid ∧ u.pages.get? pid = some g ∧ u.trouble pid ≠ none ∧ u.starvedFrom u.stp.nextReq = []) ∧
    (∃ (s : State), ∃ (u : State), ∃ (p : Nat), ∃ (addr : Nat), ∃ (len : Nat), ∃ (ide : Option Nat), ∃ (r : Nat), ∃ (off : Nat), ∃ (e : Ext), ∃ (pid : Nat), ∃ (g : Page), s.carries p = true ∧ (s.port p).drops ide = false ∧ len ≠ 0 ∧ addr % 64 + len ≤ 64 ∧ u = s.atBar p ∧ u.cxlTarget p addr len ide = .extent r off e ∧ e.view = none ∧ u.pageAt (.group e.group) (off / 65536) = some pid ∧ u.pages.get? pid = some g ∧ u.trouble pid = none ∧ u.atHand pid g = true) ∧
    (∃ (s : State), ∃ (u : State), ∃ (p : Nat), ∃ (addr : Nat), ∃ (len : Nat), ∃ (ide : Option Nat), ∃ (r : Nat), ∃ (off : Nat), ∃ (e : Ext), ∃ (pid : Nat), ∃ (g : Page), s.carries p = true ∧ (s.port p).drops ide = false ∧ len ≠ 0 ∧ addr % 64 + len ≤ 64 ∧ u = s.atBar p ∧ u.cxlTarget p addr len ide = .extent r off e ∧ e.view = none ∧ u.pageAt (.group e.group) (off / 65536) = some pid ∧ u.pages.get? pid = some g ∧ u.trouble pid = none ∧ u.atHand pid g = false) ∧
    (∃ (s : State), ∃ (u : State), ∃ (p : Nat), ∃ (addr : Nat), ∃ (len : Nat), ∃ (ide : Option Nat), ∃ (n : Nat), ∃ (off : Nat), s.carries p = true ∧ (s.port p).drops ide = false ∧ len ≠ 0 ∧ addr % 64 + len ≤ 64 ∧ u = s.atBar p ∧ u.cxlTarget p addr len ide = .mailbox n off) ∧
    (∃ (s : State), ∃ (u : State), ∃ (p : Nat), ∃ (addr : Nat), ∃ (len : Nat), ∃ (ide : Option Nat), ∃ (r : Nat), ∃ (off : Nat), ∃ (e : Ext), ∃ (v : View), ∃ ex, s.carries p = true ∧ (s.port p).drops ide = false ∧ len ≠ 0 ∧ addr % 64 + len ≤ 64 ∧ u = s.atBar p ∧ u.cxlTarget p addr len ide = .extent r off e ∧ e.view = some v ∧ u.viewRec r = some (e, v) ∧ (∀ a ∈ u.viewAsks v off len (u.viewCached p r), u.trouble a.1 = none ∧ ∃ g, u.pages.get? a.1 = some g ∧ u.atHand a.1 g = true) ∧ ex = u.viewTiles u.trouble (u.viewCached p r) e v off len) ∧
    (∃ (s : State), ∃ (u : State), ∃ (p : Nat), ∃ (addr : Nat), ∃ (len : Nat), ∃ (ide : Option Nat), ∃ (c : CxlTarget), s.carries p = true ∧ (s.port p).drops ide = false ∧ len ≠ 0 ∧ addr % 64 + len ≤ 64 ∧ u = s.atBar p ∧ u.cxlTarget p addr len ide = c ∧ c ∈ [CxlTarget.dead, .insecure, .parked, .miss, .refused]) ∧
    (∃ (s : State), ∃ (id : Nat), ∃ (r : ReadWait), s.running = true ∧ s.reads.find? (fun r => r.id == id && r.peer.isNone) = some r) :=
  ⟨⟨wPool, _, 0, 0x100020000, 64, none, 2, 0x20000, wRec, _, by decide +kernel, by decide +kernel, by decide +kernel, by decide +kernel, rfl, by decide +kernel, by decide +kernel, by decide +kernel, rfl⟩,
   by
    refine ⟨({ wPool with pages := [(10, { st := .kiln, owner := .extent 0 0, tenant := 5, stack := 0, failed := some .integrity })] }), _, 0, 0x100000000, 64, none, 2, 0, wRec, _, _, ?_, ?_, ?_, ?_, rfl, ?_, ?_, rfl, rfl, ?_, ?_⟩ <;> decide +kernel,
   by
    refine ⟨wPool, _, 0, 0x100000000, 64, none, 2, 0, wRec, _, _, ?_, ?_, ?_, ?_, rfl, ?_, ?_, rfl, rfl, ?_, ?_⟩ <;> decide +kernel,
   by
    refine ⟨(wKiln .kiln), _, 0, 0x100000000, 64, none, 2, 0, wRec, _, _, ?_, ?_, ?_, ?_, rfl, ?_, ?_, rfl, rfl, ?_, ?_⟩ <;> decide +kernel,
   ⟨({ wPool with slots := [(4, { bound := true, partner := 3, tenant := 5, mark := some 5, mailboxEn := true, mboxBase := 0x100000000 })] }), _, 0, 0x100000000, 64, none, 4, 0, by decide +kernel, by decide +kernel, by decide +kernel, by decide +kernel, rfl, by decide +kernel⟩,
   by
    refine ⟨wView, _, 0, 0x100200000, 64, none, 3, 0, ({ wRec with dpa := 0x200000, group := 1, view := some ⟨2, 0, 1, 0⟩ }), (⟨2, 0, 1, 0⟩), _, ?_, ?_, ?_, ?_, rfl, ?_, ?_, ?_, ?_, rfl⟩ <;> decide +kernel,
   ⟨wPool, _, 0, 0x100200000, 64, none, .miss, by decide +kernel, by decide +kernel, by decide +kernel, by decide +kernel, rfl, by decide +kernel, by decide +kernel⟩,
   ⟨({ wPool with reads := [{ id := 7, port := 0, len := 64, target := .page 10 0, pages := [10], record := 2, arrival := 0 }] }), 7, _, by decide +kernel, rfl⟩⟩

theorem witness_CxlWritesReachMemory :
    (∃ (s : State), ∃ (u : State), ∃ (p : Nat), ∃ (addr : Nat), ∃ (bs : List Byte), ∃ (ide : Option Nat), ∃ (r : Nat), ∃ (off : Nat), ∃ (e : Ext), ∃ (w : WaitWrite), ∃ (pid : Nat), ∃ (g : Page), s.carries p = true ∧ (s.port p).drops ide = false ∧ bs.length ≠ 0 ∧ addr % 64 + bs.length ≤ 64 ∧ u = s.atBar p ∧ u.cxlTarget p addr bs.length ide = .extent r off e ∧ u.viewGuard r = false ∧ u.kln.pendWait = [] ∧ u.pageAt (.group e.group) (off / 65536) = some pid ∧ u.pages.get? pid = some g ∧ w = ({ port := p, peer := none, record := r, pieces := [(pid, off % 65536, bs)], since := u.tim.clock } : WaitWrite) ∧ u.takesNow pid g = true) ∧
    (∃ (s : State), ∃ (u : State), ∃ (p : Nat), ∃ (addr : Nat), ∃ (bs : List Byte), ∃ (ide : Option Nat), ∃ (r : Nat), ∃ (off : Nat), ∃ (e : Ext), ∃ (w : WaitWrite), ∃ (pid : Nat), ∃ (g : Page), s.carries p = true ∧ (s.port p).drops ide = false ∧ bs.length ≠ 0 ∧ addr % 64 + bs.length ≤ 64 ∧ u = s.atBar p ∧ u.cxlTarget p addr bs.length ide = .extent r off e ∧ u.viewGuard r = false ∧ u.kln.pendWait = [] ∧ u.pageAt (.group e.group) (off / 65536) = some pid ∧ u.pages.get? pid = some g ∧ w = ({ port := p, peer := none, record := r, pieces := [(pid, off % 65536, bs)], since := u.tim.clock } : WaitWrite) ∧ u.takesNow pid g = false ∧ u.trouble pid = none ∧ u.fullFor w 0 = false ∧ u.fullFor w 1 = false) ∧
    (∃ (s : State), ∃ (u : State), ∃ (p : Nat), ∃ (addr : Nat), ∃ (bs : List Byte), ∃ (ide : Option Nat), ∃ (r : Nat), ∃ (off : Nat), ∃ (e : Ext), ∃ (w : WaitWrite), ∃ (pid : Nat), ∃ (g : Page), s.carries p = true ∧ (s.port p).drops ide = false ∧ bs.length ≠ 0 ∧ addr % 64 + bs.length ≤ 64 ∧ u = s.atBar p ∧ u.cxlTarget p addr bs.length ide = .extent r off e ∧ u.viewGuard r = false ∧ u.kln.pendWait = [] ∧ u.pageAt (.group e.group) (off / 65536) = some pid ∧ u.pages.get? pid = some g ∧ w = ({ port := p, peer := none, record := r, pieces := [(pid, off % 65536, bs)], since := u.tim.clock } : WaitWrite) ∧ u.trouble pid ≠ none) ∧
    (∃ (s : State), ∃ (u : State), ∃ (p : Nat), ∃ (addr : Nat), ∃ (bs : List Byte), ∃ (ide : Option Nat), ∃ (n : Nat), ∃ (off : Nat), s.carries p = true ∧ (s.port p).drops ide = false ∧ bs.length ≠ 0 ∧ addr % 64 + bs.length ≤ 64 ∧ u = s.atBar p ∧ u.cxlTarget p addr bs.length ide = .mailbox n off) ∧
    (∃ (s : State), ∃ (u : State), ∃ (p : Nat), ∃ (addr : Nat), ∃ (bs : List Byte), ∃ (ide : Option Nat), ∃ (r : Nat), ∃ (off : Nat), ∃ (e : Ext), s.carries p = true ∧ (s.port p).drops ide = false ∧ bs.length ≠ 0 ∧ addr % 64 + bs.length ≤ 64 ∧ u = s.atBar p ∧ u.cxlTarget p addr bs.length ide = .extent r off e ∧ u.viewGuard r = true) ∧
    (∃ (s : State), ∃ (u : State), ∃ (p : Nat), ∃ (addr : Nat), ∃ (bs : List Byte), ∃ (ide : Option Nat), ∃ (c : CxlTarget), s.carries p = true ∧ (s.port p).drops ide = false ∧ bs.length ≠ 0 ∧ addr % 64 + bs.length ≤ 64 ∧ u = s.atBar p ∧ u.cxlTarget p addr bs.length ide = c ∧ c ∈ [CxlTarget.dead, .insecure, .parked, .miss, .refused]) :=
  ⟨by
    refine ⟨wPool, _, 0, 0x100000000, ((List.range 64).map (BitVec.ofNat 8)), none, 2, 0, wRec, ({ port := 0, peer := none, record := 2, pieces := [(10, 0, (List.range 64).map (BitVec.ofNat 8))], since := 0 }), _, _, ?_, ?_, ?_, ?_, rfl, ?_, ?_, ?_, rfl, rfl, ?_, ?_⟩ <;> decide +kernel,
   ⟨(wKiln .kiln), _, 0, 0x100000000, ((List.range 64).map (BitVec.ofNat 8)), none, 2, 0, wRec, ({ port := 0, peer := none, record := 2, pieces := [(10, 0, (List.range 64).map (BitVec.ofNat 8))], since := 0 }), _, _, by decide +kernel, by decide +kernel, by decide +kernel, by decide +kernel, rfl, by decide +kernel, by decide +kernel, by decide +kernel, rfl, rfl, by and_intros <;> decide +kernel⟩,
   by
    refine ⟨({ wPool with pages := [(10, { st := .kiln, owner := .extent 0 0, tenant := 5, stack := 0, failed := some .integrity })] }), _, 0, 0x100000000, ((List.range 64).map (BitVec.ofNat 8)), none, 2, 0, wRec, ({ port := 0, peer := none, record := 2, pieces := [(10, 0, (List.range 64).map (BitVec.ofNat 8))], since := 0 }), _, _, ?_, ?_, ?_, ?_, rfl, ?_, ?_, ?_, rfl, rfl, ?_, ?_⟩ <;> decide +kernel,
   ⟨({ wPool with slots := [(4, { bound := true, partner := 3, tenant := 5, mark := some 5, mailboxEn := true, mboxBase := 0x100000000 })] }), _, 0, 0x100000000, ((List.range 64).map (BitVec.ofNat 8)), none, 4, 0, by decide +kernel, by decide +kernel, by decide +kernel, by decide +kernel, rfl, by decide +kernel⟩,
   ⟨wView, _, 0, 0x100200000, ((List.range 64).map (BitVec.ofNat 8)), none, 3, 0, ({ wRec with dpa := 0x200000, group := 1, view := some ⟨2, 0, 1, 0⟩ }), by decide +kernel, by decide +kernel, by decide +kernel, by decide +kernel, rfl, by decide +kernel, by decide +kernel⟩,
   ⟨wPool, _, 0, 0x100200000, ((List.range 64).map (BitVec.ofNat 8)), none, .miss, by decide +kernel, by decide +kernel, by decide +kernel, by decide +kernel, rfl, by decide +kernel, by decide +kernel⟩⟩

theorem witness_PeerWindowsServe :
    (∃ (s : State), ∃ (u : State), ∃ (p : Nat), ∃ (addr : Nat), ∃ (len : Nat), ∃ (n : Nat), ∃ (wr : Option (List Byte)), ∃ (ide : Option Nat), p < Config.nPorts ∧ (s.port p).width ≠ 0 ∧ s.serving = true ∧ (len = (match wr with | some bs => bs.length | none => n)) ∧ len ≠ 0 ∧ addr % 4096 + len ≤ 4096 ∧ (s.port p).admits ide = true ∧ (s.port p).drops ide = false ∧ u = s.atBar p ∧ u.parkRefuses = true) ∧
    (∃ (s : State), ∃ (u : State), ∃ (p : Nat), ∃ (pbr : Nat), ∃ (addr : Nat), ∃ (len : Nat), ∃ (n : Nat), ∃ (wr : Option (List Byte)), ∃ (ide : Option Nat), p < Config.nPorts ∧ (s.port p).width ≠ 0 ∧ s.serving = true ∧ (len = (match wr with | some bs => bs.length | none => n)) ∧ len ≠ 0 ∧ addr % 4096 + len ≤ 4096 ∧ (s.port p).admits ide = true ∧ (s.port p).drops ide = false ∧ u = s.atBar p ∧ u.parkRefuses = false ∧ u.windowFor pbr addr wr.isSome = none) ∧
    (∃ (s : State), ∃ (u : State), ∃ (p : Nat), ∃ (pbr : Nat), ∃ (addr : Nat), ∃ (len : Nat), ∃ (n : Nat), ∃ (off : Nat), ∃ (wr : Option (List Byte)), ∃ (ide : Option Nat), ∃ k, ∃ (w : Window), p < Config.nPorts ∧ (s.port p).width ≠ 0 ∧ s.serving = true ∧ (len = (match wr with | some bs => bs.length | none => n)) ∧ len ≠ 0 ∧ addr % 4096 + len ≤ 4096 ∧ (s.port p).admits ide = true ∧ (s.port p).drops ide = false ∧ u = s.atBar p ∧ u.parkRefuses = false ∧ u.windowFor pbr addr wr.isSome = some (k, w) ∧ off = w.offset * Config.granuleBytes + (addr - w.base) ∧ (∀ e, u.pool.recs.get? w.record = some e → e.st ≠ .active ∨ u.pool.actBorn.get? k ≠ some e.born)) ∧
    (∃ (s : State), ∃ (u : State), ∃ (p : Nat), ∃ (pbr : Nat), ∃ (addr : Nat), ∃ (len : Nat), ∃ (n : Nat), ∃ (off : Nat), ∃ (wr : Option (List Byte)), ∃ (ide : Option Nat), ∃ k, ∃ (w : Window), ∃ (e : Ext), p < Config.nPorts ∧ (s.port p).width ≠ 0 ∧ s.serving = true ∧ (len = (match wr with | some bs => bs.length | none => n)) ∧ len ≠ 0 ∧ addr % 4096 + len ≤ 4096 ∧ (s.port p).admits ide = true ∧ (s.port p).drops ide = false ∧ u = s.atBar p ∧ u.parkRefuses = false ∧ u.windowFor pbr addr wr.isSome = some (k, w) ∧ off = w.offset * Config.granuleBytes + (addr - w.base) ∧ u.pool.recs.get? w.record = some e ∧ e.st = .active ∧ u.pool.actBorn.get? k = some e.born ∧ u.viewGuard w.record = true ∧ wr.isSome = true) ∧
    (∃ (s : State), ∃ (u : State), ∃ (p : Nat), ∃ (pbr : Nat), ∃ (addr : Nat), ∃ (len : Nat), ∃ (n : Nat), ∃ (off : Nat), ∃ (wr : Option (List Byte)), ∃ (ide : Option Nat), ∃ k, ∃ (w : Window), ∃ (e : Ext), ∃ (pid : Nat), ∃ (g : Page), ∃ (bs : List Byte), p < Config.nPorts ∧ (s.port p).width ≠ 0 ∧ s.serving = true ∧ (len = (match wr with | some bs => bs.length | none => n)) ∧ len ≠ 0 ∧ addr % 4096 + len ≤ 4096 ∧ (s.port p).admits ide = true ∧ (s.port p).drops ide = false ∧ u = s.atBar p ∧ u.parkRefuses = false ∧ u.windowFor pbr addr wr.isSome = some (k, w) ∧ off = w.offset * Config.granuleBytes + (addr - w.base) ∧ u.pool.recs.get? w.record = some e ∧ e.st = .active ∧ u.pool.actBorn.get? k = some e.born ∧ e.view = none ∧ u.pageAt (.group e.group) (off / 65536) = some pid ∧ u.pages.get? pid = some g ∧ wr = some bs ∧ u.viewGuard w.record = false ∧ u.kln.pendWait = [] ∧ u.takesNow pid g = true) ∧
    (∃ (s : State), ∃ (u : State), ∃ (p : Nat), ∃ (pbr : Nat), ∃ (addr : Nat), ∃ (len : Nat), ∃ (n : Nat), ∃ (off : Nat), ∃ (wr : Option (List Byte)), ∃ (ide : Option Nat), ∃ k, ∃ (w : Window), ∃ (e : Ext), ∃ (pid : Nat), ∃ (g : Page), p < Config.nPorts ∧ (s.port p).width ≠ 0 ∧ s.serving = true ∧ (len = (match wr with | some bs => bs.length | none => n)) ∧ len ≠ 0 ∧ addr % 4096 + len ≤ 4096 ∧ (s.port p).admits ide = true ∧ (s.port p).drops ide = false ∧ u = s.atBar p ∧ u.parkRefuses = false ∧ u.windowFor pbr addr wr.isSome = some (k, w) ∧ off = w.offset * Config.granuleBytes + (addr - w.base) ∧ u.pool.recs.get? w.record = some e ∧ e.st = .active ∧ u.pool.actBorn.get? k = some e.born ∧ e.view = none ∧ u.pageAt (.group e.group) (off / 65536) = some pid ∧ u.pages.get? pid = some g ∧ wr = none ∧ u.trouble pid = none ∧ u.atHand pid g = true) :=
  ⟨by
    refine ⟨({ wWin with pwr := { state := .parked } }), _, 0, 0x10000000, _, 8, none, none, ?_, ?_, ?_, rfl, ?_, ?_, ?_, ?_, rfl, ?_⟩ <;> decide +kernel,
   by
    refine ⟨({ wWin with pool := { wWin.pool with actBorn := [(0, 0)] } }), _, 0, 3, 0x20000000, _, 8, none, none, ?_, ?_, ?_, rfl, ?_, ?_, ?_, ?_, rfl, ?_, ?_⟩ <;> decide +kernel,
   by
    refine ⟨({ wWin with pool := { wWin.pool with recs := [(2, { wRec with st := .draining })] } }), _, 0, 3, 0x10000000, _, 8, _, none, none, _, _, ?_, ?_, ?_, rfl, ?_, ?_, ?_, ?_, rfl, ?_, rfl, rfl, ?_⟩ <;> decide +kernel,
   by
    refine ⟨({ wWin with pool := { wWin.pool with actBorn := [(0, 0)], recs := [(2, wRec), (3, { wRec with dpa := 0x200000, group := 1, view := some ⟨2, 0, 1, 0⟩ })], groups := wWin.pool.groups ++ [(1, { tenant := 5, granules := 1, creator := 0, memory := false })], nextGroup := 2 } }), _, 0, 3, 0x10000000, _, 8, _, (some [1,2,3]), none, _, _, _, ?_, ?_, ?_, rfl, ?_, ?_, ?_, ?_, rfl, ?_, rfl, rfl, rfl, by and_intros <;> decide +kernel⟩ <;> decide +kernel,
   by
    refine ⟨({ wWin with pool := { wWin.pool with actBorn := [(0, 0)] } }), ({ wWin with pool := { wWin.pool with actBorn := [(0, 0)] } }), 0, 3, 0x10000000, 3, 8, 0, (some [1,2,3]), none, 0, ({ baseLo := 0x10000000, size := 1, tgt := 2, off := 0, src := 3, ctl := 7 }), wRec, 10, _, [1,2,3], ?_, ?_, ?_, ?_, ?_, ?_, ?_, ?_, ?_, ?_, ?_, ?_, ?_, ?_, ?_, ?_, ?_, rfl, by and_intros <;> decide +kernel⟩ <;> decide +kernel,
   by
    refine ⟨({ wWin with pool := { wWin.pool with actBorn := [(0, 0)] } }), ({ wWin with pool := { wWin.pool with actBorn := [(0, 0)] } }), 0, 3, 0x10000000, 8, 8, 0, none, none, 0, ({ baseLo := 0x10000000, size := 1, tgt := 2, off := 0, src := 3, ctl := 7 }), wRec, 10, _, ?_, ?_, ?_, ?_, ?_, ?_, ?_, ?_, ?_, ?_, ?_, ?_, ?_, ?_, ?_, ?_, ?_, rfl, by and_intros <;> decide +kernel⟩ <;> decide +kernel⟩

theorem witness_JournalIsExported :
    (∃ (s : State), ∃ (ses : Nat), ∃ (first : Nat), ∃ (count : Nat), ∃ (rs : List JrnRec), Commanded s ses ∧ s.Unparked ∧ rs = s.jrn.recs.filter (fun r => decide (first ≤ r.index) && decide (r.index < first + count)) ∧ rs.length < count) ∧
    (∃ (s : State), ∃ (ses : Nat), ∃ (tenant : Nat), ∃ (cask : Nat), ∃ (first : Nat), ∃ (count : Nat), ∃ (rs : List JrnRec), ∃ u, Commanded s ses ∧ s.Unparked ∧ rs = s.jrn.recs.filter (fun r => decide (first ≤ r.index) && decide (r.index < first + count)) ∧ count ≤ rs.length ∧ s.tenantActive tenant = true ∧ s.rst.devFault = false ∧ s.awaken.exportTo tenant cask (rs.flatMap jrnBytes) = .inr u) :=
  ⟨⟨wUp, 1, 0, 1, _, ⟨by decide +kernel, by decide +kernel, by decide +kernel, by decide +kernel⟩, by unfold State.Unparked; decide, rfl, by decide +kernel⟩,
   (have ⟨u, e⟩ := wJrn_exported
  ⟨wJrn, 1, 5, 77, 0, 2, _, u, ⟨by decide, by decide, by decide, by decide⟩, by unfold State.Unparked; decide, rfl, by decide, by decide, by decide, e⟩)⟩

theorem witness_OnlyTheOwnerIsObeyed : ∃ (c : Instr), ∃ (ses : Nat), ∃ (s : State), c.session = some ses ∧ s.endpointUp = true ∧ s.authorised ses = false :=
  ⟨(.tenantCreate 9 5 16), 9, wUp, by and_intros <;> decide +kernel⟩

theorem witness_LockHoldsUntilReset : ∃ (s : State), ∃ (t : State), s.sec.lock = true ∧ step s = .next t :=
  ⟨{ wPool with rst := { stage := .off }, sec := { wUp.sec with lock := true } }, _, rfl, rfl⟩

theorem witness_MemoryStaysCanonical : ∃ (s : State), ∃ (t : State), s.Canonical ∧ step s = .next t :=
  ⟨{ wPool with rst := { stage := .off }, sec := { wUp.sec with lock := true } }, _, ⟨by decide, by decide, by decide⟩, rfl⟩

theorem witness_CountersStayInRange : ∃ (s : State), ∃ (t : State), s.InRange ∧ step s = .next t :=
  ⟨{ wPool with rst := { stage := .off }, sec := { wUp.sec with lock := true } }, _, ⟨by decide, by decide, by decide, by decide, by decide, by decide, by decide, by decide, by decide, fun p h log => (List.length_filter_le _ _).trans ((by decide : ∀ p ∈ State.ports { wPool with rst := { stage := .off }, sec := { wUp.sec with lock := true } }, p.2.events.length ≤ 64) p h)⟩, rfl⟩

theorem witness_AbsentUnitsReadZero :
    (∃ (s : State), ∃ (who : Accessor), ∃ (off : Nat), s.fuses.variant = .sk440 ∧ off ∈ [0x101C, 0x1020, 0x1024, 0x1028] ∧ s.latch? who off = none) ∧
    (∃ (s : State), ∃ (who : Accessor), ∃ (k : Nat), s.fuses.variant = .sk470 ∧ k < 16 ∧ 4 ≤ k % 8 ∧ s.latch? who 0x1010 = none) :=
  ⟨⟨({ wUp with fuses := { variant := .sk440 } }), .mgmt, 0x101C, by and_intros <;> decide +kernel⟩,
   ⟨({ wUp with fuses := { variant := .sk470 } }), .mgmt, 15, by and_intros <;> decide +kernel⟩⟩

theorem witness_HighWordIsLatched :
    (∃ (s : State), ∃ (u : State), ∃ (who : Accessor), ∃ (off : Nat), ∃ (v : Nat), s.wide off = some v ∧ u.latches = (s.readReg who off).2.latches) ∧
    (∃ (s : State), ∃ (u : State), ∃ (who : Accessor), ∃ (off : Nat), ∃ (v : Nat), ∃ (w : Accessor), ∃ (o : Nat), s.wide off = some v ∧ u.latches = (s.readReg who off).2.latches ∧ (w, o) ≠ (who, off + 4)) :=
  ⟨⟨({ wUp with tim := { time := 0x1122334455667788 } }), ({ wPool with latches := (({ wUp with tim := { time := 0x1122334455667788 } }).readReg .mgmt 0x40000).2.latches }), .mgmt, 0x40000, _, rfl, by decide⟩,
   ⟨({ wUp with tim := { time := 0x1122334455667788 } }), ({ wPool with latches := (({ wUp with tim := { time := 0x1122334455667788 } }).readReg .mgmt 0x40000).2.latches }), .mgmt, 0x40000, _, (.port 3), 0x40004, rfl, by decide, by decide⟩⟩

theorem witness_PpsEdgeIsCaptured :
    (∃ (s : State), ∃ (x : PpsPulse), s.running = true ∧ 100 ≤ x.highNs ∧ (∀ e, s.tim.lastEdge = some e → e + 500000000 ≤ s.tim.clock)) ∧
    (∃ (s : State), ∃ (x : PpsPulse), ∃ (e : Nat), s.running = true ∧ 100 ≤ x.highNs ∧ s.tim.lastEdge = some e ∧ s.tim.clock < e + 500000000) ∧
    (∃ (x : PpsPulse), x.highNs < 100) ∧
    (∃ (s : State), ∃ (low : Nat), s.pins.devRstLow = false ∧ 1000 ≤ low ∧ s.rst.flush ≠ .running ∧ s.rst.stage ≠ .off) :=
  ⟨⟨wUp, ({ highNs := 100, adjust := 5 }), by and_intros <;> decide +kernel⟩,
   ⟨({ wUp with tim := { clock := 499999999, lastEdge := some 0 } }), ({ highNs := 100, adjust := 5 }), 0, by and_intros <;> decide +kernel⟩,
   ⟨({ highNs := 99, adjust := 5 }), by decide⟩,
   ⟨wUp, 1000, by and_intros <;> decide +kernel⟩⟩

theorem witness_FlushOutlivesReset :
    (∃ (s : State), ∃ (low : Nat), s.pins.devRstLow = false ∧ 1000 ≤ low ∧ s.rst.flush = .running) ∧
    (∃ (s : State), s.rst.flush = .running ∧ s.rst.deferredReset = true) :=
  ⟨⟨({ wPool with rst := { wUp.rst with flush := .running } }), 1000, by and_intros <;> decide +kernel⟩,
   ⟨({ wPool with rst := { wUp.rst with flush := .running, deferredReset := true } }), by decide, by decide⟩⟩

end Sys2Proof.Tests
end

section
/-! SUPPORT. The statements of 00_scope.md: geometry entries of absent units (R4, R412) and the high-word latches (R10, R408). -/

namespace Sys2Proof.Machine

/-! ### High-word latches -/

@[simp] theorem State.latch?_setLatch_self (s : State) (who : Accessor) (off : Nat) (w : Option Word) :
    (s.setLatch who off w).latch? who off = w := by
  have hold : (s.latches.filter (fun l => !(l.1 == who && l.2.1 == off))).find? (fun l => l.1 == who && l.2.1 == off) = none := by
    simp only [List.find?_eq_none, List.mem_filter]
    rintro l ⟨-, hl⟩ hq
    simp [hq] at hl
  rw [State.latch?, State.setLatch, List.find?_append, hold]
  cases w <;> simp

theorem State.latch?_setLatch_of_ne (s : State) {who who' : Accessor} {off off' : Nat} (w : Option Word)
    (hne : (who', off') ≠ (who, off)) :
    (s.setLatch who off w).latch? who' off' = s.latch? who' off' := by
  have hkept : ∀ l : Accessor × Nat × Word,
      (!(l.1 == who && l.2.1 == off) && (l.1 == who' && l.2.1 == off')) = (l.1 == who' && l.2.1 == off') := by
    rintro ⟨a, o, v⟩
    by_cases h : (a, o) = (who', off')
    · obtain ⟨rfl, rfl⟩ := Prod.mk.inj h
      have hdiff : (a == who && o == off) = false := by simpa using hne
      simp only [hdiff, Bool.not_false, Bool.true_and]
    · have hno : (a == who' && o == off') = false := by simpa using h
      simp only [hno, Bool.and_false]
  have hnew : (w.map (fun v => (who, off, v))).toList.find? (fun l => l.1 == who' && l.2.1 == off') = none := by
    cases w with
    | none => rfl
    | some v => simpa using hne.symm
  simp only [State.latch?, State.setLatch, List.find?_append, List.find?_filter, Bool.decide_and, Bool.decide_eq_true, hkept, hnew, Option.or_none]

/-- A latch of `s` stands in every state with the same latches. -/
theorem State.latch?_congr {s u : State} (h : u.latches = s.latches) (who : Accessor) (off : Nat) :
    u.latch? who off = s.latch? who off := by
  rw [State.latch?, State.latch?, h]

/-! ### Reads of registers -/

theorem State.readReg_wide {s : State} {off v : Nat} (h : s.wide off = some v) (who : Accessor) :
    s.readReg who off = (w32 (v % 2 ^ 32), s.setLatch who (off + 4) (some (w32 (v / 2 ^ 32)))) := by
  simp only [State.readReg, h]

theorem State.readReg_latched {s : State} {who : Accessor} {off : Nat} {w : Word} (hw : s.wide off = none) (hl : s.latch? who off = some w) :
    s.readReg who off = (w, s.setLatch who off none) := by
  simp only [State.readReg, hw, hl]

theorem State.readReg_live {s : State} {who : Accessor} {off : Nat} (hw : s.wide off = none) (hl : s.latch? who off = none) :
    s.readReg who off = (w32 (s.regNow who off), s) := by
  simp only [State.readReg, hw, hl]

/-- The register after the low word of a 64-bit counter is the low word of no counter, in any state. -/
theorem State.wide_add_four {s : State} {off v : Nat} (h : s.wide off = some v) (u : State) : u.wide (off + 4) = none := by
  unfold State.wide at h
  split at h
  case h_14 => cases h
  all_goals rfl

/-! ### The geometry table -/

/-- The geometry table's page of BAR0 holds no 64-bit counter. -/
theorem State.wide_geometry (s : State) {off : Nat} (hlo : 0x1000 ≤ off) (hhi : off < 0x2000) : s.wide off = none := by
  unfold State.wide
  split
  case h_14 => rfl
  all_goals omega

theorem State.regNow_geometry (s : State) (who : Accessor) {off : Nat} (hlo : 0x1004 ≤ off) (hhi : off < 0x2000) :
    s.regNow who off = s.geoWord (off - 0x1000) := by
  have hpage : off / 65536 = 0 := by omega
  simp [State.regNow, s.wide_geometry (show 0x1000 ≤ off by omega) hhi, s.wide_geometry (show 0x1000 ≤ off - 4 by omega) (by omega), hpage, hhi,
    show 4 ≤ off by omega, show ¬ off < 0x1000 by omega]

theorem State.readReg_geometry {s : State} {who : Accessor} {off : Nat} (hlo : 0x1004 ≤ off) (hhi : off < 0x2000) (hl : s.latch? who off = none) :
    s.readReg who off = (w32 (s.geoWord (off - 0x1000)), s) := by
  rw [State.readReg_live (s.wide_geometry (by omega) hhi) hl, s.regNow_geometry who hlo hhi]

theorem State.geoWord_array_absent {s : State} (h : s.hasArray = false) {off : Nat} (hoff : off ∈ [0x01C, 0x020, 0x024, 0x028]) :
    s.geoWord off = 0 := by
  simp only [List.mem_cons, List.not_mem_nil, or_false] at hoff
  obtain rfl | rfl | rfl | rfl := hoff <;> simp [State.geoWord, State.clusters, h]

theorem State.kilnPresent_sk470 {s : State} (h : s.fuses.variant = .sk470) {k : Nat} (hk : 4 ≤ k % 8) : s.kilnPresent k = false := by
  simp [State.kilnPresent, h, Nat.not_lt.mpr hk]

/-! ### Masks -/

theorem maskOf_succ (n : Nat) (f : Nat → Bool) : maskOf (n + 1) f = maskOf n f + b2n (f n) * 2 ^ n := by
  simp [maskOf, List.range_succ]

theorem maskOf_lt (n : Nat) (f : Nat → Bool) : maskOf n f < 2 ^ n := by
  induction n with
  | zero => simp [maskOf]
  | succ n ih => cases h : f n <;> simp [maskOf_succ, b2n, h, Nat.pow_succ] <;> omega

theorem bitN_eq_testBit (n i : Nat) : bitN n i = n.testBit i := by
  rw [bitN, Nat.testBit_eq_decide_div_mod_eq]
  rfl

/-- Bit `k` of a mask is its flag. -/
theorem testBit_maskOf {n k : Nat} (f : Nat → Bool) (hk : k < n) : (maskOf n f).testBit k = f k := by
  induction n with
  | zero => omega
  | succ n ih =>
    rw [maskOf_succ, Nat.add_comm, Nat.mul_comm, Nat.testBit_two_pow_mul_add _ (maskOf_lt n f)]
    by_cases hkn : k < n
    · simp [hkn, ih hkn]
    · obtain rfl : k = n := by omega
      cases f k <;> simp [b2n]

/-- K_PRESENT (R412): bit 16 + k of GEO_KILN is set where kiln stack k is in service. -/
theorem State.bit_geoKiln (s : State) {k : Nat} (hk : k < 16) : bit (w32 (s.geoWord 0x010)) (16 + k) = s.kilnPresent k := by
  have hgeo : s.geoWord 0x010 = 2 ^ 16 * maskOf 16 s.kilnPresent + 0x8000 := by
    simp [State.geoWord, Nat.mul_comm]
  have hbit : (s.geoWord 0x010).testBit (16 + k) = s.kilnPresent k := by
    rw [hgeo, Nat.testBit_two_pow_mul_add _ (by omega)]
    simp [testBit_maskOf s.kilnPresent hk]
  rw [bit, bitN_eq_testBit, w32, BitVec.toNat_ofNat, Nat.testBit_mod_two_pow, hbit]
  simp [show 16 + k < 32 by omega]

/-! ### The statements -/

/-- Settles O11: a read of the geometry page gives `geoWord`, whose array entries are masked by `hasArray` and whose kiln bits are `kilnPresent`. -/
theorem absentUnitsReadZero : Obligations.AbsentUnitsReadZero := by
  unfold Obligations.AbsentUnitsReadZero
  constructor
  · intro s who off hv hoff hl
    have harray : s.hasArray = false := by simp [State.hasArray, hv]
    simp only [List.mem_cons, List.not_mem_nil, or_false] at hoff
    have hentry : off - 0x1000 ∈ [0x01C, 0x020, 0x024, 0x028] := by
      simp only [List.mem_cons, List.not_mem_nil, or_false]
      omega
    rw [State.readReg_geometry (by omega) (by omega) hl, State.geoWord_array_absent harray hentry]
    rfl
  · intro s who k hv hk hk4 hl
    rw [State.readReg_geometry (by omega) (by omega) hl, s.bit_geoKiln hk, State.kilnPresent_sk470 hv hk4]

/-- Settles O12: no counter's low word stands at another's high word (`wide_add_four`), so the read of the high word meets the latch that the low read set. -/
theorem highWordIsLatched : Obligations.HighWordIsLatched := by
  unfold Obligations.HighWordIsLatched
  intro s u who off v hwide hu
  rw [State.readReg_wide hwide who] at hu ⊢
  have hlatched : u.latch? who (off + 4) = some (w32 (v / 2 ^ 32)) := by
    rw [State.latch?_congr hu, State.latch?_setLatch_self]
  rw [State.readReg_latched (State.wide_add_four hwide u) hlatched]
  exact ⟨rfl, rfl, u.latch?_setLatch_self .., rfl, fun _ _ hne => s.latch?_setLatch_of_ne _ hne⟩

end Sys2Proof.Machine
end

section
/-! SUPPORT. The statements of 13_time_faults_journal.md: the edges of PPS_IN (R380, R417) and what a recognised DEV_RST_N pulse leaves of the timers (R366). -/

namespace Sys2Proof.Machine

/-! ### Edges on PPS_IN -/

theorem exec_ppsIn (x : PpsPulse) (s : State) : exec (.ppsIn x) s = .next (ppsIn x s) := by
  rfl

/-- The choice of a capture's target draws at most a free value (log 2). -/
@[simp] theorem State.ppsTarget_tim (s : State) : s.ppsTarget.2.tim = s.tim := by
  unfold State.ppsTarget
  dsimp only
  split
  · rfl
  · split
    · rfl
    · split <;> rfl

/-- A correction moves TIME, its rate or the slew, and LOCKED with the good edges that lead to it (R381). -/
theorem Tim.correct_only (t : Tim) (c adjust : Int) :
    t.correct c adjust =
      { t with
        time := (t.correct c adjust).time, slewLeft := (t.correct c adjust).slewLeft, rate := (t.correct c adjust).rate
        goodEdges := (t.correct c adjust).goodEdges, locked := (t.correct c adjust).locked } := by
  unfold Tim.correct
  dsimp only
  split
  · split <;> rfl
  · rfl

@[simp] theorem Tim.correct_pps (t : Tim) (c adjust : Int) : (t.correct c adjust).pps = t.pps := by rw [t.correct_only]

@[simp] theorem Tim.correct_lastEdge (t : Tim) (c adjust : Int) : (t.correct c adjust).lastEdge = t.lastEdge := by rw [t.correct_only]

@[simp] theorem Tim.correct_rejectCnt (t : Tim) (c adjust : Int) : (t.correct c adjust).rejectCnt = t.rejectCnt := by rw [t.correct_only]

theorem ppsIn_short {x : PpsPulse} (h : x.highNs < 100) (s : State) : ppsIn x s = s := by
  simp [ppsIn, h]

theorem ppsIn_early {s : State} {x : PpsPulse} {e : Nat} (hrun : s.running = true) (hx : 100 ≤ x.highNs)
    (he : s.tim.lastEdge = some e) (hsoon : s.tim.clock < e + 500000000) :
    ppsIn x s = { s with tim := { s.tim with rejectCnt := inc32 s.tim.rejectCnt } } := by
  simp [ppsIn, hrun, Nat.not_lt.mpr hx, he, hsoon]

/-- An accepted edge captures TIME, clears HOLDOVER and ARM, and corrects towards the target (R380 to R382). -/
theorem ppsIn_accepted {s : State} {x : PpsPulse} (hrun : s.running = true) (hx : 100 ≤ x.highNs)
    (hlate : ∀ e, s.tim.lastEdge = some e → e + 500000000 ≤ s.tim.clock) :
    ppsIn x s =
      { s.ppsTarget.2 with
        tim := { s.tim with pps := s.tim.time, lastEdge := some s.tim.clock, holdover := false, ctl := s.tim.ctl &&& 0xBFFFFFFF }.correct
          ((s.ppsTarget.1 : Int) - (s.tim.time.toNat : Int)) x.adjust } := by
  cases hl : s.tim.lastEdge with
  | none => simp [ppsIn, hl, hrun, Nat.not_lt.mpr hx]
  | some e => simp [ppsIn, hl, hrun, Nat.not_lt.mpr hx, Nat.not_lt.mpr (hlate e hl)]

/-! ### DEV_RST_N -/

theorem exec_devRstN (low : Nat) (rel : Bool) (s : State) : exec (.devRstN low rel) s = .next (devRstN low rel s) := by
  rfl

/-- A pulse that is recognised out of a flush, while the device has power, resets it (R366, R420). -/
theorem devRstN_resets {s : State} {low : Nat} (rel : Bool) (hhigh : s.pins.devRstLow = false) (hlow : 1000 ≤ low)
    (hflush : s.rst.flush ≠ .running) (hon : s.rst.stage ≠ .off) :
    devRstN low rel s = { s with pins := { s.pins with devRstLow := !rel } }.deviceReset 2 false := by
  simp [devRstN, State.pinReset, hhigh, Nat.not_lt.mpr hlow, hflush, hon]

/-- A device reset starts the timers anew (R28, R379). -/
@[simp] theorem State.deviceReset_tim (s : State) (cause : BitVec 5) (power : Bool) : (s.deviceReset cause power).tim = {} := by
  rfl

/-! ### The statement -/

/-- Settles O13: `ppsIn` has three outcomes, for a short pulse, an early edge and an accepted one, and the correction that follows a capture touches neither TIM_PPS nor the last edge nor the count of rejections. -/
theorem ppsEdgeIsCaptured : Obligations.PpsEdgeIsCaptured := by
  unfold Obligations.PpsEdgeIsCaptured
  refine ⟨fun s x hrun hx hlate => ⟨ppsIn x s, exec_ppsIn x s, ?_⟩, fun s x e hrun hx he hsoon => ?_, fun s x hshort => ?_, rfl,
    fun s t low rel hhigh hlow hflush hon ht => ?_⟩
  · rw [ppsIn_accepted hrun hx hlate]
    simp
  · rw [exec_ppsIn, ppsIn_early hrun hx he hsoon]
  · rw [exec_ppsIn, ppsIn_short hshort]
  · rw [exec_devRstN, devRstN_resets rel hhigh hlow hflush hon] at ht
    cases ht
    rw [State.deviceReset_tim]

end Sys2Proof.Machine
end

section
/-! SUPPORT. The statement of 15_pins_and_package.md: the end of the flush (R138, R139) and the reset that has waited for it (R420). -/

namespace Sys2Proof.Machine

/-! ### What the flush's last work leaves as it is -/

/-- What neither the journal of the kiln, the ends of operations nor fault records touch: the chip, its reset block, the mark of the shutdown record, and the queue. -/
structure Standing where
  fuses : Fuses
  store : Store
  rst : Rst
  shutdownRecord : Bool
  pending : List Instr

def State.standing (s : State) : Standing := ⟨s.fuses, s.store, s.rst, s.kln.shutdownRecord, s.pending⟩

/-- A fold of steps that each keep it keeps it. -/
theorem State.standing_foldl {α : Type} {f : State → α → State} (hf : ∀ t a, (f t a).standing = t.standing) (l : List α) (s : State) :
    (l.foldl f s).standing = s.standing := by
  induction l generalizing s with
  | nil => rfl
  | cons a l ih => rw [List.foldl_cons, ih, hf]

theorem State.Regulated.standing {s t : State} (h : s.Regulated t) : t.standing = s.standing := by
  rw [h.2]
  rfl

theorem State.Journaled.standing {s t : State} (h : s.Journaled t) : t.standing = s.standing := by
  rw [h.2]
  rfl

@[simp] theorem State.setPort_standing (s : State) (p : Nat) (v : Port) : (s.setPort p v).standing = s.standing := rfl
@[simp] theorem State.setSlot_standing (s : State) (n : Nat) (v : Slot) : (s.setSlot n v).standing = s.standing := rfl
@[simp] theorem State.emit_standing (s : State) (o : Out) : (s.emit o).standing = s.standing := rfl
@[simp] theorem State.setVer_standing (s : State) (v : Nat) (w : Ver) : (s.setVer v w).standing = s.standing := rfl
@[simp] theorem State.dropHandle_standing (s : State) (n h : Nat) : (s.dropHandle n h).standing = s.standing := rfl
@[simp] theorem State.aer_standing (s : State) (p : Nat) (e : AerError) : (s.aer p e).standing = s.standing := rfl
@[simp] theorem State.fillSeg_standing (s : State) (g bytes live : Nat) : (s.fillSeg g bytes live).standing = s.standing := rfl
@[simp] theorem State.writeArea_standing (s : State) : s.writeArea.standing = s.standing := rfl

@[simp] theorem State.openWriter_standing (s : State) (ck : Nat) (base : Option Nat) (size : Nat) (shape : Option Shape) :
    (s.openWriter ck base size shape).2.standing = s.standing := rfl

@[simp] theorem State.journal_standing (s : State) (ty : Nat) (body : List Byte) : (s.journal ty body).standing = s.standing :=
  (State.Journaled.journal s ty body).standing

/-! ### Fault records (R384, R385) -/

@[simp] theorem State.leaveL1_standing (s : State) (p : Nat) : (s.leaveL1 p).standing = s.standing := by
  unfold State.leaveL1
  dsimp only
  split
  · simp
  · rfl

@[simp] theorem State.send_standing (s : State) (p : Nat) (o : Out) : (s.send p o).standing = s.standing := by
  unfold State.send
  dsimp only
  split
  · rfl
  · split <;> simp

@[simp] theorem State.signal_standing (s : State) (p v : Nat) : (s.signal p v).standing = s.standing := by
  unfold State.signal
  dsimp only
  split
  · rfl
  · split <;> simp
  · split <;> simp

@[simp] theorem State.logEvent_standing (s : State) (p log : Nat) (body : List Nat) : (s.logEvent p log body).standing = s.standing := by
  unfold State.logEvent
  dsimp only
  split
  · simp
  · split <;> simp

@[simp] theorem State.raise_standing (s : State) (code : Nat) (u : UnitId) (action : Nat) (detail : List Nat) :
    (s.raise code u action detail).standing = s.standing := by
  unfold State.raise State.raiseN State.raiseAt
  extract_lets cls r f f1 _ s1 s2 s3
  have hwritten : s2.standing = s.standing := by
    rw [State.emit_standing, State.journal_standing]
    rfl
  have hlogged : s3.standing = s.standing := by
    rw [State.standing_foldl fun t p => t.logEvent_standing p _ _, hwritten]
  split
  · rw [State.standing_foldl fun t p => t.aer_standing p _, hlogged]
  · exact hlogged

/-! ### The journal of the kiln (R135, R434) -/

/-- Bytes counted into kiln raise at most the wear records (R136). -/
@[simp] theorem State.wrote_standing (s : State) (bytes : Nat) : (s.wrote bytes).standing = s.standing := by
  unfold State.wrote
  extract_lets n used _ s1 _ s2 _
  have hwarned : s2.standing = s.standing := by
    simp only [s2]
    split
    · rw [State.raise_standing]
      rfl
    · rfl
  split
  · rw [State.raise_standing, ← hwarned]
    rfl
  · exact hwarned

@[simp] theorem State.openSeg_standing (s : State) (k bytes : Nat) (want : SegState) : (s.openSeg k bytes want).2.standing = s.standing := by
  unfold State.openSeg
  extract_lets mine close full unlisted worn better best pick s1
  have hclosed : s1.standing = s.standing := by
    simp only [s1]
    split <;> rfl
  clear_value pick s1
  split
  · rfl
  · split
    · rfl
    · exact hclosed

@[simp] theorem State.chainWrite_standing (s : State) (k bytes : Nat) : (s.chainWrite k bytes).standing = s.standing := by
  unfold State.chainWrite
  dsimp only
  rw [State.standing_foldl, (State.Regulated.steepReq_device ..).standing]
  · rfl
  · intro t i
    have hopen := t.openSeg_standing k (min 67108864 (bytes - 67108864 * i)) .journal
    split
    · next h => simpa [h] using hopen
    · next h => simpa [h] using hopen

@[simp] theorem State.checkpoint_standing (s : State) : s.checkpoint.standing = s.standing := by
  unfold State.checkpoint State.fresh
  dsimp only
  rw [State.writeArea_standing, State.standing_foldl fun t k => t.chainWrite_standing k _]
  rfl

@[simp] theorem State.journalEntry_standing (s : State) (e : ChainEntry) : (s.journalEntry e).standing = s.standing := by
  unfold State.journalEntry State.journalBytes
  extract_lets s0 s1
  have hroom : s0.standing = s.standing := by
    simp only [s0]
    split
    · rw [State.checkpoint_standing]
      rfl
    · rfl
  rw [State.standing_foldl fun t k => t.chainWrite_standing k _, ← hroom]
  rfl

/-! ### Commits that end with the flush (R135, R138) -/

@[simp] theorem State.endStall_standing (s : State) (id : Nat) : (s.endStall id).standing = s.standing := by
  unfold State.endStall
  split
  · rfl
  · split <;> rfl

@[simp] theorem State.finish_standing (s : State) (o : Op) (r : Result) : (s.finish o r).standing = s.standing :=
  s.endStall_standing o.id

@[simp] theorem State.fail_standing (s : State) (o : Op) (st : Status) : (s.fail o st).standing = s.standing :=
  s.finish_standing o _

@[simp] theorem State.commitVersion_standing (s : State) (v : Nat) (journaled : Bool) : (s.commitVersion v journaled).standing = s.standing := by
  unfold State.commitVersion
  split <;> rfl

@[simp] theorem State.reopenVersion_standing (s : State) (v : Nat) : (s.reopenVersion v).standing = s.standing := by
  unfold State.reopenVersion
  split <;> rfl

@[simp] theorem State.journalCommit_standing (s : State) (v : Nat) : (s.journalCommit v).standing = s.standing := by
  unfold State.journalCommit
  extract_lets n s1 s2
  have hjournaled : s2.standing = s.standing := by
    rw [State.journalEntry_standing, State.wrote_standing]
    rfl
  exact hjournaled

@[simp] theorem State.parkDone_standing (s : State) (o : Op) (journaled : Bool) : (s.parkDone o journaled).standing = s.standing := by
  unfold State.parkDone
  dsimp only
  split
  · simp
  · split
    · simp
    · cases journaled <;> simp

@[simp] theorem State.onOp_standing (s : State) (id : Nat) {k : Op → State} (hk : ∀ o, (k o).standing = s.standing) :
    (s.onOp id k).standing = s.standing := by
  unfold State.onOp
  split
  · split
    · exact hk _
    · rfl
  · rfl

@[simp] theorem journalCommitDone_standing (op : Nat) (s : State) : (journalCommitDone op s).standing = s.standing := by
  unfold journalCommitDone
  refine s.onOp_standing op fun o => ?_
  split
  · rfl
  · split
    · rfl
    · split <;> simp

/-! ### The end of the flush (R138, R139, R420) -/

theorem exec_powerFailFlushDone (s : State) : exec .powerFailFlushDone s = .next (powerFailFlushDone s) := by
  rfl

/-- The end of a running flush completes it and writes its record; a reset pulse that has waited takes effect then. -/
theorem powerFailFlushDone_running {s : State} (hrun : s.rst.flush = .running) :
    ∃ u : State, u.standing = ⟨s.fuses, s.store, { s.rst with flush := .flushed }, true, s.pending⟩ ∧
      powerFailFlushDone s = if s.rst.deferredReset then u.deviceReset 2 false else u := by
  unfold powerFailFlushDone
  rw [if_neg (not_not_intro hrun)]
  extract_lets _ ops s1 _ _ s2
  have hcommits : s1.standing = s.standing := State.standing_foldl (fun t o => journalCommitDone_standing o t) ops s
  have hdone : s2.standing = ⟨s.fuses, s.store, { s.rst with flush := .flushed }, true, s.pending⟩ := by
    obtain ⟨hfuses, hstore, hrst, -, hpending⟩ := Standing.mk.inj hcommits
    rw [State.journalEntry_standing, ← hfuses, ← hstore, ← hrst, ← hpending]
    rfl
  refine ⟨s2, hdone, ?_⟩
  rw [show s2.rst = { s.rst with flush := .flushed } from congrArg Standing.rst hdone]

/-- A pulse that is recognised while the flush runs leaves its mark and no more (R420). -/
theorem devRstN_defers {s : State} {low : Nat} (rel : Bool) (hhigh : s.pins.devRstLow = false) (hlow : 1000 ≤ low)
    (hrun : s.rst.flush = .running) :
    devRstN low rel s = { s with pins := { s.pins with devRstLow := !rel }, rst := { s.rst with deferredReset := true } } := by
  simp [devRstN, State.pinReset, hhigh, Nat.not_lt.mpr hlow, hrun]

/-- A device reset adds its cause to RST_CAUSE, and POWER_FAIL where a flush preceded it (12, register tables). -/
theorem State.deviceReset_cause (s : State) (cause : BitVec 5) (power : Bool) :
    (s.deviceReset cause power).rst.cause = s.rst.cause ||| cause ||| if s.rst.flush = .none then 0 else 16 := by
  rfl

/-! ### The statement -/

/-- Settles O14: a pulse that meets the flush is deferred (`devRstN_defers`), and the flush's end is followed by the device reset from a state whose chip, cause and queue are those the flush began with (`powerFailFlushDone_running`). -/
theorem flushOutlivesReset : Obligations.FlushOutlivesReset := by
  unfold Obligations.FlushOutlivesReset
  refine ⟨fun s low rel hhigh hlow hrun => ?_, fun s hrun hdeferred => ?_⟩
  · rw [exec_devRstN, devRstN_defers rel hhigh hlow hrun]
  · obtain ⟨u, hu, hdone⟩ := powerFailFlushDone_running hrun
    rw [hdeferred, if_pos rfl] at hdone
    obtain ⟨hfuses, hstore, hrst, hrecord, hpending⟩ := Standing.mk.inj hu
    refine ⟨u.deviceReset 2 false, by rw [exec_powerFailFlushDone, hdone], rfl, rfl, ?_, hrecord, rfl, rfl, rfl, hfuses, hstore, hpending⟩
    rw [State.deviceReset_cause, hrst, if_neg Flush.noConfusion]

end Sys2Proof.Machine
end
